-- ==== Sys2Proof/Word.lean ====
section
/-!
DEFINITION. The plainest types of the Valdrif 4810: bytes, booth, channel and digit numbers, instants.
-/

namespace Sys2Proof

/-- One byte of a frame (12, opening paragraph). -/
abbrev Byte := BitVec 8

/-- A booth number 0–47 (00, Conventions). -/
abbrev Booth := Fin 48

/-- A trunk channel 0–63 (00, Conventions). -/
abbrev Channel := Fin 64

/-- A dialled digit: 0–9, `*` as 10 and `#` as 11, numbered as R185 encodes them. -/
abbrev Digit := Fin 12

/-- An instant or a length of time in units of 0.25 ms, the finest unit the spec uses (R128). -/
abbrev Instant := Nat

/-- A sparse table: keys rising, no entry equal to the default (`smWf` says so). -/
abbrev SMap (α : Type) := List (Nat × α)

/-- All booths, lowest first: the order in which a reset takes them (R164). -/
def allBooths : List Booth := List.finRange 48

end Sys2Proof
end

