-- ==== Sys2Proof/Config.lean ====
section
/-!
DEFINITION. What the manual leaves open: the free values of the model (constants without a body), and the
figures of the manual that several files use.
-/

namespace Sys2Proof

/-- FREE VALUE (log 20, DESIGN CHOICE). The units that SHOW UNITS carries for a card whose last known count is
above its face: the manual gives SHOW UNITS the range 0–4,095 (R136) and no value for remaining units below 0.
Arguments: the face units and the last known count. -/
opaque Config.shownUnitsBelowZero : Nat → Nat → Nat

/-- FREE VALUE (log 21, DESIGN CHOICE). The bytes of a FAULT READ reply whose field is absent (a free record, no
card, digits beyond the count): R187 fixes the length of the reply and says nothing of those bytes.
Argument: the offset of the byte in the data. -/
opaque Config.unstatedReplyByte : Nat → Byte

namespace Config

/-- Every counter stops here (R180). -/
def maxCounter : Nat := 4294967295

/-- The charged total, the duration, shortfall and unused stop here (R69, R121). -/
def maxQuanta : Nat := 4294967295

/-- The floor of the balance P (R70). -/
def minBalance : Int := -8388608

/-- Sequence numbers run from 1 to this value (R159). -/
def seqCycle : Nat := 4294967295

/-- Ticket Ring slots (R155). -/
def ringSlots : Nat := 512

/-- Tariff Cache entries (R42). -/
def cacheEntries : Nat := 32

/-- Stop List pool (R94). -/
def stopPool : Nat := 4096

/-- Entries one Stop List bucket may hold (R94). -/
def bucketMax : Nat := 12

/-- Signalling queue (R146). -/
def sigQueueMax : Nat := 64

/-- Reply queue (R151). -/
def replyQueueMax : Nat := 16

/-- Command queue (R145). -/
def cmdQueueMax : Nat := 8

/-- Digits the digit list and the held-digit list store (R1). -/
def digitsMax : Nat := 20

/-- Units of 0.25 ms in one second. -/
def second : Instant := 4000

/-- The 100 ms tick (R72) in units of 0.25 ms. -/
def tick : Instant := 400

/-- The 500 ms SYNC period (R142) in units of 0.25 ms. -/
def syncPeriod : Instant := 2000

/-- The 2 s silence time (R141) in units of 0.25 ms. -/
def silence : Instant := 8000

/-- One hundredth of a second in units of 0.25 ms. -/
def hundredth : Instant := 40

end Config

end Sys2Proof
end

