-- ==== Sys2Proof/Syntax.lean ====
section
/-!
DEFINITION. The commands the block takes: one constructor of `Instr` per row of spec/opcode_table.json, and the
frames, events and reasons they carry.
-/

namespace Sys2Proof

/-- The two booth lines (R124). -/
inductive Segment where
  | west
  | east
  deriving DecidableEq, Repr

/-- Why a received trunk frame is discarded: the first failure in the order of R143. -/
inductive TrunkDiscard where
  | badCrc
  | unknownKind
  | wrongLength
  | badChannel
  deriving DecidableEq, Repr

/-- The card record as the reader reports it (R80), in the widths of R189. -/
structure CardRecord where
  series : BitVec 16
  serial : BitVec 32
  face : BitVec 12
  cancelled : BitVec 12
  /-- expiry year − 2000 -/
  expiryYear : Byte
  expiryMonth : Byte
  check : BitVec 16
  deriving DecidableEq, Repr

/-- The events a booth queues and reports (R127). -/
inductive BoothEvent where
  | hookOff
  | hookOn
  | digit (d : Digit)
  | cardIn (record : CardRecord)
  | cardOut
  | readerFault
  deriving DecidableEq, Repr

/-- The reasons of a FAIL reply (R127, R189). -/
inductive FailReason where
  | noCard
  | wrongCard
  | writeError
  | readerFault
  deriving DecidableEq, Repr

/-- The reply kinds of a booth (R127, R189). -/
inductive BoothReply where
  | events (more batch status : Bool) (evs : List BoothEvent)
  | done (count : BitVec 16)
  | count (series : BitVec 16) (serial : BitVec 32) (count : BitVec 16)
  | ack
  | fail (reason : FailReason) (count : BitVec 16)
  deriving DecidableEq, Repr

/-- A command of the management centre as its COMMAND frame carries it (R187): originator, tag, code, argument
bytes. -/
structure Cmd where
  originator : Byte
  tag : Byte
  code : Byte
  args : List Byte
  deriving DecidableEq, Repr

/-- The commands of the block, one constructor per row of spec/opcode_table.json.
A command row of the management centre (`treeWrite` and the others with `o t args`) is the Management Unit taking
that command: `o` the originator, `t` the centre's tag, `args` the argument bytes in the layout of R187 (log 5). -/
inductive Instr where
  /-- R22: supply applied. -/
  | powerOn
  /-- R141: a valid SYNC frame. -/
  | sync
  /-- R12: an ANSWER frame with a good CRC and length on this channel byte. -/
  | answer (channel : Byte)
  /-- R13: a CLEAR frame with a good CRC and length on this channel byte. -/
  | clear (channel : Byte)
  /-- R145: a COMMAND frame with a good CRC. -/
  | command (originator tag code : Byte) (args : List Byte)
  /-- R143: a trunk frame that fails a check. -/
  | trunkFrameDiscarded (reason : TrunkDiscard)
  /-- R152 -/
  | silenceTimerExpiry
  /-- R142 -/
  | syncTimerExpiry
  /-- R150 -/
  | frameTransmitStart
  /-- R150 -/
  | frameTransmitComplete
  /-- R182 -/
  | holdTimerExpiry
  /-- R138 -/
  | arbiterGrant (seg : Segment)
  /-- R131: an EVENTS reply with a good CRC. -/
  | events (seg : Segment) (drop tag : Byte) (more batch status : Bool) (evs : List BoothEvent)
  /-- R104: a DONE reply with a good CRC. -/
  | done (seg : Segment) (drop tag : Byte) (count : BitVec 16)
  /-- R109: a COUNT reply with a good CRC. -/
  | count (seg : Segment) (drop tag : Byte) (series : BitVec 16) (serial : BitVec 32) (count : BitVec 16)
  /-- R130: an ACK reply with a good CRC. -/
  | ack (seg : Segment) (drop tag : Byte)
  /-- R130: a FAIL reply with a good CRC. -/
  | fail (seg : Segment) (drop tag : Byte) (reason : FailReason) (count : BitVec 16)
  /-- R129: a frame that fails its CRC, cannot be parsed or is a mismatched reply. -/
  | boothFrameGarbled (seg : Segment)
  /-- R129 -/
  | replyWindowExpiry (seg : Segment)
  /-- R140 -/
  | abandonedWindowHoldExpiry (seg : Segment)
  /-- R133 -/
  | probeTimerExpiry (booth : Booth)
  /-- R8 -/
  | digitWaitExpiry (booth : Booth)
  /-- R8 -/
  | cardWaitExpiry (booth : Booth)
  /-- R117 -/
  | swapWindowExpiry (booth : Booth)
  /-- R72 -/
  | tick (booth : Booth)
  /-- R18 -/
  | timeLimit (booth : Booth)
  /-- R63 -/
  | clockSecondAdvance
  /-- R63 -/
  | minuteBoundary
  /-- R26 -/
  | treeWrite (o t : Byte) (args : List Byte)
  /-- R28 -/
  | planWrite (o t : Byte) (args : List Byte)
  /-- R56 -/
  | classWrite (o t : Byte) (args : List Byte)
  /-- R58 -/
  | profileWrite (o t : Byte) (args : List Byte)
  /-- R60 -/
  | bandWrite (o t : Byte) (args : List Byte)
  /-- R61 -/
  | holidayWrite (o t : Byte) (args : List Byte)
  /-- R50 -/
  | cacheFence (o t : Byte) (args : List Byte)
  /-- R93 -/
  | seriesWrite (o t : Byte) (args : List Byte)
  /-- R95 -/
  | stopAdd (o t : Byte) (args : List Byte)
  /-- R96 -/
  | stopRemove (o t : Byte) (args : List Byte)
  /-- R125 -/
  | boothMapWrite (o t : Byte) (args : List Byte)
  /-- R173 -/
  | takeOut (o t : Byte) (args : List Byte)
  /-- R173 -/
  | returnBooth (o t : Byte) (args : List Byte)
  /-- R19 -/
  | forceClear (o t : Byte) (args : List Byte)
  /-- R128 -/
  | segmentSetup (o t : Byte) (args : List Byte)
  /-- R171 -/
  | segmentReset (o t : Byte) (args : List Byte)
  /-- R160 -/
  | ticketFetch (o t : Byte) (args : List Byte)
  /-- R161 -/
  | ticketRelease (o t : Byte) (args : List Byte)
  /-- R162 -/
  | ringSetup (o t : Byte) (args : List Byte)
  /-- R168 -/
  | serviceStart (o t : Byte) (args : List Byte)
  /-- R168 -/
  | serviceStop (o t : Byte) (args : List Byte)
  /-- R170 -/
  | restart (o t : Byte) (args : List Byte)
  /-- R64 -/
  | clockSet (o t : Byte) (args : List Byte)
  /-- R172 -/
  | limitsWrite (o t : Byte) (args : List Byte)
  /-- R178 -/
  | faultClear (o t : Byte) (args : List Byte)
  /-- R183 -/
  | noticeSetup (o t : Byte) (args : List Byte)
  /-- R183 -/
  | noticeClear (o t : Byte) (args : List Byte)
  /-- R167 -/
  | accessWrite (o t : Byte) (args : List Byte)
  /-- R27 -/
  | treeRead (o t : Byte) (args : List Byte)
  /-- R29 -/
  | planRead (o t : Byte) (args : List Byte)
  /-- R57 -/
  | classRead (o t : Byte) (args : List Byte)
  /-- R93 -/
  | seriesRead (o t : Byte) (args : List Byte)
  /-- R97 -/
  | stopProbe (o t : Byte) (args : List Byte)
  /-- R97 -/
  | stopStatus (o t : Byte) (args : List Byte)
  /-- R126 -/
  | boothRead (o t : Byte) (args : List Byte)
  /-- R174 -/
  | statusRead (o t : Byte) (args : List Byte)
  /-- R180 -/
  | counterRead (o t : Byte) (args : List Byte)
  /-- R178 -/
  | faultRead (o t : Byte) (args : List Byte)
  /-- R166: a command whose code is not in the command table. -/
  | unknownCommandCode (o t code : Byte) (args : List Byte)
  /-- R129: a booth-line frame with a good CRC that answers no open transaction. -/
  | staleBoothFrame (seg : Segment) (drop tag : Byte) (reply : BoothReply)
  /-- R173: a BOOTH CONTROL command that is none of TAKE OUT, RETURN and FORCE CLEAR. -/
  | boothControl (o t : Byte) (args : List Byte)
  deriving DecidableEq, Repr

end Sys2Proof
end

