-- ==== Sys2Proof/Machine/State.lean ====
section
/-!
DEFINITION. The state of the Valdrif 4810, block by block as the manual lists it (00, "Blocks and how they work
together"), its values after power-on, and the reasons a step could stop.
-/

namespace Sys2Proof.Machine

/-! ## Names -/

/-- The seven states of a call context (01, table of states). -/
inductive CtxState where
  | free
  | dialling
  | cardWait
  | routed
  | speech
  | swap
  | ending
  deriving DecidableEq, Repr

/-- The refusal causes of admission, in the order of R3's table. -/
inductive RefusalCause where
  | service
  | link
  | booth
  | plan
  | ringFull
  | linkBusy
  deriving DecidableEq, Repr

/-- The seventeen end causes, in the order of their codes (R185). -/
inductive EndCause where
  | unobtainable
  | barred
  | credit
  | digitTimeout
  | cardWaitExpired
  | cardRemoved
  | earlyAnswer
  | exchangeCleared
  | boothHungUp
  | timeLimit
  | cardFault
  | forced
  | boothLost
  | readerFault
  | link
  | restart
  | segmentReset
  deriving DecidableEq, Repr

/-- Why a card is refused or released (R81), in the order of the codes of R185. -/
inductive CardReason where
  | check
  | unknownSeries
  | withdrawn
  | expired
  | empty
  | stopped
  | outOfOrder
  | cardLimit
  | returned
  | exhausted
  | writeError
  deriving DecidableEq, Repr

/-- The value a CALL REFUSED signal carries: a refusal cause or an end cause (R136). -/
inductive CallRefusal where
  | refused (cause : RefusalCause)
  | ended (cause : EndCause)
  deriving DecidableEq, Repr

/-- The signals a booth is asked to show (R136). -/
inductive Signal where
  | inOrder
  | outOfOrder
  | callRefused (why : CallRefusal)
  | insertCard
  | showUnits (units : Nat)
  | lowCredit
  | creditExhausted
  | cardRefused (reason : CardReason)
  deriving DecidableEq, Repr

/-- Booth health (R132). -/
inductive Health where
  | inService
  | suspect
  | lost
  | reader
  | taken
  | disabled
  deriving DecidableEq, Repr

/-- Service state of the part (R168). -/
inductive Service where
  | outOfService
  | inService
  | draining
  deriving DecidableEq, Repr

/-- The seven groups of the Access Table (R167), in the order of R187. -/
inductive Group where
  | tariff
  | cards
  | booths
  | tickets
  | service
  | access
  | read
  deriving DecidableEq, Repr

/-- The outcomes of a command (R166), in the order of R187. -/
inductive CmdOutcome where
  | done
  | access
  | range
  | conflict
  | state
  | notFound
  | full
  | busy
  deriving DecidableEq, Repr

/-- The fault kinds (R177), in the order of R187. -/
inductive FaultKind where
  | tree
  | cls
  | cardCount
  | uncertainCancel
  | debtSaturated
  | boothLost
  | readerFault
  deriving DecidableEq, Repr

/-- The notice causes (R181), in the order of the bits of R187. -/
inductive NoticeCause where
  | faultCaptured
  | ringHigh
  | ringFull
  | boothOut
  | stopMatch
  deriving DecidableEq, Repr

/-- The day types (R59), in the order of R187. -/
inductive DayType where
  | weekday
  | saturday
  | sunday
  | holiday
  deriving DecidableEq, Repr

/-- The action of a Stop List entry and of a REFUSED slot (R81, R94). -/
inductive StopAction where
  | eject
  | retain
  deriving DecidableEq, Repr

/-! ## Call Engine and Debit Unit -/

/-- The class snapshot a call carries (R36). -/
structure Snapshot where
  cls : Fin 256
  setup : Nat
  base : Nat
  profile : Fin 4
  cardless : Bool
  deriving DecidableEq, Repr

/-- The walk result of a context (R1). -/
inductive WalkResult where
  | walking
  | leaf (cls : Fin 256) (common : Bool)
  | refused
  deriving DecidableEq, Repr

/-- The calendar clock's fields but for the fraction (R62). `weekday` 0 is MONDAY, 6 is SUNDAY. -/
structure Clock where
  year : Nat
  month : Nat
  day : Nat
  weekday : Fin 7
  hour : Nat
  minute : Nat
  second : Nat
  valid : Bool
  deriving DecidableEq, Repr

/-- The answer instant: the clock at ANSWER and its hundredths (R1, R12). -/
structure AnswerInstant where
  clock : Clock
  hundredths : Nat
  deriving DecidableEq, Repr

/-- A call context (R1). -/
structure Ctx where
  state : CtxState
  /-- hook state: true is OFF (the receiver is lifted) -/
  hookOff : Bool
  plan : Fin 8
  node : Fin 1024
  depth : Nat
  walk : WalkResult
  cls : Option (Fin 256)
  snap : Option Snapshot
  digits : List Digit
  truncated : Bool
  held : List Digit
  digitWait : Option Instant
  cardWait : Option Instant
  /-- expiry instant and cause-if-expired -/
  swapWindow : Option (Instant × EndCause)
  answer : Option AnswerInstant
  exchangeCleared : Bool
  endCause : Option EndCause
  deriving DecidableEq, Repr

/-- The power-on context (R1). -/
def Ctx.reset : Ctx :=
  { state := .free, hookOff := false, plan := 0, node := 0, depth := 0, walk := .walking, cls := none,
    snap := none, digits := [], truncated := false, held := [], digitWait := none, cardWait := none,
    swapWindow := none, answer := none, exchangeCleared := false, endCause := none }

/-- A card list entry (R101). -/
structure CardEntry where
  series : BitVec 16
  serial : BitVec 32
  face : Nat
  unitValue : Nat
  warn : Nat
  cancelled : Nat
  lastKnown : Nat
  warned : Bool
  countFault : Bool
  deriving DecidableEq, Repr

/-- What an outstanding CANCEL or VERIFY names (R100). `entry` is the place in the card list. -/
structure Ask where
  entry : Nat
  n : Nat
  before : Nat
  final : Bool
  deriving DecidableEq, Repr

/-- The outstanding request of a debit record (R100). -/
inductive Outstanding where
  | none
  | cancel (a : Ask)
  | verify (a : Ask)
  deriving DecidableEq, Repr

/-- The uncertain record (R100). -/
structure Uncertain where
  entry : Nat
  before : Nat
  n : Nat
  deriving DecidableEq, Repr

/-- The settle stage (R100). -/
inductive SettleStage where
  | none
  | awaitingRequest
  | awaitingFinal
  | settled
  deriving DecidableEq, Repr

/-- A debit record: charging side (R69) and card side (R100). -/
structure Debit where
  p : Int
  charged : Nat
  duration : Nat
  t : Option Nat
  nextTick : Option Instant
  debtSaturated : Bool
  debtReported : Bool
  chargeSaturated : Bool
  cards : List CardEntry
  outstanding : Outstanding
  uncertain : Option Uncertain
  uncertainCount : Nat
  covered : Nat
  stage : SettleStage
  cardLeft : Bool
  deriving DecidableEq, Repr

/-- The values at power-on and at each admission (R69, R100). -/
def Debit.reset : Debit :=
  { p := 0, charged := 0, duration := 0, t := none, nextTick := none, debtSaturated := false,
    debtReported := false, chargeSaturated := false, cards := [], outstanding := .none, uncertain := none,
    uncertainCount := 0, covered := 0, stage := .none, cardLeft := false }

/-! ## Route Unit -/

/-- A Tariff Tree entry (R24). -/
inductive TreeEntry where
  | empty
  | branch (next : Fin 1024)
  | leaf (cls : Fin 256) (common : Bool)
  | bar
  deriving DecidableEq, Repr

/-- A Plan Table record (R25). -/
structure Plan where
  root : Fin 1024
  tag : Fin 64
  enabled : Bool
  deriving DecidableEq, Repr

/-- The scope of a Tariff Cache entry (R42). -/
inductive Scope where
  | common
  | tag (t : Fin 64)
  deriving DecidableEq, Repr

/-- A valid Tariff Cache entry (R42). -/
structure CacheEntry where
  digits : List Digit
  scope : Scope
  cls : Fin 256
  cardless : Bool
  deriving DecidableEq, Repr

/-- The Route Unit: the tree sparse by node × 10 + digit; the cache's valid entries in recency order, most
recently used first (R43). -/
structure Route where
  tree : SMap TreeEntry
  plans : Vector Plan 8
  cache : List CacheEntry
  deriving DecidableEq, Repr

/-! ## Tariff Unit -/

/-- A Tariff Class Table record (R55). -/
structure ClassRecord where
  defined : Bool
  setup : Nat
  base : Nat
  profile : Fin 4
  cardless : Bool
  deriving DecidableEq, Repr

/-- The power-on class record (R55). -/
def ClassRecord.undefined : ClassRecord :=
  { defined := false, setup := 0, base := 0, profile := 0, cardless := false }

/-- A band boundary (R59). -/
structure Boundary where
  minute : Nat
  band : Fin 6
  deriving DecidableEq, Repr

/-- A Holiday List date (R61). -/
structure Date where
  year : Nat
  month : Nat
  day : Nat
  deriving DecidableEq, Repr

/-- The Tariff Unit. `secondInstant` is the instant at which the clock's second last advanced: the fraction of
R62 is computed from it (log 4). -/
structure Tariff where
  classes : SMap ClassRecord
  profiles : Vector (Vector (BitVec 16) 6) 4
  bands : Vector (List Boundary) 4
  holidays : Vector (Option Date) 32
  clock : Clock
  secondInstant : Instant
  deriving DecidableEq, Repr

/-! ## Card Unit -/

/-- A card slot (R81). -/
inductive CardSlot where
  | empty
  | valid (record : CardRecord) (unitValue warn lastKnown : Nat)
  | refused (record : CardRecord) (reason : CardReason) (action : StopAction)
  deriving DecidableEq, Repr

/-- The state of a Series Table record (R92). -/
inductive SeriesState where
  | unused
  | active
  | withdrawn
  deriving DecidableEq, Repr

/-- A Series Table record (R92). -/
structure SeriesRecord where
  code : BitVec 16
  state : SeriesState
  unitValue : Nat
  warn : Nat
  deriving DecidableEq, Repr

/-- A used Stop List entry (R94). -/
structure StopEntry where
  series : BitVec 16
  serial : BitVec 32
  action : StopAction
  deriving DecidableEq, Repr

/-- The Stop List: bucket chains, oldest first, sparse by bucket number, and the free count (R94). -/
structure StopList where
  chains : SMap (List StopEntry)
  free : Nat
  deriving DecidableEq, Repr

/-- The Card Unit. -/
structure Cards where
  slots : Vector CardSlot 48
  series : Vector SeriesRecord 32
  stop : StopList
  deriving DecidableEq, Repr

/-! ## Line Controllers -/

/-- A Booth Map entry (R124). -/
structure MapEntry where
  segment : Segment
  drop : Nat
  channel : Channel
  plan : Fin 8
  enabled : Bool
  deriving DecidableEq, Repr

/-- Debit work (R135). -/
inductive DebitWork where
  | cancel (n : Nat) (serial : BitVec 32)
  | verify (serial : BitVec 32)
  deriving DecidableEq, Repr

/-- A card action (R135). -/
inductive CardAction where
  | eject
  | retain (serial : BitVec 32)
  deriving DecidableEq, Repr

/-- What a Line Controller holds for one booth: health (R132), take-out mark (R134), miss count, probe timer,
expected batch bit (R131) and pending work (R135). `cardNext` is the card action that waits behind one in flight;
`firstStatus` says that the first STATUS reply after an enable is still awaited (R131). -/
structure BoothLine where
  health : Health
  mark : Bool
  misses : Nat
  expectBit : Bool
  firstStatus : Bool
  probeTimer : Option Instant
  probeDue : Bool
  debitWork : Option DebitWork
  statusDue : Bool
  cardAction : Option CardAction
  cardNext : Option CardAction
  signals : List Signal
  deriving DecidableEq, Repr

/-- A disabled booth with nothing pending (R140, power-on). -/
def BoothLine.reset : BoothLine :=
  { health := .disabled, mark := false, misses := 0, expectBit := false, firstStatus := false,
    probeTimer := none, probeDue := false, debitWork := none, statusDue := false, cardAction := none,
    cardNext := none, signals := [] }

/-- The requests of a Line Controller (R127). -/
inductive Request where
  | poll (bit : Bool)
  | status
  | cancel (n : Nat) (serial : BitVec 32)
  | verify (serial : BitVec 32)
  | signal (sig : Signal)
  | eject
  | retain (serial : BitVec 32)
  deriving DecidableEq, Repr

/-- The open transaction of a segment (R127). `probe`: a poll of a LOST booth (R133). `orphan`: a write disabled
or moved the booth meanwhile, so its outcome is discarded (R125). -/
structure Transaction where
  booth : Booth
  drop : Nat
  tag : Fin 8
  request : Request
  expiry : Instant
  probe : Bool
  orphan : Bool
  deriving DecidableEq, Repr

/-- The state of one segment (07, table of segment state). -/
structure SegLine where
  nextTag : Fin 8
  transaction : Option Transaction
  hold : Option Instant
  replyCode : Nat
  writeCode : Nat
  lastDrop : Nat
  burst : Nat
  followOn : Option Booth
  deriving DecidableEq, Repr

/-- Power-on values of a segment (R140). -/
def SegLine.reset : SegLine :=
  { nextTag := 0, transaction := none, hold := none, replyCode := 6, writeCode := 11, lastDrop := 0, burst := 0,
    followOn := none }

/-- The Line Controllers. -/
structure Lines where
  map : Vector MapEntry 48
  booths : Vector BoothLine 48
  west : SegLine
  east : SegLine
  deriving DecidableEq, Repr

/-! ## Ticket Unit -/

/-- A ticket's card entry (R158). -/
structure TicketCard where
  series : BitVec 16
  serial : BitVec 32
  unitValue : Nat
  cancelled : Nat
  lastKnown : Nat
  deriving DecidableEq, Repr

/-- A ticket (R158). -/
structure Ticket where
  sequence : Nat
  booth : Booth
  channel : Channel
  plan : Fin 8
  cls : Option (Fin 256)
  cardless : Bool
  answer : Option AnswerInstant
  duration : Nat
  digits : List Digit
  truncated : Bool
  charged : Nat
  cards : List TicketCard
  shortfall : Nat
  unused : Nat
  endCause : Option EndCause
  debtSaturated : Bool
  chargeSaturated : Bool
  uncertainCount : Nat
  deriving DecidableEq, Repr

/-- The Ticket Ring (R155): the tickets held, oldest first, stand in slots head, head + 1 and so on. -/
structure Ring where
  tickets : List Ticket
  head : Nat
  reserved : Nat
  nextSeq : Nat
  highWater : Nat
  deriving DecidableEq, Repr

/-! ## Management Unit -/

/-- The five limits (R172): seconds, and minutes for the max call time. -/
structure Limits where
  digitWait : Nat
  cardWait : Nat
  swapWindow : Nat
  maxCall : Nat
  probe : Nat
  deriving DecidableEq, Repr

/-- The defaults of R172. -/
def Limits.reset : Limits := { digitWait := 20, cardWait := 15, swapWindow := 10, maxCall := 0, probe := 10 }

/-- A fault report, and the contents of a held Fault Capture record (R177). -/
structure FaultReport where
  kind : FaultKind
  booth : Booth
  plan : Fin 8
  digits : List Digit
  card : Option (BitVec 16 × BitVec 32)
  clock : Clock
  deriving DecidableEq, Repr

/-- The notice state (11, "Notices"). Bit n of `waiting` and of `mask` stands for the notice cause of R187's bit n;
a set mask bit means masked. `waiting` is the manual's pending set. -/
structure Notices where
  waiting : BitVec 5
  mask : BitVec 5
  throttle : Nat
  hold : Option Instant
  due : Bool
  deriving DecidableEq, Repr

/-- The Management Unit. Bit n of an access set stands for originator n (R187). -/
structure Mgmt where
  cmdQueue : List Cmd
  access : Vector (BitVec 16) 7
  service : Service
  limits : Limits
  faultHeld : Option FaultReport
  laterFaults : Nat
  notices : Notices
  deriving DecidableEq, Repr

/-! ## Trunk Port -/

/-- Signalling frames (R146). -/
inductive SigFrame where
  | seize (ch : Channel)
  | digit (ch : Channel) (d : Digit)
  deriving DecidableEq, Repr

/-- What BOOTH READ returns (R126). -/
structure BoothReadData where
  entry : MapEntry
  health : Health
  mark : Bool
  misses : Nat
  debitWork : Option DebitWork
  statusDue : Bool
  cardAction : Option CardAction
  signals : Nat
  deriving DecidableEq, Repr

/-- What STATUS READ returns (R174). -/
structure StatusData where
  service : Service
  linkUp : Bool
  clock : Clock
  limits : Limits
  westReply : Nat
  westWrite : Nat
  eastReply : Nat
  eastWrite : Nat
  access : Vector (BitVec 16) 7
  commands : Nat
  replies : Nat
  headSeq : Nat
  tailSeq : Nat
  filled : Nat
  reserved : Nat
  highWater : Nat
  faultHeld : Bool
  waiting : BitVec 5
  mask : BitVec 5
  deriving DecidableEq, Repr

/-- The data a DONE reply carries (R187). -/
inductive ReplyData where
  | none
  | tree (entries : List TreeEntry)
  | plan (p : Plan)
  | cls (r : ClassRecord)
  | series (r : SeriesRecord)
  | fenced (n : Nat)
  | stopAdd (added : Bool) (bucket : Nat)
  | stopProbe (bucket chain : Nat) (found : Option (StopAction × Nat))
  | stopStatus (used free longest hits misses failures : Nat)
  | booth (d : BoothReadData)
  | status (d : StatusData)
  | fetch (headSeq tailSeq filled reserved : Nat) (tickets : List Ticket)
  | released (headSeq : Nat)
  | counters (values : List Nat)
  | fault (held : Option FaultReport) (later : Nat)
  deriving DecidableEq, Repr

/-- A REPLY (R166, R187). -/
structure Reply where
  originator : Byte
  tag : Byte
  code : Byte
  outcome : CmdOutcome
  detail : Byte
  data : ReplyData
  deriving DecidableEq, Repr

/-- The frames the part sends on the trunk (R150, R186). -/
inductive OutFrame where
  | sync
  | hangup (ch : Channel)
  | sig (f : SigFrame)
  | reply (r : Reply)
  | notice (causes : BitVec 5) (clock : Clock)
  deriving DecidableEq, Repr

/-- The Trunk Port (08, table of state). The hangup-owed set is a table of Booleans by channel. -/
structure Trunk where
  linkUp : Bool
  silence : Option Instant
  syncNext : Instant
  syncDue : Bool
  sigQueue : List SigFrame
  waiting : List Booth
  hangupOwed : Vector Bool 64
  replyQueue : List Reply
  tx : Option OutFrame
  deriving DecidableEq, Repr

/-! ## The whole part -/

/-- The state of the part. `now` is the model's time base (log 2); `pending` the queue of commands that wait. -/
structure State where
  now : Instant
  ctxs : Vector Ctx 48
  debits : Vector Debit 48
  route : Route
  tariff : Tariff
  card : Cards
  line : Lines
  trunk : Trunk
  ring : Ring
  mgmt : Mgmt
  counters : Vector (List Nat) 12
  pending : List Instr
  deriving DecidableEq, Repr

/-- Why a step could stop with a fault. Nothing in the manual stops the part: no meaning raises this. -/
inductive Fault where
  /-- Raised by no meaning; the host's interface asks for a type of fault reasons. Safe. -/
  | neverRaised
  deriving DecidableEq, Repr

/-- Why a step could be refused. -/
inductive Refusal where
  /-- Raised by exec's arm of a command that has no meaning yet (there is none). Safe. -/
  | notModelled (mnemonic : String)
  deriving DecidableEq, Repr

/-! ## Power-on values -/

/-- The power-on calendar clock (R62): 2000-01-01, SATURDAY, 00:00:00, not valid. -/
def Clock.reset : Clock :=
  { year := 2000, month := 1, day := 1, weekday := 5, hour := 0, minute := 0, second := 0, valid := false }

/-- The power-on Plan Table record of a plan (R25). -/
def Plan.reset (p : Fin 8) : Plan := { root := 0, tag := ⟨p.val, by omega⟩, enabled := false }

/-- The power-on Booth Map entry (R124). -/
def MapEntry.reset : MapEntry := { segment := .west, drop := 1, channel := 0, plan := 0, enabled := false }

/-- The power-on Series Table record (R92). -/
def SeriesRecord.reset : SeriesRecord := { code := 0, state := .unused, unitValue := 100, warn := 0 }

/-- How many counters each group of R179 holds, groups 0 to 11. -/
def counterSizes : List Nat := [44, 12, 6, 22, 22, 4, 4, 1, 22, 6, 13, 10]

/-- All counters zero (R180). -/
def countersReset : Vector (List Nat) 12 :=
  Vector.ofFn fun g => List.replicate (counterSizes.getD g.val 0) 0

/-- The power-on Access Table (R167): every group all originators, ACCESS {0}. -/
def accessReset : Vector (BitVec 16) 7 :=
  Vector.ofFn fun g => if g = 5 then 1#16 else 65535#16

/-- The part right after power-on (R22, R41, R54, R79, R99, R123, R140, R154, R164, R176, R184). -/
def State.reset : State :=
  { now := 0
    ctxs := Vector.replicate 48 Ctx.reset
    debits := Vector.replicate 48 Debit.reset
    route := { tree := [], plans := Vector.ofFn Plan.reset, cache := [] }
    tariff :=
      { classes := [], profiles := Vector.replicate 4 (Vector.replicate 6 16384#16),
        bands := Vector.replicate 4 [], holidays := Vector.replicate 32 none, clock := Clock.reset,
        secondInstant := 0 }
    card :=
      { slots := Vector.replicate 48 .empty, series := Vector.replicate 32 SeriesRecord.reset,
        stop := { chains := [], free := Config.stopPool } }
    line :=
      { map := Vector.replicate 48 MapEntry.reset, booths := Vector.replicate 48 BoothLine.reset,
        west := SegLine.reset, east := SegLine.reset }
    trunk :=
      { linkUp := false, silence := none, syncNext := Config.syncPeriod, syncDue := false, sigQueue := [],
        waiting := [], hangupOwed := Vector.replicate 64 false, replyQueue := [], tx := none }
    ring := { tickets := [], head := 0, reserved := 0, nextSeq := 1, highWater := 448 }
    mgmt :=
      { cmdQueue := [], access := accessReset, service := .outOfService, limits := Limits.reset,
        faultHeld := none, laterFaults := 0,
        notices := { waiting := 0, mask := 0, throttle := 5, hold := none, due := false } }
    counters := countersReset
    pending := [] }

end Sys2Proof.Machine
end

