-- ==== Sys2Proof/Machine/Counters.lean ====
section
/-!
DEFINITION. The places of the counters: (group of R179, place in the group's COUNTER READ reply). The places follow
the order of the rules that R179 cites for the group (R187, COUNTER READ).
-/

namespace Sys2Proof.Machine

/-- A counter: its group (R179) and its place in the group. -/
abbrev CounterId := Fin 12 × Nat

/-- The place of a refusal cause in R3's table. -/
def RefusalCause.index : RefusalCause → Nat
  | .service => 0
  | .link => 1
  | .booth => 2
  | .plan => 3
  | .ringFull => 4
  | .linkBusy => 5

/-- The code of an end cause (R185). -/
def EndCause.code : EndCause → Nat
  | .unobtainable => 1
  | .barred => 2
  | .credit => 3
  | .digitTimeout => 4
  | .cardWaitExpired => 5
  | .cardRemoved => 6
  | .earlyAnswer => 7
  | .exchangeCleared => 8
  | .boothHungUp => 9
  | .timeLimit => 10
  | .cardFault => 11
  | .forced => 12
  | .boothLost => 13
  | .readerFault => 14
  | .link => 15
  | .restart => 16
  | .segmentReset => 17

/-- The code of a card refusal reason (R185). -/
def CardReason.code : CardReason → Nat
  | .check => 1
  | .unknownSeries => 2
  | .withdrawn => 3
  | .expired => 4
  | .empty => 5
  | .stopped => 6
  | .outOfOrder => 7
  | .cardLimit => 8
  | .returned => 9
  | .exhausted => 10
  | .writeError => 11

/-- The code of a fault kind (R187). -/
def FaultKind.code : FaultKind → Nat
  | .tree => 1
  | .cls => 2
  | .cardCount => 3
  | .uncertainCancel => 4
  | .debtSaturated => 5
  | .boothLost => 6
  | .readerFault => 7

/-- The code of a command outcome (R187). -/
def CmdOutcome.code : CmdOutcome → Nat
  | .done => 0
  | .access => 1
  | .range => 2
  | .conflict => 3
  | .state => 4
  | .notFound => 5
  | .full => 6
  | .busy => 7

namespace Ctr

/-! Group 0, CALLS (R23). -/
def admissions : CounterId := (0, 0)
def refusal (c : RefusalCause) : CounterId := (0, 1 + c.index)
def preAnswer (c : EndCause) : CounterId := (0, 6 + c.code)
def answered : CounterId := (0, 24)
def earlyAnswers : CounterId := (0, 25)
def ended (c : EndCause) : CounterId := (0, 25 + c.code)
def digitsDiscarded : CounterId := (0, 43)

/-! Group 1, ROUTE (R40, R53). -/
def digitsWalked : CounterId := (1, 0)
def leaves : CounterId := (1, 1)
def emptyResults : CounterId := (1, 2)
def barResults : CounterId := (1, 3)
def treeFaults : CounterId := (1, 4)
def classFaults : CounterId := (1, 5)
def treeWrites : CounterId := (1, 6)
def planWrites : CounterId := (1, 7)
def cacheHits : CounterId := (1, 8)
def cacheMisses : CounterId := (1, 9)
def cacheFills : CounterId := (1, 10)
def cacheFences : CounterId := (1, 11)

/-! Group 2, TARIFF (R78). -/
def classWrites : CounterId := (2, 0)
def profileWrites : CounterId := (2, 1)
def bandWrites : CounterId := (2, 2)
def holidayWrites : CounterId := (2, 3)
def clockSets : CounterId := (2, 4)
def bandEvaluations : CounterId := (2, 5)

/-! Group 3, DEBIT (R78, R122). -/
def answersStarted : CounterId := (3, 0)
def ticks : CounterId := (3, 1)
def debtSaturatedCalls : CounterId := (3, 2)
def chargeSaturatedCalls : CounterId := (3, 3)
def cancelsPosted : CounterId := (3, 4)
def finalCancels : CounterId := (3, 5)
def cancelsConfirmed : CounterId := (3, 6)
def unitsConfirmed : CounterId := (3, 7)
def writeErrors : CounterId := (3, 8)
def noCardReplies : CounterId := (3, 9)
def verifiesPosted : CounterId := (3, 10)
def verifiesConfirmed : CounterId := (3, 11)
def cardCountFaults : CounterId := (3, 12)
def uncertainCancels : CounterId := (3, 13)
def uncertainFinals : CounterId := (3, 14)
def lateResolutions : CounterId := (3, 15)
def countsAdopted : CounterId := (3, 16)
def exhaustions : CounterId := (3, 17)
def swapEntries : CounterId := (3, 18)
def swapReturns : CounterId := (3, 19)
def cardLimitRefusals : CounterId := (3, 20)
def unmatchedOutcomes : CounterId := (3, 21)

/-! Group 4, CARDS (R98). -/
def cardsIn : CounterId := (4, 0)
def unpairedCardsIn : CounterId := (4, 1)
def cardsAccepted : CounterId := (4, 2)
/-- The seven refusals of R98, in the order CHECK to OUT OF ORDER. -/
def cardRefusal (r : CardReason) : CounterId := (4, 2 + r.code)
def cardsOut : CounterId := (4, 10)
def ejectsAcknowledged : CounterId := (4, 11)
def retainsDone : CounterId := (4, 12)
def retainsFailed : CounterId := (4, 13)
def releases : CounterId := (4, 14)
def seriesWrites : CounterId := (4, 15)
def stopAdds : CounterId := (4, 16)
def stopUpdates : CounterId := (4, 17)
def stopRemoves : CounterId := (4, 18)
def addFailures : CounterId := (4, 19)
def validationMatches : CounterId := (4, 20)
def validationMisses : CounterId := (4, 21)

/-! Groups 5 and 6, WEST and EAST (R139). -/
def segGroup : Segment → Fin 12
  | .west => 5
  | .east => 6
def transactions (g : Segment) : CounterId := (segGroup g, 0)
def misses (g : Segment) : CounterId := (segGroup g, 1)
def garbled (g : Segment) : CounterId := (segGroup g, 2)
def stale (g : Segment) : CounterId := (segGroup g, 3)

/-! Group 7, LINES (R125). -/
def boothMapWrites : CounterId := (7, 0)

/-! Group 8, TRUNK (R153). -/
def validFrames : CounterId := (8, 0)
def discardedFrames : TrunkDiscard → CounterId
  | .badCrc => (8, 1)
  | .unknownKind => (8, 2)
  | .wrongLength => (8, 3)
  | .badChannel => (8, 4)
def answersReceived : CounterId := (8, 5)
def clearsReceived : CounterId := (8, 6)
def unmappedAnswers : CounterId := (8, 7)
def unmappedClears : CounterId := (8, 8)
def commandsReceived : CounterId := (8, 9)
def commandsDiscarded : CounterId := (8, 10)
def framesWithdrawn : CounterId := (8, 11)
def sentSync : CounterId := (8, 12)
def sentHangup : CounterId := (8, 13)
def sentSeize : CounterId := (8, 14)
def sentDigit : CounterId := (8, 15)
def sentReply : CounterId := (8, 16)
def sentNotice : CounterId := (8, 17)
def signallingDiscarded : CounterId := (8, 18)
def hangupsDiscarded : CounterId := (8, 19)
def repliesDiscarded : CounterId := (8, 20)
def linkDowns : CounterId := (8, 21)

/-! Group 9, TICKETS (R163). -/
def ticketsWritten : CounterId := (9, 0)
def fetchCommands : CounterId := (9, 1)
def releaseCommands : CounterId := (9, 2)
def ticketsReleased : CounterId := (9, 3)
def releasesNoEffect : CounterId := (9, 4)
def ringSetups : CounterId := (9, 5)

/-! Group 10, MANAGEMENT (R176). -/
def commandsDone : CounterId := (10, 0)
/-- The seven refusal counters ACCESS to BUSY. -/
def cmdRefusal (o : CmdOutcome) : CounterId := (10, o.code)
def malformedCommands : CounterId := (10, 8)
def accessRefusals : CounterId := (10, 9)
def discardedForReply : CounterId := (10, 10)
def accessWrites : CounterId := (10, 11)
def limitsWrites : CounterId := (10, 12)

/-! Group 11, FAULTS AND NOTICES (R177, R178, R183). -/
def faultReports (k : FaultKind) : CounterId := (11, k.code - 1)
def faultClears : CounterId := (11, 7)
def noticeSetups : CounterId := (11, 8)
def noticeClears : CounterId := (11, 9)

end Ctr

end Sys2Proof.Machine
end

