-- ==== Sys2Proof/Machine/Operands.lean ====
section
/-!
DEFINITION. The operand forms: reading numbers from bytes, the CRC-16 (R185), the argument fields of commands
(R187), and the byte layouts of frames, replies, tickets, requests and the card record (R186 to R189).
-/

namespace Sys2Proof.Machine

/-! ## Numbers and bytes, most significant byte first (12, opening paragraph) -/

def byte (n : Nat) : Byte := BitVec.ofNat 8 n

def be2 (n : Nat) : List Byte := [byte (n / 256), byte n]

def be4 (n : Nat) : List Byte := [byte (n / 16777216), byte (n / 65536), byte (n / 256), byte n]

def num2 (b1 b0 : Byte) : Nat := b1.toNat * 256 + b0.toNat

def num4 (b3 b2 b1 b0 : Byte) : Nat := ((b3.toNat * 256 + b2.toNat) * 256 + b1.toNat) * 256 + b0.toNat

/-- A flag as a byte (R185). -/
def flagByte (b : Bool) : Byte := if b then 1#8 else 0#8

/-- A flag argument: 0x00 clear, 0x01 set, anything else out of range (R185). -/
def flagOf (b : Byte) : Option Bool := if b = 0#8 then some false else if b = 1#8 then some true else none

/-- A number that must lie below a bound. -/
def finOf (n : Nat) (v : Nat) : Option (Fin n) := if h : v < n then some ⟨v, h⟩ else none

/-! ## CRC-16 (R185) -/

/-- One bit of the CRC: polynomial 0x1021, most significant bit first. -/
def crcShift (c : BitVec 16) : BitVec 16 := if c.msb then (c <<< 1) ^^^ 0x1021#16 else c <<< 1

def crcByte (c : BitVec 16) (b : Byte) : BitVec 16 :=
  let c0 := c ^^^ (b.zeroExtend 16 <<< 8)
  crcShift (crcShift (crcShift (crcShift (crcShift (crcShift (crcShift (crcShift c0)))))))

/-- CRC-16 with initial value 0xFFFF and no final inversion (R185). -/
def crc16 (bytes : List Byte) : BitVec 16 := bytes.foldl crcByte 0xFFFF#16

/-- A CRC as sent: high byte first (R185). -/
def crcBytes (bytes : List Byte) : List Byte := be2 (crc16 bytes).toNat

/-! ## The card record (R80, R189) -/

end Sys2Proof.Machine

namespace Sys2Proof

open Sys2Proof.Machine

/-- Offsets 0 to 10 of the card record (R189). -/
def CardRecord.body (r : CardRecord) : List Byte :=
  be2 r.series.toNat ++ be4 r.serial.toNat
    ++ [byte (r.face.toNat / 16), byte ((r.face.toNat % 16) * 16 + r.cancelled.toNat / 256),
        byte r.cancelled.toNat]
    ++ [r.expiryYear, r.expiryMonth]

/-- The 13 bytes of the card record (R189). -/
def CardRecord.bytes (r : CardRecord) : List Byte := r.body ++ be2 r.check.toNat

/-- R84 check 1: the check value equals the CRC over the preceding fields. -/
def CardRecord.checkGood (r : CardRecord) : Bool := crc16 r.body == r.check

/-- A record with a year byte above 99 or a month byte above 15 does not parse (R189). -/
def CardRecord.parses (r : CardRecord) : Bool := decide (r.expiryYear.toNat ≤ 99) && decide (r.expiryMonth.toNat ≤ 15)

end Sys2Proof

namespace Sys2Proof.Machine

/-- Reading the 13 bytes of a card record (R189). -/
def readCardRecord : List Byte → Option (CardRecord × List Byte)
  | s1 :: s0 :: n3 :: n2 :: n1 :: n0 :: f2 :: f1 :: f0 :: y :: m :: c1 :: c0 :: rest =>
    some
      ({ series := BitVec.ofNat 16 (num2 s1 s0), serial := BitVec.ofNat 32 (num4 n3 n2 n1 n0),
         face := BitVec.ofNat 12 (f2.toNat * 16 + f1.toNat / 16),
         cancelled := BitVec.ofNat 12 ((f1.toNat % 16) * 256 + f0.toNat),
         expiryYear := y, expiryMonth := m, check := BitVec.ofNat 16 (num2 c1 c0) }, rest)
  | _ => none

/-! ## Events and replies of the booth lines (R189) -/

end Sys2Proof.Machine

namespace Sys2Proof

open Sys2Proof.Machine

/-- Everything of an event that R189 makes a condition of parsing. -/
def BoothEvent.parses : BoothEvent → Bool
  | .cardIn r => r.parses
  | _ => true

/-- Everything of a reply that R189 makes a condition of parsing and that its fields do not already say. -/
def BoothReply.parses : BoothReply → Bool
  | .events _ _ _ evs => decide (evs.length ≤ 4) && evs.all BoothEvent.parses
  | _ => true

end Sys2Proof

namespace Sys2Proof.Machine

/-- One event from the payload (R189). -/
def readEvent : List Byte → Option (BoothEvent × List Byte)
  | [] => none
  | k :: rest =>
    if k = 0x01#8 then some (.hookOff, rest)
    else if k = 0x02#8 then some (.hookOn, rest)
    else if k = 0x03#8 then
      match rest with
      | d :: rest' => (finOf 12 d.toNat).map fun d => (.digit d, rest')
      | [] => none
    else if k = 0x04#8 then
      match readCardRecord rest with
      | some (r, rest') => if r.parses then some (.cardIn r, rest') else none
      | none => none
    else if k = 0x05#8 then some (.cardOut, rest)
    else if k = 0x06#8 then some (.readerFault, rest)
    else none

/-- `n` events that must exactly fill the payload (R189). -/
def readEvents : Nat → List Byte → Option (List BoothEvent)
  | 0, [] => some []
  | 0, _ :: _ => none
  | n + 1, bytes =>
    match readEvent bytes with
    | some (e, rest) => (readEvents n rest).map (e :: ·)
    | none => none

/-- The FAIL reasons (R189). -/
def failReasonOf (b : Byte) : Option FailReason :=
  if b = 0x01#8 then some .noCard
  else if b = 0x02#8 then some .wrongCard
  else if b = 0x03#8 then some .writeError
  else if b = 0x04#8 then some .readerFault
  else none

/-- A reply from its kind and payload, none when it cannot be parsed (R189). -/
def readReply (kind : Byte) (payload : List Byte) : Option BoothReply :=
  if kind = 0x81#8 then
    match payload with
    | flags :: n :: evs =>
      if n.toNat ≤ 4 then
        (readEvents n.toNat evs).map fun l => .events (flags.getLsbD 0) (flags.getLsbD 1) (flags.getLsbD 2) l
      else none
    | _ => none
  else if kind = 0x82#8 then
    match payload with
    | [c1, c0] => some (.done (BitVec.ofNat 16 (num2 c1 c0)))
    | _ => none
  else if kind = 0x83#8 then
    match payload with
    | [s1, s0, n3, n2, n1, n0, c1, c0] =>
      some (.count (BitVec.ofNat 16 (num2 s1 s0)) (BitVec.ofNat 32 (num4 n3 n2 n1 n0))
        (BitVec.ofNat 16 (num2 c1 c0)))
    | _ => none
  else if kind = 0x84#8 then
    match payload with
    | [] => some .ack
    | _ => none
  else if kind = 0x85#8 then
    match payload with
    | [r, c1, c0] => (failReasonOf r).map fun r => .fail r (BitVec.ofNat 16 (num2 c1 c0))
    | _ => none
  else none

/-! ## Codes (R185, R187, R189) -/

end Sys2Proof.Machine

namespace Sys2Proof

open Sys2Proof.Machine

def Segment.code : Segment → Nat
  | .west => 0
  | .east => 1

end Sys2Proof

namespace Sys2Proof.Machine

def segmentOf (b : Byte) : Option Segment :=
  if b = 0#8 then some .west else if b = 1#8 then some .east else none

/-- The value of a CALL REFUSED signal (R185). SERVICE and LINK refusals are signalled OUT OF ORDER (R4) and have
no code. -/
def CallRefusal.code : CallRefusal → Nat
  | .ended c => c.code
  | .refused c => 18 + c.index

/-- Signal code and value (R189). -/
def Signal.fields : Signal → Nat × Nat
  | .inOrder => (1, 0)
  | .outOfOrder => (2, 0)
  | .callRefused w => (3, w.code)
  | .insertCard => (4, 0)
  | .showUnits u => (5, u)
  | .lowCredit => (6, 0)
  | .creditExhausted => (7, 0)
  | .cardRefused r => (8, r.code)

/-- Kind and payload of a request (R189). -/
def Request.payload : Request → Nat × List Byte
  | .poll bit => (1, [flagByte bit])
  | .status => (2, [])
  | .cancel n serial => (3, byte n :: be4 serial.toNat)
  | .verify serial => (4, be4 serial.toNat)
  | .signal sig => (5, byte sig.fields.1 :: be2 sig.fields.2)
  | .eject => (6, [])
  | .retain serial => (7, be4 serial.toNat)

/-- A booth line frame (R189). -/
def boothFrame (drop kind tag : Nat) (payload : List Byte) : List Byte :=
  let body := [byte drop, byte kind, byte tag, byte payload.length] ++ payload
  0x7E#8 :: body ++ crcBytes body

/-- The request frame of a transaction (R127, R189). -/
def Transaction.bytes (t : Transaction) : List Byte :=
  boothFrame t.drop t.request.payload.1 t.tag.val t.request.payload.2

/-- The clock in seven bytes (R185); the flags byte's seven high bits, which the manual does not name, are sent 0: the
model's choice (log 42). -/
def Clock.bytes (c : Clock) : List Byte :=
  [byte (c.year - 2000), byte c.month, byte c.day, byte c.hour, byte c.minute, byte c.second, flagByte c.valid]

def Health.code : Health → Nat
  | .inService => 0
  | .suspect => 1
  | .lost => 2
  | .reader => 3
  | .taken => 4
  | .disabled => 5

def Service.code : Service → Nat
  | .outOfService => 0
  | .inService => 1
  | .draining => 2

def SeriesState.code : SeriesState → Nat
  | .unused => 0
  | .active => 1
  | .withdrawn => 2

def StopAction.code : StopAction → Nat
  | .eject => 0
  | .retain => 1

/-- The six bytes of an entry in a TREE READ reply (R187): kind, next node, class, common flag, 0 where R27 says so for
EMPTY and BAR. The class and common flag of a BRANCH and the next node of a LEAF, on which the rules are silent, are
sent as 0 too: the model's choice (log 36). -/
def TreeEntry.bytes : TreeEntry → List Byte
  | .empty => [0#8] ++ be2 0 ++ be2 0 ++ [0#8]
  | .branch next => [1#8] ++ be2 next.val ++ be2 0 ++ [0#8]
  | .leaf cls common => [2#8] ++ be2 0 ++ be2 cls.val ++ [flagByte common]
  | .bar => [3#8] ++ be2 0 ++ be2 0 ++ [0#8]

def MapEntry.bytes (e : MapEntry) : List Byte :=
  [byte e.segment.code, byte e.drop, byte e.channel.val, byte e.plan.val, flagByte e.enabled]

def debitWorkCode : Option DebitWork → Nat
  | none => 0
  | some (.cancel _ _) => 1
  | some (.verify _) => 2

def cardActionCode : Option CardAction → Nat
  | none => 0
  | some .eject => 1
  | some (.retain _) => 2

/-! ## The encoded ticket (R188) -/

/-- Seven bytes of the answer instant: the clock's six and the hundredths (R188). -/
def answerBytes : Option AnswerInstant → List Byte
  | some a =>
    [byte (a.clock.year - 2000), byte a.clock.month, byte a.clock.day, byte a.clock.hour, byte a.clock.minute,
      byte a.clock.second, byte a.hundredths]
  | none => (List.range 7).map fun i => Config.unstatedReplyByte i

def TicketCard.bytes (c : TicketCard) : List Byte :=
  be2 c.series.toNat ++ be4 c.serial.toNat ++ be4 c.unitValue ++ be2 c.cancelled ++ be2 c.lastKnown

/-- Bit 0 CARDLESS, bit 1 DEBT SATURATED, bit 2 CHARGE SATURATED, bit 3 truncated (R188); bits 4 to 7, which the manual
does not name, are sent 0: the model's choice (log 42). -/
def Ticket.flags (t : Ticket) : Byte :=
  byte (t.cardless.toNat + 2 * t.debtSaturated.toNat + 4 * t.chargeSaturated.toNat + 8 * t.truncated.toNat)

/-- The encoded ticket (R188). -/
def Ticket.bytes (t : Ticket) : List Byte :=
  be4 t.sequence
    ++ [byte t.booth.val, byte t.channel.val, byte t.plan.val, byte ((t.cls.map Fin.val).getD 0), t.flags,
        byte t.uncertainCount]
    ++ answerBytes t.answer ++ be4 t.duration ++ be4 t.charged ++ be4 t.shortfall ++ be4 t.unused
    ++ [byte ((t.endCause.map EndCause.code).getD 0), byte t.digits.length]
    ++ t.digits.map (fun d => byte d.val) ++ [byte t.cards.length] ++ t.cards.flatMap TicketCard.bytes

/-! ## Replies (R187) -/

/-- The 28 bytes of FAULT READ (R187). A byte whose field is absent is a free value (log 21). -/
def faultBytes (held : Option FaultReport) (later : Nat) : List Byte :=
  let free := Config.unstatedReplyByte
  match held with
  | none => flagByte false :: ((List.range 26).map fun i => free (i + 1)) ++ [byte later]
  | some r =>
    [flagByte true, byte r.kind.code, byte r.booth.val, byte r.plan.val, byte r.digits.length]
      ++ (List.range 8).map (fun i => match r.digits[i]? with
          | some d => byte d.val
          | none => free (i + 5))
      ++ (match r.card with
          | some c => flagByte true :: be2 c.1.toNat ++ be4 c.2.toNat
          | none => flagByte false :: (List.range 6).map fun i => free (i + 14))
      ++ r.clock.bytes ++ [byte later]

/-- The data of a DONE reply in bytes (R187; orders and widths the rules leave to inference: log 22). Bits
5 to 7 of the pending set and the mask in STATUS READ, which the manual does not name, are sent 0: the model's choice
(log 42). -/
def ReplyData.bytes : ReplyData → List Byte
  | .none => []
  | .tree es => es.flatMap TreeEntry.bytes
  | .plan p => be2 p.root.val ++ [byte p.tag.val, flagByte p.enabled]
  | .cls r => [flagByte r.defined] ++ be4 r.setup ++ be4 r.base ++ [byte r.profile.val, flagByte r.cardless]
  | .series r => be2 r.code.toNat ++ [byte r.state.code] ++ be4 r.unitValue ++ [byte r.warn]
  | .fenced n => [byte n]
  | .stopAdd added bucket => flagByte added :: be2 bucket
  | .stopProbe bucket chain found =>
    be2 bucket ++ [byte chain]
      ++ (match found with
          | Option.some (a, place) => [1#8, byte a.code, byte place]
          | Option.none => [0#8, 0#8, 0#8])
  | .stopStatus used free longest hits misses failures =>
    be4 used ++ be4 free ++ be4 longest ++ be4 hits ++ be4 misses ++ be4 failures
  | .booth d =>
    d.entry.bytes ++ [byte d.health.code, flagByte d.mark] ++ be4 d.misses
      ++ [byte (debitWorkCode d.debitWork), flagByte d.statusDue, byte (cardActionCode d.cardAction)]
      ++ be4 d.signals
  | .status d =>
    [byte d.service.code, flagByte d.linkUp] ++ d.clock.bytes
      ++ [byte d.limits.digitWait, byte d.limits.cardWait, byte d.limits.swapWindow, byte d.limits.maxCall,
          byte d.limits.probe]
      ++ [byte d.westReply, byte d.westWrite, byte d.eastReply, byte d.eastWrite]
      ++ d.access.toList.flatMap (fun g => be2 g.toNat)
      ++ be4 d.commands ++ be4 d.replies ++ be4 d.headSeq ++ be4 d.tailSeq ++ be4 d.filled ++ be4 d.reserved
      ++ be2 d.highWater ++ [flagByte d.faultHeld, byte d.waiting.toNat, byte d.mask.toNat]
  | .fetch headSeq tailSeq filled reserved tickets =>
    be4 headSeq ++ be4 tailSeq ++ be2 filled ++ [byte reserved, byte tickets.length]
      ++ tickets.flatMap Ticket.bytes
  | .released headSeq => be4 headSeq
  | .counters vs => vs.flatMap be4
  | .fault held later => faultBytes held later

/-- A REPLY payload (R187): data only when the outcome is DONE. -/
def Reply.payload (r : Reply) : List Byte :=
  [r.originator, r.tag, r.code, byte r.outcome.code, r.detail]
    ++ (if r.outcome = .done then r.data.bytes else [])

/-- A trunk frame (R186). -/
def trunkFrame (kind channel : Nat) (payload : List Byte) : List Byte :=
  let body := [byte kind, byte channel, byte payload.length] ++ payload
  0x7E#8 :: body ++ crcBytes body

/-- The bytes of a frame the part sends; channel 0 in SYNC, REPLY and NOTICE (R186). Bits 5 to 7 of a NOTICE's cause set,
which the manual does not name, are sent 0: the model's choice (log 42). -/
def OutFrame.bytes : OutFrame → List Byte
  | .sync => trunkFrame 0x01 0 []
  | .sig (.seize ch) => trunkFrame 0x11 ch.val []
  | .sig (.digit ch d) => trunkFrame 0x12 ch.val [byte d.val]
  | .hangup ch => trunkFrame 0x13 ch.val []
  | .reply r => trunkFrame 0x14 0 r.payload
  | .notice causes clock => trunkFrame 0x15 0 (byte causes.toNat :: clock.bytes)

/-! ## Commands by code (R187) and group (R175) -/

/-- Whether a byte is one of the command codes of R187. -/
def knownCode (code : Byte) : Bool :=
  [0x10#8, 0x11#8, 0x12#8, 0x13#8, 0x14#8, 0x15#8, 0x16#8, 0x20#8, 0x21#8, 0x22#8, 0x30#8, 0x31#8, 0x32#8, 0x33#8,
    0x40#8, 0x41#8, 0x42#8, 0x50#8, 0x51#8, 0x52#8, 0x53#8, 0x54#8, 0x55#8, 0x56#8, 0x57#8, 0x60#8, 0x70#8, 0x71#8,
    0x72#8, 0x73#8, 0x74#8, 0x75#8, 0x76#8, 0x77#8, 0x78#8, 0x79#8].contains code

/-- Place of a group in the Access Table (R187). -/
def Group.index : Group → Fin 7
  | .tariff => 0
  | .cards => 1
  | .booths => 2
  | .tickets => 3
  | .service => 4
  | .access => 5
  | .read => 6

/-- Place of a day type in the Band Table (R187). -/
def DayType.index : DayType → Fin 4
  | .weekday => 0
  | .saturday => 1
  | .sunday => 2
  | .holiday => 3

/-- Bit of a notice cause (R187). -/
def NoticeCause.bit : NoticeCause → Fin 5
  | .faultCaptured => 0
  | .ringHigh => 1
  | .ringFull => 2
  | .boothOut => 3
  | .stopMatch => 4

/-- What the action byte of a BOOTH CONTROL command of the right length asks for (R187). -/
inductive BoothAction where
  | takeOut
  | returnBooth
  | forceClear
  deriving DecidableEq, Repr

/-- The action of a BOOTH CONTROL command, none when the length or the action byte is not one of R187's. -/
def boothActionOf (args : List Byte) : Option BoothAction :=
  match args with
  | [_, a] =>
    if a = 0#8 then some .takeOut
    else if a = 1#8 then some .returnBooth
    else if a = 2#8 then some .forceClear
    else none
  | _ => none

/-- The argument length R187 tables for BAND WRITE: 2 + 3 × count. -/
def bandArgsGood (args : List Byte) : Bool :=
  match args with
  | _ :: n :: _ => args.length == 2 + 3 * n.toNat
  | _ => false

/-- The pairs of minute and band of a BAND WRITE (R187). -/
def readBoundaries : List Byte → List (Nat × Nat)
  | m1 :: m0 :: b :: rest => (num2 m1 m0, b.toNat) :: readBoundaries rest
  | _ => []

/-- The row of spec/opcode_table.json that takes a command from the queue (log 5). -/
def takeOf (c : Cmd) : Instr :=
  if c.code = 0x10#8 then .treeWrite c.originator c.tag c.args
  else if c.code = 0x11#8 then .planWrite c.originator c.tag c.args
  else if c.code = 0x12#8 then .classWrite c.originator c.tag c.args
  else if c.code = 0x13#8 then .profileWrite c.originator c.tag c.args
  else if c.code = 0x14#8 then .bandWrite c.originator c.tag c.args
  else if c.code = 0x15#8 then .holidayWrite c.originator c.tag c.args
  else if c.code = 0x16#8 then .cacheFence c.originator c.tag c.args
  else if c.code = 0x20#8 then .seriesWrite c.originator c.tag c.args
  else if c.code = 0x21#8 then .stopAdd c.originator c.tag c.args
  else if c.code = 0x22#8 then .stopRemove c.originator c.tag c.args
  else if c.code = 0x30#8 then .boothMapWrite c.originator c.tag c.args
  else if c.code = 0x31#8 then
    match boothActionOf c.args with
    | some .takeOut => .takeOut c.originator c.tag c.args
    | some .returnBooth => .returnBooth c.originator c.tag c.args
    | some .forceClear => .forceClear c.originator c.tag c.args
    | none => .boothControl c.originator c.tag c.args
  else if c.code = 0x32#8 then .segmentSetup c.originator c.tag c.args
  else if c.code = 0x33#8 then .segmentReset c.originator c.tag c.args
  else if c.code = 0x40#8 then .ticketFetch c.originator c.tag c.args
  else if c.code = 0x41#8 then .ticketRelease c.originator c.tag c.args
  else if c.code = 0x42#8 then .ringSetup c.originator c.tag c.args
  else if c.code = 0x50#8 then .serviceStart c.originator c.tag c.args
  else if c.code = 0x51#8 then .serviceStop c.originator c.tag c.args
  else if c.code = 0x52#8 then .restart c.originator c.tag c.args
  else if c.code = 0x53#8 then .clockSet c.originator c.tag c.args
  else if c.code = 0x54#8 then .limitsWrite c.originator c.tag c.args
  else if c.code = 0x55#8 then .faultClear c.originator c.tag c.args
  else if c.code = 0x56#8 then .noticeSetup c.originator c.tag c.args
  else if c.code = 0x57#8 then .noticeClear c.originator c.tag c.args
  else if c.code = 0x60#8 then .accessWrite c.originator c.tag c.args
  else if c.code = 0x70#8 then .treeRead c.originator c.tag c.args
  else if c.code = 0x71#8 then .planRead c.originator c.tag c.args
  else if c.code = 0x72#8 then .classRead c.originator c.tag c.args
  else if c.code = 0x73#8 then .seriesRead c.originator c.tag c.args
  else if c.code = 0x74#8 then .stopProbe c.originator c.tag c.args
  else if c.code = 0x75#8 then .stopStatus c.originator c.tag c.args
  else if c.code = 0x76#8 then .boothRead c.originator c.tag c.args
  else if c.code = 0x77#8 then .statusRead c.originator c.tag c.args
  else if c.code = 0x78#8 then .counterRead c.originator c.tag c.args
  else if c.code = 0x79#8 then .faultRead c.originator c.tag c.args
  else .unknownCommandCode c.originator c.tag c.code c.args

end Sys2Proof.Machine
end

