-- ==== Sys2Proof/WellFormed.lean ====
section
/-!
DEFINITION. Well-formed commands: those the lines and the command queue can spell (R143, R186, R187, R189).
-/

namespace Sys2Proof

open Sys2Proof.Machine

/-- The arguments of a COMMAND are at most 20 bytes (R186: payload 3–23). -/
def argsFit (args : List Byte) : Bool := decide (args.length ≤ 20)

/-- A parsable booth-line frame: drop address 1–31, tag 0–7, a reply that parses (R189). -/
def frameFits (drop tag : Byte) (reply : BoothReply) : Bool :=
  decide (1 ≤ drop.toNat ∧ drop.toNat ≤ 31) && decide (tag.toNat ≤ 7) && reply.parses

/-- The command can be spelled by the frame or the queue entry its row stands for. -/
def Instr.wf : Instr → Bool
  | .answer ch => decide (ch.toNat ≤ 63)
  | .clear ch => decide (ch.toNat ≤ 63)
  | .command _ _ _ args => argsFit args
  | .events _ drop tag more batch status evs => frameFits drop tag (.events more batch status evs)
  | .done _ drop tag n => frameFits drop tag (.done n)
  | .count _ drop tag series serial n => frameFits drop tag (.count series serial n)
  | .ack _ drop tag => frameFits drop tag .ack
  | .fail _ drop tag reason n => frameFits drop tag (.fail reason n)
  | .staleBoothFrame _ drop tag reply => frameFits drop tag reply
  | .treeWrite _ _ args => argsFit args
  | .planWrite _ _ args => argsFit args
  | .classWrite _ _ args => argsFit args
  | .profileWrite _ _ args => argsFit args
  | .bandWrite _ _ args => argsFit args
  | .holidayWrite _ _ args => argsFit args
  | .cacheFence _ _ args => argsFit args
  | .seriesWrite _ _ args => argsFit args
  | .stopAdd _ _ args => argsFit args
  | .stopRemove _ _ args => argsFit args
  | .boothMapWrite _ _ args => argsFit args
  | .takeOut _ _ args => decide (boothActionOf args = some .takeOut)
  | .returnBooth _ _ args => decide (boothActionOf args = some .returnBooth)
  | .forceClear _ _ args => decide (boothActionOf args = some .forceClear)
  | .segmentSetup _ _ args => argsFit args
  | .segmentReset _ _ args => argsFit args
  | .ticketFetch _ _ args => argsFit args
  | .ticketRelease _ _ args => argsFit args
  | .ringSetup _ _ args => argsFit args
  | .serviceStart _ _ args => argsFit args
  | .serviceStop _ _ args => argsFit args
  | .restart _ _ args => argsFit args
  | .clockSet _ _ args => argsFit args
  | .limitsWrite _ _ args => argsFit args
  | .faultClear _ _ args => argsFit args
  | .noticeSetup _ _ args => argsFit args
  | .noticeClear _ _ args => argsFit args
  | .accessWrite _ _ args => argsFit args
  | .treeRead _ _ args => argsFit args
  | .planRead _ _ args => argsFit args
  | .classRead _ _ args => argsFit args
  | .seriesRead _ _ args => argsFit args
  | .stopProbe _ _ args => argsFit args
  | .stopStatus _ _ args => argsFit args
  | .boothRead _ _ args => argsFit args
  | .statusRead _ _ args => argsFit args
  | .counterRead _ _ args => argsFit args
  | .faultRead _ _ args => argsFit args
  | .unknownCommandCode _ _ code args => !knownCode code && argsFit args
  | .boothControl _ _ args => decide (boothActionOf args = none) && argsFit args
  | _ => true

end Sys2Proof
end

