-- ==== Sys2Proof/Decode.lean ====
section
/-!
DEFINITION. From bytes to commands: `decodeTableWord` (no row of spec/opcode_table.json has bits, so none), and the
two receivers of the manual, which turn the bytes of a line into the row that stands for the frame (R143, R186,
R189).
-/

namespace Sys2Proof

open Sys2Proof.Machine

/-- No row of the table gives bits: no word spells a command (log 31). -/
def decodeTableWord (_nbits _w : Nat) : Option Instr := none

/-- The receiver hunts for the flag byte and skips other bytes (R186); the bytes after the flag. -/
def afterFlag : List Byte → Option (List Byte)
  | [] => none
  | b :: rest => if b = 0x7E#8 then some rest else afterFlag rest

/-- A payload of L bytes, the two CRC bytes and the bytes behind them; none when they have not all arrived. -/
def takePayload (len : Nat) (bytes : List Byte) : Option (List Byte × Byte × Byte × List Byte) :=
  match bytes.drop len with
  | c1 :: c0 :: behind => some (bytes.take len, c1, c0, behind)
  | _ => none

/-- A receiver goes on after each frame, good or bad: it hunts for the next flag in the bytes behind it (R186). `take`
takes one frame from the bytes after a flag; no run of n bytes holds more than n frames. -/
def receiveFrames (take : List Byte → Option (Instr × List Byte)) : Nat → List Byte → List Instr
  | 0, _ => []
  | n + 1, bytes =>
    match (afterFlag bytes).bind take with
    | some (row, behind) => row :: receiveFrames take n behind
    | none => []

/-- The trunk frame's checks in the order of R143, after its CRC was good. -/
def trunkRow (kind channel : Byte) (payload : List Byte) : Instr :=
  if kind = 0x01#8 then
    if payload.isEmpty then .sync else .trunkFrameDiscarded .wrongLength
  else if kind = 0x02#8 then
    if payload.isEmpty then
      (if channel.toNat ≤ 63 then .answer channel else .trunkFrameDiscarded .badChannel)
    else .trunkFrameDiscarded .wrongLength
  else if kind = 0x03#8 then
    if payload.isEmpty then
      (if channel.toNat ≤ 63 then .clear channel else .trunkFrameDiscarded .badChannel)
    else .trunkFrameDiscarded .wrongLength
  else if kind = 0x04#8 then
    match payload with
    | o :: t :: code :: args =>
      if args.length ≤ 20 then .command o t code args else .trunkFrameDiscarded .wrongLength
    | _ => .trunkFrameDiscarded .wrongLength
  else .trunkFrameDiscarded .unknownKind

/-- The trunk frame behind a flag: its row (R186, R143) and the bytes behind it. -/
def takeTrunk : List Byte → Option (Instr × List Byte)
  | kind :: channel :: len :: rest =>
    match takePayload len.toNat rest with
    | some (payload, c1, c0, behind) =>
      if crcBytes (kind :: channel :: len :: payload) = [c1, c0] then some (trunkRow kind channel payload, behind)
      else some (.trunkFrameDiscarded .badCrc, behind)
    | none => none
  | _ => none

/-- The rows of the trunk frames in a run of received bytes, in order (R186, R143). -/
def receiveTrunk (bytes : List Byte) : List Instr := receiveFrames takeTrunk bytes.length bytes

/-- The row of a parsable booth-line frame. Whether the frame is good, stale or mismatched the state decides
(R129). -/
def replyRow (g : Segment) (drop tag : Byte) : BoothReply → Instr
  | .events more batch status evs => .events g drop tag more batch status evs
  | .done count => .done g drop tag count
  | .count series serial count => .count g drop tag series serial count
  | .ack => .ack g drop tag
  | .fail reason count => .fail g drop tag reason count

/-- The booth-line frame behind a flag: its row (R189) and the bytes behind it. -/
def takeBooth (g : Segment) : List Byte → Option (Instr × List Byte)
  | drop :: kind :: tag :: len :: rest =>
    match takePayload len.toNat rest with
    | some (payload, c1, c0, behind) =>
      if crcBytes (drop :: kind :: tag :: len :: payload) = [c1, c0] ∧ tag.toNat ≤ 7 then
        match readReply kind payload with
        | some r => some (replyRow g drop tag r, behind)
        | none => some (.boothFrameGarbled g, behind)
      else some (.boothFrameGarbled g, behind)
    | none => none
  | _ => none

/-- The rows of the booth-line frames in a run of bytes received on a segment, in order (R189). -/
def receiveBooth (g : Segment) (bytes : List Byte) : List Instr := receiveFrames (takeBooth g) bytes.length bytes

end Sys2Proof
end

