-- ==== Sys2Proof/Machine/Flags.lean ====
section
/-!
DEFINITION. The computations of the manual that touch no state: saturating sums, the tick charge, the units of a
CANCEL, the calendar, the band of a minute, the sequence cycle, the window lengths, the sparse tables, the signal
queue and the Tariff Cache's list operations.
-/

namespace Sys2Proof.Machine

/-! ## Amounts -/

/-- Addition stopping at 4,294,967,295 (R69, R180). -/
def satAdd (a b : Nat) : Nat := min Config.maxCounter (a + b)

/-- The tick charge t of R67. -/
def tickCharge (b m : Nat) : Nat := (b * m + 8192) / 16384

/-- The quotient rounded up (R76). -/
def ceilDiv (a b : Nat) : Nat := (a + b - 1) / b

/-- The units of a CANCEL: the smallest of ceil(−P / V), the remaining units and 8 (R75). -/
def unitsFor (p : Int) (v remaining : Nat) : Nat := min (min (ceilDiv p.natAbs v) remaining) 8

/-- Whether subtracting t would take P below the floor (R73). -/
def clamps (p : Int) (t : Nat) : Bool := decide (p - t < Config.minBalance)

/-- P after a tick (R72, R73). -/
def lowerBalance (p : Int) (t : Nat) : Int := max Config.minBalance (p - t)

/-- Remaining units: face less the last known count (R81, R101). The count may exceed the face (log 20). -/
def remainingUnits (face lastKnown : Nat) : Int := (face : Int) - (lastKnown : Int)

/-- The units SHOW UNITS carries (R85, R113); a free value when the count exceeds the face (log 20). -/
def shownUnits (face lastKnown : Nat) : Nat :=
  if lastKnown ≤ face then face - lastKnown else Config.shownUnitsBelowZero face lastKnown

/-- k of a count against a count before, when it lies in 0 to n (R104). -/
def confirmedUnits (count before n : Nat) : Option Nat :=
  if before ≤ count ∧ count - before ≤ n then some (count - before) else none

/-! ## Calendar and bands -/

/-- The last day of a month (R61, R63). -/
def daysInMonth (year month : Nat) : Nat :=
  if month = 2 then (if year % 4 = 0 then 29 else 28)
  else if month = 4 ∨ month = 6 ∨ month = 9 ∨ month = 11 then 30
  else 31

/-- A change of date (R63). -/
def Clock.advanceDate (c : Clock) : Clock :=
  let c := { c with weekday := c.weekday + 1 }
  if c.day < daysInMonth c.year c.month then { c with day := c.day + 1 }
  else if c.month < 12 then { c with day := 1, month := c.month + 1 }
  else if c.year < 2099 then { c with day := 1, month := 1, year := c.year + 1 }
  else { c with day := 1, month := 1, year := 2000 }

/-- One second on the calendar clock (R63). -/
def Clock.advance (c : Clock) : Clock :=
  if c.second < 59 then { c with second := c.second + 1 }
  else if c.minute < 59 then { c with second := 0, minute := c.minute + 1 }
  else if c.hour < 23 then { c with second := 0, minute := 0, hour := c.hour + 1 }
  else Clock.advanceDate { c with second := 0, minute := 0, hour := 0 }

/-- A date that exists in 2000–2099 (R61). -/
def dateExists (year month day : Nat) : Bool :=
  decide (2000 ≤ year ∧ year ≤ 2099 ∧ 1 ≤ month ∧ month ≤ 12 ∧ 1 ≤ day ∧ day ≤ daysInMonth year month)

def Clock.date (c : Clock) : Date := { year := c.year, month := c.month, day := c.day }

/-- The day type (R65). -/
def dayType (holidays : Vector (Option Date) 32) (c : Clock) : DayType :=
  if holidays.toList.contains (some c.date) then .holiday
  else if c.weekday = 5 then .saturday
  else if c.weekday = 6 then .sunday
  else .weekday

/-- The band of a boundary list at a minute of the day (R59). -/
def bandAt (boundaries : List Boundary) (minute : Nat) : Fin 6 :=
  match (boundaries.filter fun x => decide (x.minute ≤ minute)).getLast? with
  | some x => x.band
  | none => 0

/-- The minute of the day (R59). -/
def Clock.minuteOfDay (c : Clock) : Nat := c.hour * 60 + c.minute

/-- The multiplier in force for a profile (R66 steps 1 to 3). -/
def Tariff.multiplier (t : Tariff) (profile : Fin 4) : Nat :=
  let band := bandAt (t.bands.get (dayType t.holidays t.clock).index) t.clock.minuteOfDay
  ((t.profiles.get profile).get band).toNat

/-- s of a snapshot as charged: 0 when CARDLESS (R36). -/
def Snapshot.setupCharged (p : Snapshot) : Nat := if p.cardless then 0 else p.setup

/-- b of a snapshot as charged: 0 when CARDLESS (R36). -/
def Snapshot.baseCharged (p : Snapshot) : Nat := if p.cardless then 0 else p.base

/-- The tick charge of a snapshot at the clock's band (R66, R67). -/
def Tariff.charge (t : Tariff) (p : Snapshot) : Nat := tickCharge p.baseCharged (t.multiplier p.profile)

/-! ## Sequence numbers (R159) -/

def seqNext (n : Nat) : Nat := if n = Config.seqCycle then 1 else n + 1

/-- The forward distance from a to b along the cycle. -/
def forwardDistance (a b : Nat) : Nat := (b + Config.seqCycle - a) % Config.seqCycle

/-- Whether a sequence counts as at or after the head. -/
def atOrAfter (head b : Nat) : Bool := decide (forwardDistance head b ≤ 2147483647)

/-! ## Windows (R128) -/

/-- The effective window of a code, in units of 0.25 ms. -/
def windowLength (code : Nat) : Instant := 2 ^ max code 3 - 1

/-! ## Sparse tables -/

/-- The value a table holds under a key; `d` where nothing is listed. -/
def smGet {α : Type} (d : α) (k : Nat) : SMap α → α
  | [] => d
  | (k', v) :: rest => if k' = k then v else smGet d k rest

/-- Writing keeps the canonical form: writing the default removes the entry. -/
def smPut {α : Type} [DecidableEq α] (d : α) (k : Nat) (v : α) : SMap α → SMap α
  | [] => if v = d then [] else [(k, v)]
  | (k', v') :: rest =>
    if k = k' then (if v = d then smPut d k v rest else (k, v) :: rest)
    else if v ≠ d ∧ k < k' then (k, v) :: (k', v') :: rest
    else (k', v') :: smPut d k v rest

/-- The canonical form: keys rising, no entry equal to the default. -/
def smWf {α : Type} [DecidableEq α] (d : α) : SMap α → Bool
  | [] => true
  | (k, v) :: rest => !decide (v = d) && rest.all (fun e => decide (k < e.1)) && smWf d rest

/-! ## Signal queues (R136) -/

def Signal.isShowUnits : Signal → Bool
  | .showUnits _ => true
  | _ => false

/-- A signal posted to a booth joins its queue. -/
def joinSignal (sig : Signal) (q : List Signal) : List Signal :=
  if sig.isShowUnits && q.any Signal.isShowUnits then q.map fun x => if x.isShowUnits then sig else x
  else (q ++ [sig]).drop (q.length + 1 - 4)

/-- A signal whose transaction was a miss goes back to the oldest end. -/
def returnSignal (sig : Signal) (q : List Signal) : List Signal :=
  if sig.isShowUnits && q.any Signal.isShowUnits then q
  else if 4 ≤ q.length then q
  else sig :: q

/-! ## Tariff Cache (03) -/

/-- Whether a valid entry matches a lookup (R44). -/
def CacheEntry.hits (str : List Digit) (tag : Fin 64) (e : CacheEntry) : Bool :=
  decide (e.digits = str) && (decide (e.scope = .common) || decide (e.scope = .tag tag))

def cacheLookup (str : List Digit) (tag : Fin 64) (cache : List CacheEntry) : Option CacheEntry :=
  cache.find? (CacheEntry.hits str tag)

/-- A hit moves the entry to the most recently used end (R43). -/
def cacheTouch (e : CacheEntry) (cache : List CacheEntry) : List CacheEntry := e :: cache.erase e

/-- A fill, common or not, with its invalidations and its replacement (R46, R47, R48). -/
def cacheFill (e : CacheEntry) (cache : List CacheEntry) : List CacheEntry :=
  let kept := if e.scope = .common then cache.filter (fun x => !decide (x.digits = e.digits)) else cache
  (e :: kept).take Config.cacheEntries

/-- Whether a fence with these arguments selects an entry (R50); an absent prefix is the empty one. -/
def fenceSelects (tag : Option (Fin 64)) (pfx : List Digit) (e : CacheEntry) : Bool :=
  pfx.isPrefixOf e.digits
    && (match tag with
        | some t => decide (e.scope = .tag t)
        | none => true)

/-! ## The Stop List (R94) -/

/-- The bucket of an identity. -/
def bucketOf (series : BitVec 16) (serial : BitVec 32) : Nat := (serial.toNat + 7 * series.toNat) % 512

def StopEntry.isFor (series : BitVec 16) (serial : BitVec 32) (e : StopEntry) : Bool :=
  decide (e.series = series) && decide (e.serial = serial)

def StopList.chain (l : StopList) (bucket : Nat) : List StopEntry := smGet [] bucket l.chains

/-- The entry of an identity and its place in the chain, 0 for the oldest. -/
def StopList.find (l : StopList) (series : BitVec 16) (serial : BitVec 32) : Option (StopEntry × Nat) :=
  let chain := l.chain (bucketOf series serial)
  match chain.find? (StopEntry.isFor series serial), chain.findIdx? (StopEntry.isFor series serial) with
  | some e, some i => some (e, i)
  | _, _ => none

def StopList.setChain (l : StopList) (bucket : Nat) (chain : List StopEntry) : StopList :=
  { l with chains := smPut [] bucket chain l.chains }

/-- The number of used entries. -/
def StopList.used (l : StopList) : Nat := (l.chains.map fun c => c.2.length).sum

/-- The length of the longest chain (R97). -/
def StopList.longest (l : StopList) : Nat := (l.chains.map fun c => c.2.length).foldl max 0

/-! ## The Series Table (R92) -/

/-- The record of a series code among the ACTIVE and WITHDRAWN ones. -/
def seriesFind (table : Vector SeriesRecord 32) (code : BitVec 16) : Option SeriesRecord :=
  table.toList.find? fun r => decide (r.code = code) && !decide (r.state = .unused)

/-! ## Identities -/

def CardSlot.identity : CardSlot → Option (BitVec 16 × BitVec 32)
  | .empty => none
  | .valid r _ _ _ => some (r.series, r.serial)
  | .refused r _ _ => some (r.series, r.serial)

def CardSlot.isValid : CardSlot → Bool
  | .valid _ _ _ _ => true
  | _ => false

def CardEntry.identity (e : CardEntry) : BitVec 16 × BitVec 32 := (e.series, e.serial)

def CardEntry.remaining (e : CardEntry) : Int := remainingUnits e.face e.lastKnown

/-- The ask of an outstanding request. -/
def Outstanding.ask : Outstanding → Option Ask
  | .none => Option.none
  | .cancel a => some a
  | .verify a => some a

def SigFrame.channel : SigFrame → Channel
  | .seize ch => ch
  | .digit ch _ => ch

def SigFrame.isSeize : SigFrame → Bool
  | .seize _ => true
  | .digit _ _ => false

/-- States of an unanswered call (R11). -/
def CtxState.preAnswer : CtxState → Bool
  | .dialling | .cardWait | .routed => true
  | _ => false

/-- SPEECH and SWAP: answered and metered. -/
def CtxState.metered : CtxState → Bool
  | .speech | .swap => true
  | _ => false

/-- The signal of an end before answer (R11's table). -/
def EndCause.signal : EndCause → Option Signal
  | .unobtainable => some (.callRefused (.ended .unobtainable))
  | .barred => some (.callRefused (.ended .barred))
  | .credit => some (.callRefused (.ended .credit))
  | .digitTimeout => some (.callRefused (.ended .digitTimeout))
  | .cardWaitExpired => some (.callRefused (.ended .cardWaitExpired))
  | .cardRemoved => some (.callRefused (.ended .cardRemoved))
  | .earlyAnswer => some (.callRefused (.ended .earlyAnswer))
  | .forced => some (.callRefused (.ended .forced))
  | .exchangeCleared => some (.callRefused (.ended .exchangeCleared))
  | .link => some .outOfOrder
  | _ => none

/-- The fields a context takes on returning to FREE by any path (R1). -/
def Ctx.toFree (c : Ctx) : Ctx := { Ctx.reset with hookOff := c.hookOff, endCause := c.endCause }

/-- The walk digits of a debit-side fault report: the digit list up to the leaf depth (R73, R105). -/
def Ctx.walkDigits (c : Ctx) : List Digit := c.digits.take c.depth

/-- The signal of a refusal at admission (R4). -/
def RefusalCause.signal : RefusalCause → Signal
  | .service => .outOfOrder
  | .link => .outOfOrder
  | c => .callRefused (.refused c)

/-- IN SERVICE or SUSPECT. -/
def Health.reachable : Health → Bool
  | .inService | .suspect => true
  | _ => false

/-- Health to which work may be posted: all but LOST and DISABLED (R135). -/
def Health.takesWork : Health → Bool
  | .lost | .disabled => false
  | _ => true

/-- The sequence number of the oldest ticket, the next sequence on an empty ring (R155). -/
def Ring.headSeq (r : Ring) : Nat :=
  match r.tickets with
  | t :: _ => t.sequence
  | [] => r.nextSeq

def Ring.filled (r : Ring) : Nat := r.tickets.length

/-- The slot where the next ticket is written (R155). -/
def Ring.tailSlot (r : Ring) : Nat := (r.head + r.filled) % Config.ringSlots

/-- Whether a reply answers a request (R127). -/
def Request.accepts (r : Request) (reply : BoothReply) : Bool :=
  match r, reply with
  | _, .fail .readerFault _ => true
  | .poll _, .events _ _ marker _ => !marker
  | .status, .events _ _ marker _ => marker
  | .cancel _ _, .done _ => true
  | .cancel _ _, .fail _ _ => true
  | .verify _, .count _ _ _ => true
  | .verify _, .fail _ _ => true
  | .signal _, .ack => true
  | .eject, .ack => true
  | .eject, .fail .noCard _ => true
  | .retain _, .ack => true
  | .retain _, .fail .noCard _ => true
  | .retain _, .fail .wrongCard _ => true
  | _, _ => false

/-- Whether a request asks for the write window (R128). -/
def Request.isCancel : Request → Bool
  | .cancel _ _ => true
  | _ => false

def Request.isCardAction : Request → Bool
  | .eject => true
  | .retain _ => true
  | _ => false

end Sys2Proof.Machine
end

