-- ==== Sys2Proof/Machine/Ops.lean ====
section
/-!
DEFINITION. The named operations every block uses: reading and changing one part of the state, counters, fault
reports and notices, work posted to a booth's line, the Trunk Port's queues, the end of DRAINING.
-/

namespace Sys2Proof.Machine

/-! ## Reading and changing one part -/

def State.ctx (s : State) (b : Booth) : Ctx := s.ctxs.get b
def State.debit (s : State) (b : Booth) : Debit := s.debits.get b
def State.slot (s : State) (b : Booth) : CardSlot := s.card.slots.get b
def State.entry (s : State) (b : Booth) : MapEntry := s.line.map.get b
def State.boothLine (s : State) (b : Booth) : BoothLine := s.line.booths.get b

def State.seg (s : State) : Segment → SegLine
  | .west => s.line.west
  | .east => s.line.east

def modCtx (b : Booth) (f : Ctx → Ctx) (s : State) : State :=
  { s with ctxs := s.ctxs.set b.val (f (s.ctxs.get b)) b.isLt }

def modDebit (b : Booth) (f : Debit → Debit) (s : State) : State :=
  { s with debits := s.debits.set b.val (f (s.debits.get b)) b.isLt }

def setSlot (b : Booth) (x : CardSlot) (s : State) : State :=
  { s with card := { s.card with slots := s.card.slots.set b.val x b.isLt } }

def modBoothLine (b : Booth) (f : BoothLine → BoothLine) (s : State) : State :=
  { s with line := { s.line with booths := s.line.booths.set b.val (f (s.line.booths.get b)) b.isLt } }

def modSeg (g : Segment) (f : SegLine → SegLine) (s : State) : State :=
  match g with
  | .west => { s with line := { s.line with west := f s.line.west } }
  | .east => { s with line := { s.line with east := f s.line.east } }

def modTrunk (f : Trunk → Trunk) (s : State) : State := { s with trunk := f s.trunk }
def modRing (f : Ring → Ring) (s : State) : State := { s with ring := f s.ring }
def modMgmt (f : Mgmt → Mgmt) (s : State) : State := { s with mgmt := f s.mgmt }
def modNotices (f : Notices → Notices) (s : State) : State :=
  { s with mgmt := { s.mgmt with notices := f s.mgmt.notices } }

/-- The cache and nothing else of the Route Unit. -/
def setCache (c : List CacheEntry) (s : State) : State := { s with route := { s.route with cache := c } }

/-- An event that falls at an instant is taken: the time base has reached it (log 2). -/
def reach (i : Instant) (s : State) : State := { s with now := max s.now i }

/-! ## Counters (R180) -/

def bumpBy (c : CounterId) (n : Nat) (s : State) : State :=
  { s with counters := s.counters.set c.1.val ((s.counters.get c.1).modify c.2 (satAdd · n)) c.1.isLt }

def bump (c : CounterId) (s : State) : State := bumpBy c 1 s

/-- The value of a counter. -/
def State.counter (s : State) (c : CounterId) : Nat := (s.counters.get c.1).getD c.2 0

/-! ## Views -/

/-- The clock's fraction in hundredths (R62, R63; log 4). -/
def State.hundredths (s : State) : Nat :=
  if s.tariff.clock.valid then min 99 ((s.now - s.tariff.secondInstant) / Config.hundredth) else 0

/-- The Channel Map's entry (R144). -/
def State.channelMap (s : State) (ch : Channel) : Option Booth :=
  allBooths.find? fun b => (s.entry b).enabled && decide ((s.entry b).channel = ch)

def State.allFree (s : State) : Bool := allBooths.all fun b => decide ((s.ctx b).state = .free)

/-- The call's class is CARDLESS (R15, R102). -/
def State.cardlessCall (s : State) (b : Booth) : Bool :=
  match (s.ctx b).snap with
  | some p => p.cardless
  | none => false

/-- The list entry of the slot's VALID card, by place in the card list. -/
def State.slotEntry (s : State) (b : Booth) : Option (Nat × CardEntry) :=
  match s.slot b with
  | .valid r _ _ _ =>
    match (s.debit b).cards.findIdx? fun e => decide (e.identity = (r.series, r.serial)) with
    | some i => ((s.debit b).cards[i]?).map fun e => (i, e)
    | none => none
  | _ => none

/-- The current card of a call (R102). -/
def State.currentCard (s : State) (b : Booth) : Option (Nat × CardEntry) :=
  match s.slotEntry b with
  | some (i, e) => if e.countFault then none else some (i, e)
  | none => none

/-! ## Fault reports and notices (11) -/

/-- A notice cause becomes pending (R181). -/
def notePending (c : NoticeCause) (s : State) : State :=
  modNotices
    (fun n =>
      if n.waiting.getLsbD c.bit then n
      else
        { n with
          waiting := n.waiting ||| (1#5 <<< c.bit.val)
          due := n.due || !n.mask.getLsbD c.bit })
    s

/-- A fault report taken by the Fault Capture record (R177). -/
def reportFault (kind : FaultKind) (b : Booth) (plan : Fin 8) (digits : List Digit)
    (card : Option (BitVec 16 × BitVec 32)) (s : State) : State :=
  match s.mgmt.faultHeld with
  | none =>
    s |> bump (Ctr.faultReports kind)
      |> modMgmt (fun m =>
          { m with
            faultHeld := some { kind := kind, booth := b, plan := plan, digits := digits, card := card,
                                clock := s.tariff.clock } })
      |> notePending .faultCaptured
  | some _ =>
    s |> bump (Ctr.faultReports kind)
      |> modMgmt fun m => { m with laterFaults := min 255 (m.laterFaults + 1) }

/-! ## Work posted to a booth's line (R135, R136) -/

/-- Posting to a booth whose health is LOST or DISABLED is discarded (R135). -/
def postTo (b : Booth) (f : BoothLine → BoothLine) (s : State) : State :=
  if (s.boothLine b).health.takesWork then modBoothLine b f s else s

def postSignal (b : Booth) (sig : Signal) (s : State) : State :=
  postTo b (fun l => { l with signals := joinSignal sig l.signals }) s

def postDebit (b : Booth) (w : DebitWork) (s : State) : State :=
  postTo b (fun l => { l with debitWork := some w }) s

/-- The open transaction to the booth whose outcome counts (R127, R125). -/
def State.openTo (s : State) (b : Booth) : Option Transaction :=
  match (s.seg (s.entry b).segment).transaction with
  | some t => if t.booth = b ∧ t.orphan = false then some t else none
  | none => none

/-- A card action of the booth is in flight. -/
def State.actionInFlight (s : State) (b : Booth) : Bool :=
  match s.openTo b with
  | some t => t.request.isCardAction
  | none => false

/-- A card action newly posted replaces one not yet sent and waits behind one in flight (R135; log 18). One that was
sent and missed, and is pending again with nothing waiting, is replaced: the model's choice (log 38). -/
def postCardAction (b : Booth) (a : CardAction) (s : State) : State :=
  let behind := s.actionInFlight b || (s.boothLine b).cardNext.isSome
  postTo b (fun l => if behind then { l with cardNext := some a } else { l with cardAction := some a }) s

/-- A CARD OUT from a REFUSED slot withdraws an unsent card action (R88, R135). -/
def withdrawCardAction (b : Booth) (s : State) : State :=
  let flying := s.actionInFlight b
  modBoothLine b
    (fun l => if flying then { l with cardNext := none } else { l with cardAction := none, cardNext := none }) s

/-- Clearing a booth's pending work empties all four kinds (R135). -/
def BoothLine.cleared (l : BoothLine) : BoothLine :=
  { l with debitWork := none, statusDue := false, cardAction := none, cardNext := none, signals := [] }

def clearPending (b : Booth) (s : State) : State := modBoothLine b BoothLine.cleared s

/-- IN ORDER when the service state is IN SERVICE, OUT OF ORDER otherwise (R133, R134). -/
def State.orderSignal (s : State) : Signal := if s.mgmt.service = .inService then .inOrder else .outOfOrder

/-- A signal queued to every booth that meets a condition, lowest booth first. -/
def signalBooths (p : Booth → Bool) (sig : Signal) (s : State) : State :=
  allBooths.foldl (fun t b => if p b then postSignal b sig t else t) s

/-! ## Releasing a VALID card (R90) -/

def releaseCard (b : Booth) (reason : CardReason) (s : State) : State :=
  match s.slot b with
  | .valid r _ _ _ =>
    let s := s |> setSlot b (.refused r reason .eject) |> postCardAction b .eject |> bump Ctr.releases
    if reason = .cardLimit then postSignal b (.cardRefused .cardLimit) s else s
  | _ => s

/-! ## The Trunk Port's queues (08) -/

/-- Whether the signalling queue has room: always while the link is DOWN (R146, R152). -/
def State.sigRoom (s : State) : Bool := !s.trunk.linkUp || decide (s.trunk.sigQueue.length < Config.sigQueueMax)

/-- A frame offered to the signalling queue; discarded and counted while the link is DOWN (R146, R152). -/
def queueSig (f : SigFrame) (s : State) : State :=
  if s.trunk.linkUp then modTrunk (fun t => { t with sigQueue := t.sigQueue ++ [f] }) s
  else bump Ctr.signallingDiscarded s

/-- A channel joins the hangup-owed set; discarded and counted while the link is DOWN (R149, R152). -/
def oweHangup (ch : Channel) (s : State) : State :=
  if s.trunk.linkUp then modTrunk (fun t => { t with hangupOwed := t.hangupOwed.set ch.val true ch.isLt }) s
  else bump Ctr.hangupsDiscarded s

def joinWaiting (b : Booth) (s : State) : State :=
  modTrunk (fun t => if t.waiting.contains b then t else { t with waiting := t.waiting ++ [b] }) s

def leaveWaiting (b : Booth) (s : State) : State :=
  modTrunk (fun t => { t with waiting := t.waiting.filter (fun x => !decide (x = b)) }) s

/-- One offer of a free slot to the oldest booth of the waiting list (R147). -/
def offerSlot (s : State) : State :=
  match s.trunk.waiting with
  | [] => s
  | b :: rest =>
    match (s.ctx b).held with
    | [] => modTrunk (fun t => { t with waiting := rest }) s
    | d :: ds =>
      s |> modCtx b (fun c => { c with held := ds })
        |> queueSig (.digit (s.entry b).channel d)
        |> modTrunk (fun t => { t with waiting := if ds.isEmpty then rest else rest ++ [b] })

def offerSlotsFuel : Nat → State → State
  | 0, s => s
  | n + 1, s => if s.sigRoom && !s.trunk.waiting.isEmpty then offerSlotsFuel n (offerSlot s) else s

/-- Every offer shortens a held list or the waiting list, so this many offers exhaust them. -/
def State.offersBound (s : State) : Nat :=
  (s.trunk.waiting.map fun b => (s.ctx b).held.length).sum + s.trunk.waiting.length

/-- Offers go on while slots are free and the waiting list is not empty (R147). -/
def offerSlots (s : State) : State := offerSlotsFuel s.offersBound s

/-- Forwarding a digit (R5). -/
def forward (b : Booth) (d : Digit) (s : State) : State :=
  let held := (s.ctx b).held
  if held.isEmpty && s.sigRoom then queueSig (.digit (s.entry b).channel d) s
  else if held.length < Config.digitsMax then
    s |> modCtx b (fun c => { c with held := c.held ++ [d] }) |> joinWaiting b
  else bump Ctr.digitsDiscarded s

/-- Whether `forward` discards the digit (R5, R10). -/
def State.forwardDiscards (s : State) (b : Booth) : Bool :=
  let held := (s.ctx b).held
  !(held.isEmpty && s.sigRoom) && decide (Config.digitsMax ≤ held.length)

def releaseHeldFuel : Nat → Booth → State → State
  | 0, _, s => s
  | n + 1, b, s =>
    match (s.ctx b).held with
    | [] => s
    | d :: ds =>
      if s.sigRoom then
        releaseHeldFuel n b
          (s |> modCtx b (fun c => { c with held := ds }) |> queueSig (.digit (s.entry b).channel d))
      else joinWaiting b s

/-- The held digits released on a pass in CARD WAIT: as many as the queue has room for; the rest wait (R7, R147). -/
def releaseHeld (b : Booth) (s : State) : State := releaseHeldFuel ((s.ctx b).held.length + 1) b s

/-- The release of a booth's channel (R148). -/
def releaseChannel (b : Booth) (owe : Bool) (s : State) : State :=
  let ch := (s.entry b).channel
  let withdrawn := s.trunk.sigQueue.filter fun f => decide (f.channel = ch)
  let s := s
    |> modTrunk (fun t => { t with sigQueue := t.sigQueue.filter fun f => !decide (f.channel = ch) })
    |> leaveWaiting b
    |> bumpBy Ctr.framesWithdrawn withdrawn.length
  offerSlots (if owe && !withdrawn.any SigFrame.isSeize then oweHangup ch s else s)

/-! ## Booth health -/

/-- Entry to OUT OF SERVICE (TAKEN) (R134, R17 step 5). -/
def enterTaken (b : Booth) (s : State) : State :=
  s |> modBoothLine b (fun l => { l with mark := false, health := .taken, probeTimer := none, probeDue := false })
    |> postSignal b .outOfOrder

/-- A take-out mark is acted on when the context becomes FREE (R11 step 9, R17 step 5, R173). -/
def honourMark (b : Booth) (s : State) : State := if (s.boothLine b).mark then enterTaken b s else s

/-! ## The end of DRAINING (R169) -/

def checkDrain (s : State) : State :=
  if s.mgmt.service = .draining ∧ s.allFree then
    s |> modMgmt (fun m => { m with service := .outOfService })
      |> signalBooths (fun b => (s.entry b).enabled && (s.boothLine b).health.reachable) .outOfOrder
  else s

/-! ## Tickets (R157, R158) -/

/-- The ticket of a call as its context and debit record stand (R158, R121). -/
def State.buildTicket (s : State) (b : Booth) : Ticket :=
  let c := s.ctx b
  let d := s.debit b
  { sequence := s.ring.nextSeq, booth := b, channel := (s.entry b).channel, plan := c.plan, cls := c.cls,
    cardless := s.cardlessCall b, answer := c.answer, duration := d.duration, digits := c.digits,
    truncated := c.truncated, charged := d.charged,
    cards := d.cards.map fun e =>
      { series := e.series, serial := e.serial, unitValue := e.unitValue, cancelled := e.cancelled,
        lastKnown := e.lastKnown },
    shortfall := min Config.maxQuanta (d.charged - d.covered),
    unused := min Config.maxQuanta (d.covered - d.charged),
    endCause := c.endCause, debtSaturated := d.debtSaturated, chargeSaturated := d.chargeSaturated,
    uncertainCount := d.uncertainCount }

/-- A ticket is written at the tail (R157). -/
def writeTicket (b : Booth) (s : State) : State :=
  let s := s
    |> modRing (fun r =>
        { r with tickets := r.tickets ++ [s.buildTicket b], reserved := r.reserved - 1,
                 nextSeq := seqNext r.nextSeq })
    |> bump Ctr.ticketsWritten
  if s.ring.highWater ≤ s.ring.filled then notePending .ringHigh s else s

/-- A reservation is given back (R156). -/
def giveBackReservation (s : State) : State := modRing (fun r => { r with reserved := r.reserved - 1 }) s

/-! ## Band evaluation (R66) -/

/-- One context's band evaluation: t is stored and counted. -/
def evaluateBand (b : Booth) (s : State) : State :=
  match (s.ctx b).snap with
  | some p =>
    s |> modDebit b (fun d => { d with t := some (s.tariff.charge p) }) |> bump Ctr.bandEvaluations
  | none => s

/-- Every context in SPEECH or SWAP is evaluated (R66). -/
def evaluateAll (s : State) : State :=
  allBooths.foldl (fun t b => if (t.ctx b).state.metered then evaluateBand b t else t) s

end Sys2Proof.Machine
end

