-- ==== Sys2Proof/Machine/Endings.lean ====
section
/-!
DEFINITION. The ends of calls: the end before answer (R11), completion (R17), entry to ENDING with the settle (R16,
R118, R119), the settle cut short (R20, R120), uncertain cancels (R110).
-/

namespace Sys2Proof.Machine

/-- The context becomes FREE (R1), its card list is emptied (R11 step 7, R17 step 4) and its uncertain record is
dropped (R111). -/
def freeContext (b : Booth) (s : State) : State :=
  s |> modDebit b (fun d => { d with cards := [], uncertain := none }) |> modCtx b Ctx.toFree

/-- The procedure of R11 for a call in DIALLING, CARD WAIT or ROUTED. At an end that also ends a drain the manual gives no
order between step 9 and R169's OUT OF ORDER (R17 orders the two for a completion); the take-out mark is honoured first,
so a marked booth is queued one OUT OF ORDER: the model's choice (log 41). -/
def endBeforeAnswer (b : Booth) (cause : EndCause) (s : State) : State :=
  let s := modCtx b
    (fun c => { c with endCause := some cause, digitWait := none, cardWait := none, held := [] }) s
  let s :=
    match cause.signal with
    | some sig => postSignal b sig s
    | none => s
  s |> releaseChannel b (!decide (cause = .exchangeCleared))
    |> giveBackReservation
    |> freeContext b
    |> bump (Ctr.preAnswer cause)
    |> honourMark b
    |> checkDrain

/-- Completion of an answered call (R17); `eject` is false at a completion that R20 makes. -/
def complete (b : Booth) (eject : Bool) (s : State) : State :=
  let c := s.ctx b
  let s := writeTicket b s
  let s := if eject then releaseCard b .returned s else s
  let s := s
    |> modCtx b (fun c => { c with held := [] })
    |> releaseChannel b (!c.exchangeCleared)
    |> freeContext b
  let s :=
    match c.endCause with
    | some cause => bump (Ctr.ended cause) s
    | none => s
  s |> honourMark b |> checkDrain

/-! ## The settle -/

/-- A CANCEL is posted for the entry at place i (R103). -/
def postCancel (b : Booth) (i : Nat) (e : CardEntry) (n : Nat) (final : Bool) (s : State) : State :=
  s |> modDebit b (fun d =>
        { d with outstanding := .cancel { entry := i, n := n, before := e.lastKnown, final := final } })
    |> postDebit b (.cancel n e.serial)
    |> bump Ctr.cancelsPosted

/-- The stage becomes SETTLED and the Call Engine completes the call (R118, R17). -/
def settled (b : Booth) (s : State) : State :=
  s |> modDebit b (fun d => { d with stage := .settled }) |> complete b true

/-- The final test of R118. -/
def finalTest (b : Booth) (s : State) : State :=
  let d := s.debit b
  match s.currentCard b with
  | some (i, e) =>
    if d.p < 0 ∧ d.cardLeft = false ∧ 0 < e.remaining ∧ (s.boothLine b).health.reachable then
      s |> modDebit b (fun d => { d with stage := .awaitingFinal })
        |> postCancel b i e (unitsFor d.p e.unitValue e.remaining.toNat) true
        |> bump Ctr.finalCancels
    else settled b s
  | none => settled b s

/-- The settle begins (R118). -/
def beginSettle (b : Booth) (s : State) : State :=
  match (s.debit b).outstanding with
  | .none => finalTest b s
  | _ => modDebit b (fun d => { d with stage := .awaitingRequest }) s

/-- Entry to ENDING from SPEECH or SWAP (R16); in any other state nothing. -/
def enterEnding (b : Booth) (cause : EndCause) (s : State) : State :=
  if (s.ctx b).state.metered then
    s |> modCtx b (fun c => { c with state := .ending, endCause := some cause, swapWindow := none })
      |> modDebit b (fun d => { d with nextTick := none, cardLeft := false })
      |> beginSettle b
  else s

/-- The settle goes on after a request is resolved, by its final mark (R119). -/
def settleOn (b : Booth) (final : Bool) (s : State) : State := if final then settled b s else finalTest b s

/-! ## Uncertain cancels (R110) -/

/-- The outstanding request becomes uncertain. `report` is false in case (c), a reset. -/
def makeUncertain (b : Booth) (a : Ask) (report : Bool) (s : State) : State :=
  let d := s.debit b
  let c := s.ctx b
  let s := s
    |> modDebit b (fun d =>
        { d with outstanding := .none, uncertainCount := min 255 (d.uncertainCount + 1),
                 uncertain := some { entry := a.entry, before := a.before, n := a.n } })
    |> bump Ctr.uncertainCancels
  let s := if d.uncertain.isSome then bump Ctr.uncertainFinals s else s
  if report then
    reportFault .uncertainCancel b c.plan c.walkDigits ((d.cards[a.entry]?).map CardEntry.identity) s
  else s

/-- An outstanding CANCEL or VERIFY, if any, becomes uncertain. -/
def dropOutstanding (b : Booth) (report : Bool) (s : State) : State :=
  match (s.debit b).outstanding.ask with
  | some a => makeUncertain b a report s
  | none => s

/-- The settle of a call in ENDING is cut short and completion follows at once (R20, R120). -/
def cutShort (b : Booth) (s : State) : State :=
  s |> dropOutstanding b true
    |> modDebit b (fun d => { d with stage := .settled })
    |> complete b false

/-- The call of a booth that becomes LOST or READER ends, and its hook state is set ON (R20). -/
def endForHealth (b : Booth) (cause : EndCause) (s : State) : State :=
  let st := (s.ctx b).state
  let s :=
    if st.preAnswer then endBeforeAnswer b cause s
    else if st.metered then
      s |> modCtx b (fun c => { c with state := .ending, endCause := some cause, swapWindow := none })
        |> modDebit b (fun d => { d with nextTick := none, cardLeft := false })
        |> cutShort b
    else if st = .ending then cutShort b s
    else s
  modCtx b (fun c => { c with hookOff := false }) s

/-! ## Calls ended by a reset (R22, R123) -/

/-- One affected context is ended, FREE or not; counters of the ends as at other ends (log 8). -/
def endForReset (cause : EndCause) (b : Booth) (s : State) : State :=
  let st := (s.ctx b).state
  let s :=
    if st.preAnswer then
      s |> modCtx b (fun c => { c with endCause := some cause })
        |> giveBackReservation
        |> bump (Ctr.preAnswer cause)
    else if st.metered || decide (st = .ending) then
      let recorded := if st = .ending then ((s.ctx b).endCause).getD cause else cause
      s |> modCtx b (fun c => { c with endCause := some recorded })
        |> dropOutstanding b false
        |> writeTicket b
        |> bump (Ctr.ended recorded)
    else s
  s |> modDebit b (fun _ => Debit.reset)
    |> modCtx b (fun c => { c.toFree with hookOff := false })

end Sys2Proof.Machine
end

