-- ==== Sys2Proof/Machine/Debits.lean ====
section
/-!
DEFINITION. The Debit Unit: units due (R75), the outcomes of CANCEL and VERIFY (R104 to R110), counts taken and late
resolution (R111, R112), the customer's signals (R113), exhaustion and SWAP (R114 to R117), answer and ticks
(R71 to R74).
-/

namespace Sys2Proof.Machine

/-- A call in SPEECH enters SWAP; in SWAP the window stays as it was (R115). -/
def enterSwap (b : Booth) (cause : EndCause) (s : State) : State :=
  if (s.ctx b).state = .speech then
    s |> modCtx b (fun c =>
          { c with state := .swap,
                   swapWindow := some (s.now + s.mgmt.limits.swapWindow * Config.second, cause) })
      |> bump Ctr.swapEntries
  else s

/-- Exhaustion (R114). -/
def exhaust (b : Booth) (s : State) : State :=
  s |> postSignal b .creditExhausted
    |> releaseCard b .exhausted
    |> enterSwap b .credit
    |> bump Ctr.exhaustions

/-- The units-due check (R75). -/
def unitsDue (b : Booth) (s : State) : State :=
  let d := s.debit b
  if (s.ctx b).state = .speech ∧ d.p < 0 ∧ d.outstanding = .none then
    match s.currentCard b with
    | some (i, e) =>
      if 0 < e.remaining then postCancel b i e (unitsFor d.p e.unitValue e.remaining.toNat) false s
      else if e.remaining = 0 then exhaust b s
      else s
    | none => s
  else s

/-! ## Signals to the customer (R113) -/

/-- The entry at place i is that of the slot's VALID card. -/
def State.slotHolds (s : State) (b : Booth) (i : Nat) : Bool :=
  match s.slot b, (s.debit b).cards[i]? with
  | .valid r _ _ _, some e => decide (e.identity = (r.series, r.serial))
  | _, _ => false

/-- LOW CREDIT when the remaining units are at or below the warn threshold, above 0 and not yet warned. -/
def lowCreditTest (b : Booth) (i : Nat) (s : State) : State :=
  match (s.debit b).cards[i]? with
  | some e =>
    if 0 < e.remaining ∧ e.remaining ≤ (e.warn : Int) ∧ e.warned = false then
      s |> postSignal b .lowCredit
        |> modDebit b (fun d => { d with cards := d.cards.modify i fun e => { e with warned := true } })
    else s
  | none => s

/-- The signals of a confirmation or adoption. -/
def countSignals (b : Booth) (i : Nat) (s : State) : State :=
  if s.slotHolds b i then
    match (s.debit b).cards[i]? with
    | some e => s |> postSignal b (.showUnits (shownUnits e.face e.lastKnown)) |> lowCreditTest b i
    | none => s
  else s

/-! ## Confirmation (R104) -/

/-- The slot takes a confirmed count when it is VALID with the entry's card. -/
def setSlotCount (b : Booth) (i count : Nat) (s : State) : State :=
  if s.slotHolds b i then
    match s.slot b with
    | .valid r v w _ => setSlot b (.valid r v w count) s
    | _ => s
  else s

/-- The uncertain record is dropped when k of 1 or more units are confirmed, and counted when they are another card's
(R111). Units of the record's own card, on which R111 is silent, drop it uncounted: the model's choice (log 37). -/
def dropRecord (b : Booth) (i k : Nat) (s : State) : State :=
  match (s.debit b).uncertain with
  | some u =>
    if k = 0 then s
    else
      let s := modDebit b (fun d => { d with uncertain := none }) s
      if u.entry = i then s else bump Ctr.uncertainFinals s
  | none => s

/-- k units are confirmed on the entry at place i, whose card now holds `count`. -/
def confirm (b : Booth) (i k count : Nat) (s : State) : State :=
  let v := (((s.debit b).cards[i]?).map CardEntry.unitValue).getD 0
  s |> modDebit b (fun d =>
        { d with
          p := d.p + (k * v : Nat)
          covered := d.covered + k * v
          cards := d.cards.modify i fun e => { e with cancelled := e.cancelled + k, lastKnown := count } })
    |> setSlotCount b i count
    |> bump Ctr.cancelsConfirmed
    |> bumpBy Ctr.unitsConfirmed k
    |> dropRecord b i k

/-- The call goes on by its state after a confirmation (R104). -/
def goOn (b : Booth) (final : Bool) (s : State) : State :=
  match (s.ctx b).state with
  | .speech => unitsDue b s
  | .ending => settleOn b final s
  | _ => s

def clearOutstanding (b : Booth) (s : State) : State := modDebit b (fun d => { d with outstanding := .none }) s

/-- A count fault on the entry at place i (R105). -/
def countFault (b : Booth) (i : Nat) (s : State) : State :=
  let d := s.debit b
  let c := s.ctx b
  let final := (d.outstanding.ask.map Ask.final).getD false
  let s := s
    |> modDebit b (fun d =>
        { d with outstanding := .none,
                 cards := d.cards.modify i fun e => { e with countFault := true } })
    |> bump Ctr.cardCountFaults
    |> reportFault .cardCount b c.plan c.walkDigits ((d.cards[i]?).map CardEntry.identity)
  if c.state.metered then enterEnding b .cardFault s
  else if c.state = .ending then settleOn b final s
  else s

/-- A count in reply to the outstanding request: k in range is confirmed, else it is a count fault (R104, R109). -/
def countReply (b : Booth) (a : Ask) (count : Nat) (s : State) : State :=
  match confirmedUnits count a.before a.n with
  | some k =>
    let s := s |> clearOutstanding b |> confirm b a.entry k count
    goOn b a.final (if k = 0 then s else countSignals b a.entry s)
  | none => countFault b a.entry s

/-! ## Outcomes of CANCEL (R104 to R108) -/

/-- FAIL WRITE ERROR (R106). -/
def writeErrorReply (b : Booth) (a : Ask) (count : Nat) (s : State) : State :=
  match confirmedUnits count a.before a.n with
  | some k =>
    let s := s |> clearOutstanding b |> confirm b a.entry k count
    let s := if s.slotHolds b a.entry then releaseCard b .writeError s else s
    let s := bump Ctr.writeErrors s
    match (s.ctx b).state with
    | .speech => enterSwap b .credit s
    | .ending => settleOn b a.final s
    | _ => s
  | none => countFault b a.entry s

/-- The card-left mark is set (R119). -/
def markCardLeft (b : Booth) (s : State) : State := modDebit b (fun d => { d with cardLeft := true }) s

/-- After an outcome that says the card is not there: SWAP from SPEECH, the card-left mark in ENDING (R107, R109). -/
def cardGone (b : Booth) (final : Bool) (s : State) : State :=
  match (s.ctx b).state with
  | .speech => enterSwap b .cardRemoved s
  | .ending => s |> markCardLeft b |> settleOn b final
  | _ => s

/-- FAIL NO CARD or WRONG CARD to CANCEL (R107). -/
def noCardReply (b : Booth) (a : Ask) (s : State) : State :=
  s |> clearOutstanding b |> bump Ctr.noCardReplies |> cardGone b a.final

/-- MISSED to CANCEL: VERIFY takes its place (R108). -/
def missedCancel (b : Booth) (a : Ask) (s : State) : State :=
  let serial := (((s.debit b).cards[a.entry]?).map CardEntry.serial).getD 0
  s |> modDebit b (fun d => { d with outstanding := .verify a })
    |> postDebit b (.verify serial)
    |> bump Ctr.verifiesPosted

/-- An outcome of VERIFY that leaves the cancel uncertain (R109, R110 case (a)). -/
def uncertainReply (b : Booth) (a : Ask) (s : State) : State := s |> makeUncertain b a true |> cardGone b a.final

/-- The outcome of a CANCEL or VERIFY transaction; `none` is MISSED (R103 to R109). -/
def debitOutcome (b : Booth) (reply : Option BoothReply) (s : State) : State :=
  match (s.debit b).outstanding with
  | .none => bump Ctr.unmatchedOutcomes s
  | .cancel a =>
    match reply with
    | some (.done count) => countReply b a count.toNat s
    | some (.fail .writeError count) => writeErrorReply b a count.toNat s
    | some (.fail .noCard _) => noCardReply b a s
    | some (.fail .wrongCard _) => noCardReply b a s
    | _ => missedCancel b a s
  | .verify a =>
    match reply with
    | some (.count series serial count) =>
      if ((s.debit b).cards[a.entry]?).map CardEntry.identity = some (series, serial) then
        let s :=
          if (confirmedUnits count.toNat a.before a.n).isSome then bump Ctr.verifiesConfirmed s else s
        countReply b a count.toNat s
      else uncertainReply b a s
    | some (.fail .readerFault _) => s
    | some (.fail _ _) => uncertainReply b a s
    | _ => s

/-! ## Counts taken without a request (R111, R112) -/

/-- The count compared with the entry's last known count (R112, the last three rows). -/
def compareCount (b : Booth) (i count : Nat) (s : State) : State :=
  match (s.debit b).cards[i]? with
  | some e =>
    if e.lastKnown < count then
      s |> modDebit b (fun d => { d with cards := d.cards.modify i fun e => { e with lastKnown := count } })
        |> bump Ctr.countsAdopted
        |> countSignals b i
    else if count < e.lastKnown then countFault b i s
    else s
  | none => s

/-- Late resolution of an uncertain cancel (R111). -/
def lateResolution (b : Booth) (u : Uncertain) (count : Nat) (s : State) : State :=
  let s' := modDebit b (fun d => { d with uncertain := none }) s
  if (s.debit b).outstanding = .none then
    match confirmedUnits count u.before u.n with
    | some k =>
      let s' := s' |> bump Ctr.lateResolutions |> confirm b u.entry k count
      if k = 0 then s' else countSignals b u.entry s'
    | none => countFault b u.entry s'
  else s' |> bump Ctr.uncertainFinals |> compareCount b u.entry count

/-- A count taken from a card that comes back or from a status report, on the entry at place i (R112; log 32). An
entry with a CANCEL or VERIFY outstanding on it is left as it is even when the uncertain record names it too, where
R111 and the first row of R112 both apply: the model's choice (log 37). -/
def takeCount (b : Booth) (i count : Nat) (s : State) : State :=
  let d := s.debit b
  let flagged := ((d.cards[i]?).map CardEntry.countFault).getD false
  if d.outstanding.ask.map Ask.entry = some i then s
  else
    match d.uncertain with
    | some u => if u.entry = i ∧ flagged = false then lateResolution b u count s else compareCount b i count s
    | none => compareCount b i count s

/-- The place of an identity in the call's card list. -/
def State.listPlace (s : State) (b : Booth) (identity : BitVec 16 × BitVec 32) : Option Nat :=
  (s.debit b).cards.findIdx? fun e => decide (e.identity = identity)

/-- A count found at status while the slot stayed VALID (R82, R112). -/
def countAtStatus (b : Booth) (identity : BitVec 16 × BitVec 32) (count : Nat) (s : State) : State :=
  if s.cardlessCall b then s
  else
    match s.listPlace b identity with
    | some i =>
      if (s.ctx b).state.metered || decide ((s.ctx b).state = .ending) then takeCount b i count s
      else if (s.ctx b).state = .routed ∧ i = 0 then
        modDebit b (fun d => { d with cards := d.cards.modify 0 fun e => { e with lastKnown := count } }) s
      else s
    | none => s

/-! ## Joining the card list and SWAP (R101, R116) -/

/-- A card list entry copied from the booth's VALID slot. -/
def entryOfSlot (r : CardRecord) (unitValue warn lastKnown : Nat) : CardEntry :=
  { series := r.series, serial := r.serial, face := r.face.toNat, unitValue := unitValue, warn := warn,
    cancelled := 0, lastKnown := lastKnown, warned := false, countFault := false }

/-- The slot's VALID card joins the list as its newest entry, with the LOW CREDIT test (R101, R113). -/
def joinList (b : Booth) (s : State) : State :=
  match s.slot b with
  | .valid r v w l =>
    s |> modDebit b (fun d => { d with cards := d.cards ++ [entryOfSlot r v w l] })
      |> lowCreditTest b (s.debit b).cards.length
  | _ => s

/-- The return from SWAP to SPEECH (R116). -/
def returnToSpeech (b : Booth) (s : State) : State :=
  s |> modCtx b (fun c => { c with state := .speech, swapWindow := none })
    |> bump Ctr.swapReturns
    |> unitsDue b

/-- A card accepted while the call is in SWAP (R116). -/
def swapOffer (b : Booth) (s : State) : State :=
  match s.slot b with
  | .valid r _ _ l =>
    match s.listPlace b (r.series, r.serial) with
    | some i =>
      let s := takeCount b i l s
      if (s.ctx b).state = .swap then returnToSpeech b s else s
    | none =>
      if 4 ≤ (s.debit b).cards.length then
        s |> releaseCard b .cardLimit |> bump Ctr.cardLimitRefusals
      else s |> joinList b |> returnToSpeech b
  | _ => s

/-! ## Answer and ticks (R71 to R74) -/

/-- The Debit Unit starts an answered call (R71). -/
def startDebit (b : Booth) (s : State) : State :=
  let setup := (((s.ctx b).snap).map Snapshot.setupCharged).getD 0
  s |> modDebit b (fun d =>
        { d with p := -(setup : Int), charged := setup, duration := 0, nextTick := some (s.now + Config.tick) })
    |> evaluateBand b
    |> bump Ctr.answersStarted
    |> unitsDue b

/-- Duration and charged total of a tick (R72 steps 1 and 2, R74). -/
def chargeTotal (b : Booth) (s : State) : State :=
  let d := s.debit b
  let charged := min Config.maxQuanta (d.charged + d.t.getD 0)
  let s := modDebit b
    (fun d =>
      { d with duration := min Config.maxQuanta (d.duration + 1), charged := charged,
               chargeSaturated := d.chargeSaturated || decide (charged = Config.maxQuanta) }) s
  if charged = Config.maxQuanta ∧ d.chargeSaturated = false then bump Ctr.chargeSaturatedCalls s else s

/-- The balance of a tick (R72 step 3, R73). -/
def chargeBalance (b : Booth) (s : State) : State :=
  let d := s.debit b
  let c := s.ctx b
  let t := d.t.getD 0
  let clamped := clamps d.p t
  let s := modDebit b
    (fun d =>
      { d with p := lowerBalance d.p t, debtSaturated := d.debtSaturated || clamped,
               debtReported := d.debtReported || clamped }) s
  if clamped ∧ d.debtReported = false then
    s |> bump Ctr.debtSaturatedCalls
      |> reportFault .debtSaturated b c.plan c.walkDigits ((d.cards.getLast?).map CardEntry.identity)
  else s

/-- The max call time check (R18). -/
def timeLimitCheck (b : Booth) (s : State) : State :=
  let limit := s.mgmt.limits.maxCall
  if (s.ctx b).state.metered ∧ limit ≠ 0 ∧ limit * 600 ≤ (s.debit b).duration then enterEnding b .timeLimit s
  else s

/-- One tick of a call in SPEECH or SWAP (R72). -/
def takeTick (b : Booth) (s : State) : State :=
  s |> modDebit b (fun d => { d with nextTick := d.nextTick.map (· + Config.tick) })
    |> bump Ctr.ticks
    |> chargeTotal b
    |> chargeBalance b
    |> unitsDue b
    |> timeLimitCheck b

end Sys2Proof.Machine
end

