-- ==== Sys2Proof/Machine/Walks.lean ====
section
/-!
DEFINITION. The Route Unit's walk step (R31 to R37) over the Tariff Cache (R44 to R48) and the Tariff Tree, and the
Call Engine's events: admission (R3, R4), digits (R5 to R10), the credit check (R68), hook events (R2, R14), ANSWER
and CLEAR (R12, R13), FORCE CLEAR (R19).
-/

namespace Sys2Proof.Machine

/-- The walk result handed to the Call Engine (R6). -/
inductive WalkOutcome where
  | branch (next : Fin 1024)
  | leaf (snap : Snapshot) (common : Bool)
  | empty
  | bar
  | fault
  deriving DecidableEq, Repr

/-- The key of a tree entry. -/
def treeKey (node : Fin 1024) (d : Digit) : Nat := node.val * 10 + d.val

def Route.treeEntry (r : Route) (node : Fin 1024) (d : Digit) : TreeEntry :=
  smGet .empty (treeKey node d) r.tree

def Tariff.classRecord (t : Tariff) (cls : Fin 256) : ClassRecord := smGet .undefined cls.val t.classes

/-- The snapshot of a DEFINED class with a given CARDLESS flag (R36). -/
def ClassRecord.snapshot (r : ClassRecord) (cls : Fin 256) (cardless : Bool) : Snapshot :=
  { cls := cls, setup := r.setup, base := r.base, profile := r.profile, cardless := cardless }

/-- A TREE or CLASS fault of a walk step (R37). -/
def walkFault (b : Booth) (kind : FaultKind) (str : List Digit) (s : State) : State :=
  let s := reportFault kind b (s.ctx b).plan str none s
  if kind = .tree then bump Ctr.treeFaults s else bump Ctr.classFaults s

/-- The step completed from a cache entry (R32, R44). -/
def walkHit (b : Booth) (str : List Digit) (e : CacheEntry) (s : State) : WalkOutcome × State :=
  let s := s |> bump Ctr.cacheHits |> setCache (cacheTouch e s.route.cache)
  let r := s.tariff.classRecord e.cls
  if r.defined then (.leaf (r.snapshot e.cls e.cardless) (decide (e.scope = .common)), bump Ctr.leaves s)
  else (.fault, walkFault b .cls str s)

/-- The step completed from the tree (R33, R34, R35, R45 to R48). -/
def walkMiss (b : Booth) (str : List Digit) (d : Digit) (tag : Fin 64) (s : State) : WalkOutcome × State :=
  let c := s.ctx b
  let s := bump Ctr.cacheMisses s
  match s.route.treeEntry c.node d with
  | .empty => (.empty, bump Ctr.emptyResults s)
  | .bar => (.bar, bump Ctr.barResults s)
  | .branch next => if c.depth + 1 < 8 then (.branch next, s) else (.fault, walkFault b .tree str s)
  | .leaf cls common =>
    let r := s.tariff.classRecord cls
    if r.defined then
      let e : CacheEntry :=
        { digits := str, scope := if common then .common else .tag tag, cls := cls, cardless := r.cardless }
      (.leaf (r.snapshot cls r.cardless) common,
        s |> bump Ctr.leaves |> bump Ctr.cacheFills |> setCache (cacheFill e s.route.cache))
    else (.fault, walkFault b .cls str s)

/-- One walk step for a digit 0–9 in DIALLING (R31). -/
def walkStep (b : Booth) (d : Digit) (s : State) : WalkOutcome × State :=
  let c := s.ctx b
  let str := c.digits ++ [d]
  let tag := (s.route.plans.get c.plan).tag
  let s := bump Ctr.digitsWalked s
  match cacheLookup str tag s.route.cache with
  | some e => walkHit b str e s
  | none => walkMiss b str d tag s

/-! ## The credit check (R7, R68) -/

/-- remaining × V ≥ s + t for the booth's VALID card and the snapshot stored in the context. -/
def State.creditPasses (s : State) (b : Booth) : Bool :=
  match s.slot b, (s.ctx b).snap with
  | .valid r v _ l, some p =>
    decide (((p.setupCharged + s.tariff.charge p : Nat) : Int) ≤ remainingUnits r.face.toNat l * (v : Int))
  | _, _ => false

/-- A passed credit check: the card joins the list, the timers stop and the context enters ROUTED (R7). -/
def enterRouted (b : Booth) (s : State) : State :=
  s |> joinList b
    |> modCtx b (fun c => { c with state := .routed, digitWait := none, cardWait := none })

/-- The credit check in CARD WAIT, when the slot becomes VALID (R7, R9). -/
def creditCheckWaiting (b : Booth) (s : State) : State :=
  if s.creditPasses b then s |> enterRouted b |> releaseHeld b else endBeforeAnswer b .credit s

/-! ## Admission (R3, R4) -/

/-- The first condition of R3 that fails. -/
def State.admissionRefusal (s : State) (b : Booth) : Option RefusalCause :=
  if s.mgmt.service ≠ .inService then some .service
  else if s.trunk.linkUp = false then some .link
  else if (s.boothLine b).health.reachable = false ∨ (s.boothLine b).mark = true then some .booth
  else if (s.route.plans.get (s.entry b).plan).enabled = false then some .plan
  else if Config.ringSlots ≤ s.ring.filled + s.ring.reserved then some .ringFull
  else if s.sigRoom = false then some .linkBusy
  else none

/-- The fields of an admitted context (R3). -/
def admittedCtx (c : Ctx) (plan : Fin 8) (root : Fin 1024) (expiry : Instant) : Ctx :=
  { c with
    state := .dialling, plan := plan, node := root, depth := 0, walk := .walking, cls := none, snap := none,
    digits := [], truncated := false, held := [], digitWait := some expiry, answer := none,
    exchangeCleared := false, endCause := none }

/-- An admission (R3, with the debit record's values of R69 and R100). -/
def admitCall (b : Booth) (s : State) : State :=
  let e := s.entry b
  s |> modCtx b (fun c =>
        admittedCtx c e.plan (s.route.plans.get e.plan).root
          (s.now + s.mgmt.limits.digitWait * Config.second))
    |> modDebit b (fun _ => Debit.reset)
    |> modRing (fun r => { r with reserved := r.reserved + 1 })
    |> queueSig (.seize e.channel)
    |> bump Ctr.admissions

/-- A refusal at admission (R4). -/
def refuseAdmission (b : Booth) (cause : RefusalCause) (s : State) : State :=
  let s := s |> postSignal b cause.signal |> bump (Ctr.refusal cause)
  if cause = .ringFull then notePending .ringFull s else s

/-- A HOOK OFF event (R2). -/
def hookOffEvent (b : Booth) (s : State) : State :=
  let s := modCtx b (fun c => { c with hookOff := true }) s
  if (s.ctx b).state = .free then
    match s.admissionRefusal b with
    | some cause => refuseAdmission b cause s
    | none => admitCall b s
  else s

/-- A HOOK ON event (R14). -/
def hookOnEvent (b : Booth) (s : State) : State :=
  let s := modCtx b (fun c => { c with hookOff := false }) s
  if (s.ctx b).state.preAnswer then endBeforeAnswer b .boothHungUp s
  else enterEnding b .boothHungUp s

/-! ## Digits (R6, R9, R10) -/

/-- A leaf in DIALLING: class and snapshot are stored (R6, R32, R35). -/
def storeLeaf (b : Booth) (snap : Snapshot) (common : Bool) (s : State) : State :=
  modCtx b
    (fun c =>
      { c with depth := c.depth + 1, walk := .leaf snap.cls common, cls := some snap.cls, snap := some snap }) s

/-- The digit joins the digit list. -/
def storeDigit (b : Booth) (d : Digit) (s : State) : State := modCtx b (fun c => { c with digits := c.digits ++ [d] }) s

/-- Entry to CARD WAIT with the leaf digit held (R6, R147). -/
def enterCardWait (b : Booth) (d : Digit) (s : State) : State :=
  s |> storeDigit b d
    |> modCtx b (fun c =>
        { c with state := .cardWait, held := c.held ++ [d], digitWait := none,
                 cardWait := some (s.now + s.mgmt.limits.cardWait * Config.second) })
    |> leaveWaiting b
    |> postSignal b .insertCard

/-- What the Call Engine does with a walk result (R6's table). -/
def takeWalk (b : Booth) (d : Digit) (o : WalkOutcome) (s : State) : State :=
  match o with
  | .branch next =>
    s |> modCtx b (fun c =>
          { c with node := next, depth := c.depth + 1,
                   digitWait := some (s.now + s.mgmt.limits.digitWait * Config.second) })
      |> storeDigit b d
      |> forward b d
  | .leaf snap common =>
    let s := storeLeaf b snap common s
    if snap.cardless then
      s |> modCtx b (fun c => { c with state := .routed, digitWait := none }) |> storeDigit b d |> forward b d
    else if (s.slot b).isValid then
      if s.creditPasses b then s |> enterRouted b |> storeDigit b d |> forward b d
      else endBeforeAnswer b .credit s
    else enterCardWait b d s
  | .empty => endBeforeAnswer b .unobtainable s
  | .bar => endBeforeAnswer b .barred s
  | .fault => endBeforeAnswer b .barred s

/-- A DIGIT event in DIALLING (R6). -/
def digitDialling (b : Booth) (d : Digit) (s : State) : State :=
  if 10 ≤ d.val then endBeforeAnswer b .unobtainable s
  else
    let r := walkStep b d s
    takeWalk b d r.1 r.2

/-- A DIGIT event in CARD WAIT (R9). -/
def digitCardWait (b : Booth) (d : Digit) (s : State) : State :=
  if (s.ctx b).digits.length < Config.digitsMax then
    s |> storeDigit b d |> modCtx b (fun c => { c with held := c.held ++ [d] })
  else bump Ctr.digitsDiscarded s

/-- A DIGIT event in ROUTED, SPEECH or SWAP (R10; log 19). -/
def digitAfterLeaf (b : Booth) (d : Digit) (s : State) : State :=
  let full := decide (Config.digitsMax ≤ (s.ctx b).digits.length)
  let discarded := s.forwardDiscards b
  let s :=
    if full then modCtx b (fun c => { c with truncated := c.truncated || !discarded }) s else storeDigit b d s
  forward b d s

/-- A DIGIT event by the context's state. -/
def digitEvent (b : Booth) (d : Digit) (s : State) : State :=
  match (s.ctx b).state with
  | .dialling => digitDialling b d s
  | .cardWait => digitCardWait b d s
  | .routed => digitAfterLeaf b d s
  | .speech => digitAfterLeaf b d s
  | .swap => digitAfterLeaf b d s
  | .free => bump Ctr.digitsDiscarded s
  | .ending => bump Ctr.digitsDiscarded s

/-! ## The exchange's events -/

/-- ANSWER handed to the Call Engine (R12). -/
def answerEvent (b : Booth) (s : State) : State :=
  match (s.ctx b).state with
  | .routed =>
    s |> modCtx b (fun c =>
          { c with state := .speech,
                   answer := some { clock := s.tariff.clock, hundredths := s.hundredths } })
      |> bump Ctr.answered
      |> startDebit b
  | .dialling => s |> bump Ctr.earlyAnswers |> endBeforeAnswer b .earlyAnswer
  | .cardWait => s |> bump Ctr.earlyAnswers |> endBeforeAnswer b .earlyAnswer
  | .free => oweHangup (s.entry b).channel s
  | _ => s

/-- CLEAR handed to the Call Engine (R13). -/
def clearEvent (b : Booth) (s : State) : State :=
  if (s.ctx b).state.preAnswer then endBeforeAnswer b .exchangeCleared s
  else if (s.ctx b).state.metered then
    s |> modCtx b (fun c => { c with exchangeCleared := true }) |> enterEnding b .exchangeCleared
  else s

/-- FORCE CLEAR on a context that is not FREE (R19). -/
def forceClearEvent (b : Booth) (s : State) : State :=
  if (s.ctx b).state.preAnswer then endBeforeAnswer b .forced s else enterEnding b .forced s

end Sys2Proof.Machine
end

