-- ==== Sys2Proof/Machine/CardUnit.lean ====
section
/-!
DEFINITION. The Card Unit: slot changes and what the call does with them (R15, R116, R119), CARD IN with validation
(R82 to R86), CARD OUT (R88), the outcomes of EJECT and RETAIN (R89), READER FAULT (R91), and the entries to OUT OF
SERVICE (LOST) and (READER) (R132, R134).
-/

namespace Sys2Proof.Machine

/-! ## Slot changes seen by the call -/

/-- The slot became VALID (R9, R15, R116, R117). -/
def slotBecameValid (b : Booth) (s : State) : State :=
  if s.cardlessCall b then s
  else
    match (s.ctx b).state with
    | .cardWait => creditCheckWaiting b s
    | .swap => swapOffer b s
    | .ending =>
      match s.slot b with
      | .valid r _ _ l =>
        match s.listPlace b (r.series, r.serial) with
        | some i => takeCount b i l s
        | none => s
      | _ => s
    | _ => s

/-- A VALID slot became EMPTY; `wasCurrent` says that its card was the call's current card (R15, R115, R119). -/
def slotLeftValid (b : Booth) (wasCurrent : Bool) (s : State) : State :=
  if s.cardlessCall b then s
  else
    match (s.ctx b).state with
    | .routed => endBeforeAnswer b .cardRemoved s
    | .speech => if wasCurrent then enterSwap b .cardRemoved s else s
    | .ending => if wasCurrent then markCardLeft b s else s
    | _ => s

/-- The slot is emptied and the change reported; an unsent card action of a REFUSED card is withdrawn (R88; log 10). -/
def emptySlotReported (b : Booth) (s : State) : State :=
  match s.slot b with
  | .empty => s
  | .valid _ _ _ _ =>
    let wasCurrent := (s.currentCard b).isSome
    s |> setSlot b .empty |> slotLeftValid b wasCurrent
  | .refused _ _ _ => s |> setSlot b .empty |> withdrawCardAction b

/-! ## Validation (R83 to R86) -/

/-- What validation decides (R84, R85). -/
inductive Verdict where
  | accepted (unitValue warn : Nat)
  | refused (reason : CardReason) (action : StopAction)
  deriving DecidableEq, Repr

/-- The expiry (year, month) is earlier than the clock's (R84 check 5). -/
def expiredAt (r : CardRecord) (c : Clock) : Bool :=
  decide (2000 + r.expiryYear.toNat < c.year)
    || (decide (2000 + r.expiryYear.toNat = c.year) && decide (r.expiryMonth.toNat < c.month))

/-- Check 2 of R84: a record no good card holds. -/
def impossibleRecord (r : CardRecord) : Bool :=
  decide (r.face = 0) || decide (r.face < r.cancelled) || decide (r.expiryMonth = 0)
    || decide (12 < r.expiryMonth.toNat)

/-- Checks 1 to 6 of R84: the reason of the first that fails, or the series record of a card that passes them. -/
def State.earlyChecks (s : State) (r : CardRecord) : CardReason ⊕ SeriesRecord :=
  if r.checkGood = false then .inl .check
  else if impossibleRecord r then .inl .check
  else
    match seriesFind s.card.series r.series with
    | none => .inl .unknownSeries
    | some rec =>
      if rec.state = .withdrawn then .inl .withdrawn
      else if expiredAt r s.tariff.clock then .inl .expired
      else if r.cancelled = r.face then .inl .empty
      else .inr rec

/-- The verdict of R84's seven checks. -/
def State.verdict (s : State) (r : CardRecord) : Verdict :=
  match s.earlyChecks r with
  | .inl reason => .refused reason .eject
  | .inr rec =>
    match s.card.stop.find r.series r.serial with
    | some (e, _) => .refused .stopped e.action
    | none => .accepted rec.unitValue rec.warn

/-- The probe of the Stop List at validation counts a match or a miss (R97). -/
def countProbe (r : CardRecord) (s : State) : State :=
  match s.earlyChecks r with
  | .inl _ => s
  | .inr _ =>
    match s.card.stop.find r.series r.serial with
    | some _ => bump Ctr.validationMatches s
    | none => bump Ctr.validationMisses s

def actionFor (a : StopAction) (r : CardRecord) : CardAction :=
  match a with
  | .eject => .eject
  | .retain => .retain r.serial

/-- Acceptance (R85). -/
def acceptCard (b : Booth) (r : CardRecord) (unitValue warn : Nat) (s : State) : State :=
  s |> setSlot b (.valid r unitValue warn r.cancelled.toNat)
    |> postSignal b (.showUnits (shownUnits r.face.toNat r.cancelled.toNat))
    |> slotBecameValid b
    |> bump Ctr.cardsAccepted

/-- Refusal (R86). The slot change reported moves no call: CARD WAIT and SWAP keep waiting (R9, R117). -/
def refuseCard (b : Booth) (r : CardRecord) (reason : CardReason) (action : StopAction) (s : State) : State :=
  let s := s
    |> setSlot b (.refused r reason action)
    |> postSignal b (.cardRefused reason)
    |> postCardAction b (actionFor action r)
    |> bump (Ctr.cardRefusal reason)
  if reason = .stopped then notePending .stopMatch s else s

/-- A card offered while OUT OF SERVICE (R83). -/
def refuseOutOfOrder (b : Booth) (r : CardRecord) (s : State) : State :=
  s |> setSlot b (.refused r .outOfOrder .eject)
    |> postSignal b .outOfOrder
    |> postCardAction b .eject
    |> bump (Ctr.cardRefusal .outOfOrder)

/-- A card to be validated (R83 to R86). -/
def judgeCard (b : Booth) (r : CardRecord) (s : State) : State :=
  if s.mgmt.service = .outOfService then refuseOutOfOrder b r s
  else
    match s.verdict r with
    | .accepted v w => s |> countProbe r |> acceptCard b r v w
    | .refused reason action => s |> countProbe r |> refuseCard b r reason action

/-- The slot's card gives way to a card whose predecessor was not seen to leave (R82). -/
def replaceCard (b : Booth) (r : CardRecord) (s : State) : State :=
  s |> bump Ctr.unpairedCardsIn |> emptySlotReported b |> judgeCard b r

/-- A CARD IN event; `marker` is the STATUS marker (R82). -/
def cardInEvent (b : Booth) (marker : Bool) (r : CardRecord) (s : State) : State :=
  let s := bump Ctr.cardsIn s
  match s.slot b with
  | .empty => judgeCard b r s
  | .valid r' v w l =>
    if marker && decide ((r'.series, r'.serial) = (r.series, r.serial)) then
      if r.cancelled.toNat = l then s
      else s |> setSlot b (.valid r' v w r.cancelled.toNat) |> countAtStatus b (r.series, r.serial) r.cancelled.toNat
    else replaceCard b r s
  | .refused _ _ _ => replaceCard b r s

/-- A CARD OUT event (R88; log 28). -/
def cardOutEvent (b : Booth) (s : State) : State :=
  match s.slot b with
  | .empty => s
  | _ => s |> bump Ctr.cardsOut |> emptySlotReported b

/-! ## READER FAULT and the loss of a booth -/

/-- Entry to OUT OF SERVICE (READER) with the end of the call and the emptied slot (R91, R134, R20). -/
def enterReader (b : Booth) (s : State) : State :=
  s |> modBoothLine b (fun l => { l with health := .reader, probeTimer := none, probeDue := false })
    |> endForHealth b .readerFault
    |> clearPending b
    |> postSignal b .outOfOrder
    |> notePending .boothOut
    |> setSlot b .empty

/-- A READER FAULT event or reply (R91; log 34). -/
def readerFaultEvent (b : Booth) (s : State) : State :=
  let health := (s.boothLine b).health
  let s := reportFault .readerFault b (s.entry b).plan [] (s.slot b).identity s
  match health with
  | .reader => s
  | _ => enterReader b s

/-- Entry to OUT OF SERVICE (LOST) (R132). -/
def enterLost (b : Booth) (s : State) : State :=
  s |> modBoothLine b (fun l =>
        { l with health := .lost, probeTimer := some (s.now + s.mgmt.limits.probe * Config.second),
                 probeDue := false })
    |> reportFault .boothLost b (s.entry b).plan [] (s.slot b).identity
    |> notePending .boothOut
    |> clearPending b
    |> endForHealth b .boothLost
    |> setSlot b .empty

/-! ## The outcomes of EJECT and RETAIN (R89) -/

/-- A REFUSED slot becomes EMPTY and the change is reported, which moves no call. -/
def emptyRefused (b : Booth) (s : State) : State :=
  match s.slot b with
  | .refused _ _ _ => setSlot b .empty s
  | _ => s

def ejectOutcome (b : Booth) (reply : BoothReply) (s : State) : State :=
  match reply with
  | .ack => bump Ctr.ejectsAcknowledged s
  | .fail .noCard _ => emptyRefused b s
  | _ => s

def retainOutcome (b : Booth) (reply : BoothReply) (s : State) : State :=
  match reply with
  | .ack =>
    match s.slot b with
    | .refused _ _ .retain => s |> setSlot b .empty |> bump Ctr.retainsDone
    | _ => s
  | .fail _ _ => bump Ctr.retainsFailed s
  | _ => s

/-! ## Events from the booths (R131) -/

/-- One event handed to its owner; `marker` is the STATUS marker (R2, R82, R91, R131). -/
def boothEvent (b : Booth) (marker : Bool) (e : BoothEvent) (s : State) : State :=
  match e with
  | .hookOff => if marker then modCtx b (fun c => { c with hookOff := true }) s else hookOffEvent b s
  | .hookOn => if marker then modCtx b (fun c => { c with hookOff := false }) s else hookOnEvent b s
  | .digit d => digitEvent b d s
  | .cardIn r => cardInEvent b marker r s
  | .cardOut => cardOutEvent b s
  | .readerFault => readerFaultEvent b s

def boothEvents (b : Booth) (marker : Bool) (evs : List BoothEvent) (s : State) : State :=
  evs.foldl (fun t e => boothEvent b marker e t) s

end Sys2Proof.Machine
end

