-- ==== Sys2Proof/Machine/BoothLines.lean ====
section
/-!
DEFINITION. The Line Controllers: the arbiter and its grants (R137, R138), frames received (R129 to R131), misses and
health (R132, R133).
-/

namespace Sys2Proof.Machine

/-- The three classes of work (R137). -/
inductive WorkClass where
  | debit
  | command
  | poll
  deriving DecidableEq, Repr

/-! ## Candidates (R137) -/

/-- Health that takes class B grants. -/
def Health.takesCommands : Health → Bool
  | .inService | .suspect | .reader | .taken => true
  | _ => false

def BoothLine.hasCommand (l : BoothLine) : Bool := l.statusDue || l.cardAction.isSome || !l.signals.isEmpty

def BoothLine.candidate (l : BoothLine) : WorkClass → Bool
  | .debit => l.debitWork.isSome && l.health.reachable
  | .command => l.hasCommand && l.health.takesCommands
  | .poll => l.health.reachable || (decide (l.health = .lost) && l.probeDue)

/-- A booth of the segment is a candidate of the class. -/
def State.candidate (s : State) (g : Segment) (k : WorkClass) (b : Booth) : Bool :=
  (s.entry b).enabled && decide ((s.entry b).segment = g) && (s.boothLine b).candidate k

def State.anyCandidate (s : State) (g : Segment) (k : WorkClass) : Bool := allBooths.any (s.candidate g k)

/-- Drop addresses in ascending order after the last granted one, wrapping from 31 round to 1 (R138). -/
def dropsAfter (last : Nat) : List Nat := (List.range 31).map fun k => (last + k) % 31 + 1

/-- The first candidate of a class in the order of R138. -/
def State.firstCandidate (s : State) (g : Segment) (k : WorkClass) : Option Booth :=
  (dropsAfter (s.seg g).lastDrop).findSome? fun drop =>
    allBooths.find? fun b => s.candidate g k b && decide ((s.entry b).drop = drop)

/-- The class of a grant that is no follow-on: the debit burst limit, then the class order (R138 steps 2 and 3). -/
def State.grantClass (s : State) (g : Segment) : Option WorkClass :=
  let a := s.anyCandidate g .debit
  let b := s.anyCandidate g .command
  let c := s.anyCandidate g .poll
  if (s.seg g).burst = 4 ∧ (b ∨ c) then (if b then some .command else some .poll)
  else if a then some .debit
  else if b then some .command
  else if c then some .poll
  else none

/-- The class and booth of the next grant (R138). -/
def State.grantChoice (s : State) (g : Segment) : Option (WorkClass × Booth) :=
  let ordinary := (s.grantClass g).bind fun k => (s.firstCandidate g k).map fun b => (k, b)
  match (s.seg g).followOn with
  | some b => if !s.anyCandidate g .debit && s.candidate g .poll b then some (.poll, b) else ordinary
  | none => ordinary

/-! ## Sending (R127, R128, R137) -/

/-- The request a grant sends. -/
def BoothLine.request (l : BoothLine) : WorkClass → Request
  | .debit =>
    match l.debitWork with
    | some (.cancel n serial) => .cancel n serial
    | some (.verify serial) => .verify serial
    | none => .status
  | .command =>
    if l.statusDue then .status
    else
      match l.cardAction, l.signals with
      | some .eject, _ => .eject
      | some (.retain serial), _ => .retain serial
      | none, sig :: _ => .signal sig
      | none, [] => .status
  | .poll => .poll l.expectBit

/-- What a grant takes from the booth's work: a signal in flight leaves the queue, a probe is no longer due. -/
def BoothLine.granted (l : BoothLine) : WorkClass → BoothLine
  | .debit => l
  | .command =>
    if l.statusDue || l.cardAction.isSome then l else { l with signals := l.signals.tail }
  | .poll => { l with probeDue := false }

/-- A request is sent and its window opens. -/
def sendGrant (g : Segment) (k : WorkClass) (b : Booth) (s : State) : State :=
  let l := s.boothLine b
  let e := s.entry b
  let seg := s.seg g
  let request := l.request k
  let code := if request.isCancel then seg.writeCode else seg.replyCode
  s |> modSeg g (fun x =>
        { x with
          nextTag := x.nextTag + 1
          transaction := some
            { booth := b, drop := e.drop, tag := x.nextTag, request := request,
              expiry := s.now + windowLength code,
              probe := decide (k = .poll) && decide (l.health = .lost), orphan := false }
          lastDrop := e.drop
          burst := if k = .debit then min 4 (x.burst + 1) else 0 })
    |> modBoothLine b (fun l => l.granted k)
    |> bump (Ctr.transactions g)

/-- The arbiter's turn (R137, R138). -/
def arbiterTurn (g : Segment) (s : State) : State :=
  if (s.seg g).transaction.isNone && (s.seg g).hold.isNone then
    match s.grantChoice g with
    | some (k, b) => sendGrant g k b s
    | none => s
  else s

/-! ## Misses (R129, R130, R132, R133) -/

/-- The outcome of a miss handed on, by request (R130). -/
def handMiss (t : Transaction) (s : State) : State :=
  match t.request with
  | .cancel _ _ => s |> modBoothLine t.booth (fun l => { l with debitWork := none }) |> debitOutcome t.booth none
  | .verify _ => debitOutcome t.booth none s
  | .signal sig => postTo t.booth (fun l => { l with signals := returnSignal sig l.signals }) s
  | _ => s

/-- The health after a miss (R132). -/
def missHealth (b : Booth) (s : State) : State :=
  let l := s.boothLine b
  let misses := min 3 (l.misses + 1)
  match l.health with
  | .inService => modBoothLine b (fun l => { l with misses := misses, health := .suspect }) s
  | .suspect =>
    let s := modBoothLine b (fun l => { l with misses := misses }) s
    if misses = 3 then enterLost b s else s
  | .reader => modBoothLine b (fun l => if misses = 3 then { l.cleared with misses := 0 } else { l with misses := misses }) s
  | .taken => modBoothLine b (fun l => if misses = 3 then { l.cleared with misses := 0 } else { l with misses := misses }) s
  | _ => s

/-- A missed probe: the booth stays LOST and the probe timer starts again (R133; log 16). -/
def missProbe (b : Booth) (s : State) : State :=
  if (s.boothLine b).health = .lost then
    modBoothLine b (fun l => { l with probeTimer := some (s.now + s.mgmt.limits.probe * Config.second) }) s
  else missHealth b s

/-- The open transaction closes as a miss (R129). -/
def closeMiss (g : Segment) (t : Transaction) (s : State) : State :=
  let s := s |> modSeg g (fun x => { x with transaction := none, followOn := none }) |> bump (Ctr.misses g)
  if t.orphan then s
  else if t.probe then missProbe t.booth s
  else s |> handMiss t |> missHealth t.booth

/-- A garbled or mismatched frame (R129). -/
def garbledFrame (g : Segment) (s : State) : State :=
  let s := bump (Ctr.garbled g) s
  match (s.seg g).transaction with
  | some t => closeMiss g t s
  | none => s

/-! ## Good replies (R129 to R131, R133) -/

/-- A batch is new when its bit is the expected one (R131). -/
def takeBatch (b : Booth) (batch : Bool) (evs : List BoothEvent) (s : State) : State :=
  if batch = (s.boothLine b).expectBit then
    s |> modBoothLine b (fun l => { l with expectBit := !l.expectBit }) |> boothEvents b false evs
  else s

def BoothEvent.isCardIn : BoothEvent → Bool
  | .cardIn _ => true
  | _ => false

/-- The status intake (R131). -/
def statusIntake (b : Booth) (batch : Bool) (evs : List BoothEvent) (s : State) : State :=
  let s := s
    |> modBoothLine b (fun l =>
        if l.firstStatus then { l with expectBit := !batch, firstStatus := false } else l)
    |> boothEvents b true evs
  if evs.any BoothEvent.isCardIn then s else cardOutEvent b s

/-- A probe answered EVENTS returns the booth to service (R133; log 16). -/
def probeReturn (b : Booth) (s : State) : State :=
  if (s.boothLine b).health = .lost then
    let sig := s.orderSignal
    s |> modBoothLine b (fun l =>
          { l with health := .inService, misses := 0, probeTimer := none, probeDue := false, statusDue := true })
      |> postSignal b sig
  else s

/-- The card action of a closed EJECT or RETAIN is cleared; one waiting behind it takes its place (R130, R135). -/
def clearCardAction (b : Booth) (s : State) : State :=
  modBoothLine b (fun l => { l with cardAction := l.cardNext, cardNext := none }) s

/-- The pending work that a good reply has served (R130). -/
def clearServed (t : Transaction) (s : State) : State :=
  match t.request with
  | .status => modBoothLine t.booth (fun l => { l with statusDue := false }) s
  | .cancel _ _ => modBoothLine t.booth (fun l => { l with debitWork := none }) s
  | .verify _ => modBoothLine t.booth (fun l => { l with debitWork := none }) s
  | .eject => clearCardAction t.booth s
  | .retain _ => clearCardAction t.booth s
  | _ => s

/-- The outcome of a good reply handed on, by request (R130). -/
def handGood (t : Transaction) (reply : BoothReply) (s : State) : State :=
  let b := t.booth
  let s := clearServed t s
  match reply with
  | .fail .readerFault _ => readerFaultEvent b s
  | .events _ batch _ evs =>
    match t.request with
    | .poll _ => if t.probe then probeReturn b s else takeBatch b batch evs s
    | _ => statusIntake b batch evs s
  | _ =>
    match t.request with
    | .cancel _ _ => debitOutcome b (some reply) s
    | .verify _ => debitOutcome b (some reply) s
    | .eject => ejectOutcome b reply s
    | .retain _ => retainOutcome b reply s
    | _ => s

/-- The follow-on booth after a good reply: set by a poll, not a probe, whose batch was taken with MORE (R138). -/
def State.followOnAfter (s : State) (t : Transaction) (reply : BoothReply) : Option Booth :=
  match t.request, reply with
  | .poll _, .events more batch _ _ =>
    if more && !t.probe && !t.orphan && decide (batch = (s.boothLine t.booth).expectBit) then some t.booth else none
  | _, _ => none

/-- A good reply closes the transaction and its outcome is handed on (R129, R130). -/
def goodReply (g : Segment) (t : Transaction) (reply : BoothReply) (s : State) : State :=
  let next := s.followOnAfter t reply
  let s := modSeg g (fun x => { x with transaction := none, followOn := next }) s
  if t.orphan then s
  else
    s |> modBoothLine t.booth (fun l =>
          { l with misses := 0, health := if l.health = .suspect then .inService else l.health })
      |> handGood t reply

/-- A parsable frame with a good CRC, classified (R129). -/
def receiveReply (g : Segment) (drop tag : Byte) (reply : BoothReply) (s : State) : State :=
  if reply.parses && decide (tag.toNat ≤ 7) then
    match (s.seg g).transaction with
    | none => bump (Ctr.stale g) s
    | some t =>
      if t.tag.val = tag.toNat ∧ t.drop = drop.toNat then
        if t.request.accepts reply then goodReply g t reply s else garbledFrame g s
      else bump (Ctr.stale g) s
  else garbledFrame g s

/-! ## The rows of the booth lines -/

def execArbiterGrant (g : Segment) (s : State) : Host.Outcome State Fault Refusal := .next (arbiterTurn g s)

def execEvents (g : Segment) (drop tag : Byte) (more batch status : Bool) (evs : List BoothEvent) (s : State) :
    Host.Outcome State Fault Refusal :=
  .next (receiveReply g drop tag (.events more batch status evs) s)

def execDone (g : Segment) (drop tag : Byte) (count : BitVec 16) (s : State) : Host.Outcome State Fault Refusal :=
  .next (receiveReply g drop tag (.done count) s)

def execCount (g : Segment) (drop tag : Byte) (series : BitVec 16) (serial : BitVec 32) (count : BitVec 16)
    (s : State) : Host.Outcome State Fault Refusal :=
  .next (receiveReply g drop tag (.count series serial count) s)

def execAck (g : Segment) (drop tag : Byte) (s : State) : Host.Outcome State Fault Refusal :=
  .next (receiveReply g drop tag .ack s)

def execFail (g : Segment) (drop tag : Byte) (reason : FailReason) (count : BitVec 16) (s : State) :
    Host.Outcome State Fault Refusal :=
  .next (receiveReply g drop tag (.fail reason count) s)

def execStaleBoothFrame (g : Segment) (drop tag : Byte) (reply : BoothReply) (s : State) :
    Host.Outcome State Fault Refusal :=
  .next (receiveReply g drop tag reply s)

def execBoothFrameGarbled (g : Segment) (s : State) : Host.Outcome State Fault Refusal := .next (garbledFrame g s)

/-- The window of the open transaction closes (R129). -/
def windowExpiry (g : Segment) (s : State) : State :=
  match (s.seg g).transaction with
  | some t => s |> reach t.expiry |> closeMiss g t
  | none => s

def execReplyWindowExpiry (g : Segment) (s : State) : Host.Outcome State Fault Refusal := .next (windowExpiry g s)

/-- The hold of an abandoned window ends (R140). -/
def windowHoldExpiry (g : Segment) (s : State) : State :=
  match (s.seg g).hold with
  | some i => s |> reach i |> modSeg g (fun x => { x with hold := none })
  | none => s

def execAbandonedWindowHoldExpiry (g : Segment) (s : State) : Host.Outcome State Fault Refusal :=
  .next (windowHoldExpiry g s)

/-- The probe timer expires: the probe becomes due (R133). -/
def probeExpiry (b : Booth) (s : State) : State :=
  match (s.boothLine b).probeTimer with
  | some i => s |> reach i |> modBoothLine b (fun l => { l with probeTimer := none, probeDue := true })
  | none => s

def execProbeTimerExpiry (b : Booth) (s : State) : Host.Outcome State Fault Refusal := .next (probeExpiry b s)

end Sys2Proof.Machine
end

