-- ==== Sys2Proof/Machine/CallTimers.lean ====
section
/-!
DEFINITION. The timers and the charging events of a call: digit wait, card wait and swap window (R8), ticks (R72),
the time limit (R18), the calendar clock and its minute boundaries (R63).
-/

namespace Sys2Proof.Machine

/-- The digit wait expires: in DIALLING the call ends DIGIT TIMEOUT (R8). -/
def digitWaitExpires (b : Booth) (s : State) : State :=
  match (s.ctx b).digitWait with
  | some i =>
    let s := s |> reach i |> modCtx b (fun c => { c with digitWait := none })
    if (s.ctx b).state = .dialling then endBeforeAnswer b .digitTimeout s else s
  | none => s

def execDigitWaitExpiry (b : Booth) (s : State) : Host.Outcome State Fault Refusal := .next (digitWaitExpires b s)

/-- The card wait expires: in CARD WAIT the call ends CARD WAIT EXPIRED (R8). -/
def cardWaitExpires (b : Booth) (s : State) : State :=
  match (s.ctx b).cardWait with
  | some i =>
    let s := s |> reach i |> modCtx b (fun c => { c with cardWait := none })
    if (s.ctx b).state = .cardWait then endBeforeAnswer b .cardWaitExpired s else s
  | none => s

def execCardWaitExpiry (b : Booth) (s : State) : Host.Outcome State Fault Refusal := .next (cardWaitExpires b s)

/-- The swap window expires: in SWAP the call enters ENDING with the cause-if-expired (R8, R117). -/
def swapWindowExpires (b : Booth) (s : State) : State :=
  match (s.ctx b).swapWindow with
  | some (i, cause) =>
    let s := s |> reach i |> modCtx b (fun c => { c with swapWindow := none })
    if (s.ctx b).state = .swap then enterEnding b cause s else s
  | none => s

def execSwapWindowExpiry (b : Booth) (s : State) : Host.Outcome State Fault Refusal := .next (swapWindowExpires b s)

/-- The next tick of a running tick schedule (R72). -/
def tickEvent (b : Booth) (s : State) : State :=
  match (s.debit b).nextTick with
  | some i => if (s.ctx b).state.metered then s |> reach i |> takeTick b else s
  | none => s

def execTick (b : Booth) (s : State) : Host.Outcome State Fault Refusal := .next (tickEvent b s)

/-- The max call time check as its own event (R18; log 11). -/
def execTimeLimit (b : Booth) (s : State) : Host.Outcome State Fault Refusal := .next (timeLimitCheck b s)

/-- The clock advances by one second; an advance that rolls the second to 0 starts the band evaluations
(R62, R63, R66). -/
def clockAdvance (s : State) : State :=
  if s.tariff.clock.valid then
    let at' := s.tariff.secondInstant + Config.second
    let rolls := s.tariff.clock.second = 59
    let s := reach at' s
    let s := { s with tariff := { s.tariff with clock := s.tariff.clock.advance, secondInstant := at' } }
    if rolls then evaluateAll s else s
  else s

def execClockSecondAdvance (s : State) : Host.Outcome State Fault Refusal := .next (clockAdvance s)

/-- A minute boundary is the advance that rolls the second to 0 (R63; log 12). -/
def minuteTurn (s : State) : State := if s.tariff.clock.second = 59 then clockAdvance s else s

def execMinuteBoundary (s : State) : Host.Outcome State Fault Refusal := .next (minuteTurn s)

end Sys2Proof.Machine
end

