-- ==== Sys2Proof/Machine/TrunkPort.lean ====
section
/-!
DEFINITION. The Trunk Port: frames received (R141, R143 to R145), the keep-alive (R142), link loss (R152, R21), the
transmitter with the NOTICE it asks for (R150, R151, R182), and POWER_ON.
-/

namespace Sys2Proof.Machine

/-- A valid frame: the link is UP, the silence timer restarts and the frame is counted (R141, R143). -/
def validFrame (s : State) : State :=
  s |> modTrunk (fun t => { t with linkUp := true, silence := some (s.now + Config.silence) })
    |> bump Ctr.validFrames

def discardFrame (reason : TrunkDiscard) (s : State) : State := bump (Ctr.discardedFrames reason) s

def execSync (s : State) : Host.Outcome State Fault Refusal := .next (validFrame s)

/-- A channel byte 0–63 (R143). -/
def channelOf (ch : Byte) : Option Channel := finOf 64 ch.toNat

/-- A valid ANSWER looked up in the Channel Map (R144). -/
def answerFrame (ch : Channel) (s : State) : State :=
  let s := validFrame s
  match s.channelMap ch with
  | some b => s |> bump Ctr.answersReceived |> answerEvent b
  | none => s |> bump Ctr.unmappedAnswers |> oweHangup ch

/-- A valid CLEAR looked up in the Channel Map (R144). -/
def clearFrame (ch : Channel) (s : State) : State :=
  let s := validFrame s
  match s.channelMap ch with
  | some b => s |> bump Ctr.clearsReceived |> clearEvent b
  | none => bump Ctr.unmappedClears s

def execAnswer (ch : Byte) (s : State) : Host.Outcome State Fault Refusal :=
  match channelOf ch with
  | some ch => .next (answerFrame ch s)
  | none => .next (discardFrame .badChannel s)

def execClear (ch : Byte) (s : State) : Host.Outcome State Fault Refusal :=
  match channelOf ch with
  | some ch => .next (clearFrame ch s)
  | none => .next (discardFrame .badChannel s)

/-- A valid COMMAND offered to the command queue (R145). -/
def commandFrame (c : Cmd) (s : State) : State :=
  let s := validFrame s
  if s.mgmt.cmdQueue.length < Config.cmdQueueMax then
    s |> modMgmt (fun m => { m with cmdQueue := m.cmdQueue ++ [c] }) |> bump Ctr.commandsReceived
  else bump Ctr.commandsDiscarded s

/-- A COMMAND payload is 3 to 23 bytes, so the arguments are at most 20 (R186). -/
def execCommand (o t code : Byte) (args : List Byte) (s : State) : Host.Outcome State Fault Refusal :=
  if args.length ≤ 20 then .next (commandFrame ⟨o, t, code, args⟩ s) else .next (discardFrame .wrongLength s)

def execTrunkFrameDiscarded (reason : TrunkDiscard) (s : State) : Host.Outcome State Fault Refusal :=
  .next (discardFrame reason s)

/-! ## Link loss -/

/-- What the Trunk Port discards at each entry to DOWN (R152). -/
def dropLink (s : State) : State :=
  let owed := s.trunk.hangupOwed.toList.count true
  s |> bumpBy Ctr.signallingDiscarded s.trunk.sigQueue.length
    |> bumpBy Ctr.hangupsDiscarded owed
    |> bumpBy Ctr.repliesDiscarded s.trunk.replyQueue.length
    |> bump Ctr.linkDowns
    |> modTrunk (fun t =>
        { t with linkUp := false, silence := none, sigQueue := [], hangupOwed := Vector.replicate 64 false,
                 replyQueue := [] })
    |> offerSlots

/-- Every unanswered call ends with cause LINK (R21). -/
def endUnanswered (s : State) : State :=
  allBooths.foldl (fun t b => if (t.ctx b).state.preAnswer then endBeforeAnswer b .link t else t) s

/-- The silence timer expires: the link goes DOWN (R141, R152; log 7). -/
def silenceExpiry (s : State) : State :=
  match s.trunk.silence with
  | some i => s |> reach i |> dropLink |> endUnanswered
  | none => s

def execSilenceTimerExpiry (s : State) : Host.Outcome State Fault Refusal := .next (silenceExpiry s)

/-- The SYNC timer expires; its period is not moved (R142). -/
def syncExpiry (s : State) : State :=
  s |> reach s.trunk.syncNext
    |> modTrunk (fun t => { t with syncNext := t.syncNext + Config.syncPeriod, syncDue := true })

def execSyncTimerExpiry (s : State) : Host.Outcome State Fault Refusal := .next (syncExpiry s)

/-! ## The transmitter -/

/-- The causes a NOTICE carries: pending and unmasked (R182). -/
def Notices.unmasked (n : Notices) : BitVec 5 := n.waiting &&& ~~~n.mask

/-- A NOTICE is due (R182). -/
def Notices.ready (n : Notices) : Bool := n.due && n.hold.isNone

/-- A frame begins transmission. -/
def transmit (f : OutFrame) (s : State) : State := modTrunk (fun t => { t with tx := some f }) s

/-- The lowest channel of the hangup-owed set. -/
def Trunk.lowestOwed (t : Trunk) : Option Channel := (List.finRange 64).find? fun ch => t.hangupOwed.get ch

def sendSync (s : State) : State :=
  s |> modTrunk (fun t => { t with syncDue := false }) |> transmit .sync |> bump Ctr.sentSync

def sendHangup (ch : Channel) (s : State) : State :=
  s |> modTrunk (fun t => { t with hangupOwed := t.hangupOwed.set ch.val false ch.isLt })
    |> transmit (.hangup ch)
    |> bump Ctr.sentHangup

/-- The oldest signalling frame leaves its slot, which is offered at once (R146, R147). -/
def sendSig (f : SigFrame) (s : State) : State :=
  s |> modTrunk (fun t => { t with sigQueue := t.sigQueue.tail })
    |> transmit (.sig f)
    |> bump (if f.isSeize then Ctr.sentSeize else Ctr.sentDigit)
    |> offerSlots

def sendReply (r : Reply) (s : State) : State :=
  s |> modTrunk (fun t => { t with replyQueue := t.replyQueue.tail }) |> transmit (.reply r) |> bump Ctr.sentReply

/-- The NOTICE asked for is built, or the flag alone is cleared when no unmasked cause is pending (R182). -/
def sendNotice (s : State) : State :=
  let n := s.mgmt.notices
  if n.unmasked = 0 then modNotices (fun n => { n with due := false }) s
  else
    s |> modNotices (fun n =>
          { n with due := false,
                   hold := if n.throttle = 0 then none else some (s.now + n.throttle * Config.second) })
      |> transmit (.notice n.unmasked s.tariff.clock)
      |> bump Ctr.sentNotice

/-- The transmitter, idle, chooses the next frame in the order of R150. -/
def chooseFrame (s : State) : State :=
  if s.trunk.syncDue then sendSync s
  else if s.trunk.linkUp then
    match s.trunk.lowestOwed with
    | some ch => sendHangup ch s
    | none =>
      match s.trunk.sigQueue with
      | f :: _ => sendSig f s
      | [] =>
        match s.trunk.replyQueue with
        | r :: _ => sendReply r s
        | [] => if s.mgmt.notices.ready then sendNotice s else s
  else s

/-- The idle transmitter finds a frame to send (R150). -/
def transmitStart (s : State) : State := if s.trunk.tx.isNone then chooseFrame s else s

def execFrameTransmitStart (s : State) : Host.Outcome State Fault Refusal := .next (transmitStart s)

/-- A frame completes and the next is chosen (R150). -/
def transmitComplete (s : State) : State :=
  if s.trunk.tx.isSome then s |> modTrunk (fun t => { t with tx := none }) |> chooseFrame else s

def execFrameTransmitComplete (s : State) : Host.Outcome State Fault Refusal := .next (transmitComplete s)

/-- The notice hold timer expires (R182). -/
def noticeHoldExpiry (s : State) : State :=
  match s.mgmt.notices.hold with
  | some i => s |> reach i |> modNotices (fun n => { n with hold := none })
  | none => s

def execHoldTimerExpiry (s : State) : Host.Outcome State Fault Refusal := .next (noticeHoldExpiry s)

/-! ## Power -/

/-- Supply applied: every block takes its power-on values (R22); the model's own queue stays (log 31). -/
def execPowerOn (s : State) : Host.Outcome State Fault Refusal := .next { State.reset with pending := s.pending }

end Sys2Proof.Machine
end

