-- ==== Sys2Proof/Machine/Management.lean ====
section
/-!
DEFINITION. The Management Unit's intake (R165, R166): a command taken from the oldest end of the command queue is
checked, carried out by its owner and answered with one REPLY.
-/

namespace Sys2Proof.Machine

/-- What carrying out a command gives: the state after it, the outcome, its detail and the data of a DONE. -/
structure Carried where
  state : State
  outcome : CmdOutcome
  detail : Byte
  data : ReplyData

def carriedOut (data : ReplyData) (s : State) : Carried :=
  { state := s, outcome := .done, detail := 0#8, data := data }

def refusedWith (o : CmdOutcome) (s : State) : Carried := { state := s, outcome := o, detail := 0#8, data := .none }

/-- A refusal at check 1 or 3 of R166. -/
def malformed (s : State) : Carried := refusedWith .range (bump Ctr.malformedCommands s)

/-- The originator is 0–15 and in the permitted set of the group (R166 check 2, R167). -/
def State.permits (s : State) (g : Group) (originator : Byte) : Bool :=
  decide (originator.toNat ≤ 15) && (s.mgmt.access.get g.index).getLsbD originator.toNat

/-- A REPLY offered to the Trunk Port: queued while UP, discarded and counted while DOWN (R151, R152). -/
def offerReply (r : Reply) (s : State) : State :=
  if s.trunk.linkUp then modTrunk (fun t => { t with replyQueue := t.replyQueue ++ [r] }) s
  else bump Ctr.repliesDiscarded s

/-- The counters of the outcome, then the REPLY (R166, R176; log 23). -/
def answerCommand (c : Cmd) (r : Carried) : State :=
  let s := if r.outcome = .done then bump Ctr.commandsDone r.state else bump (Ctr.cmdRefusal r.outcome) r.state
  offerReply
    { originator := c.originator, tag := c.tag, code := c.code, outcome := r.outcome, detail := r.detail,
      data := r.data } s

/-- The take of the command at the oldest end of the queue (R165). The event does not occur when another command,
or none, stands there (log 5). -/
def takeFront (c : Cmd) (carry : State → Carried) (s : State) : State :=
  if s.mgmt.cmdQueue.head? = some c then
    let s := modMgmt (fun m => { m with cmdQueue := m.cmdQueue.tail }) s
    if Config.replyQueueMax ≤ s.trunk.replyQueue.length then bump Ctr.discardedForReply s
    else answerCommand c (carry s)
  else s

/-- Checks 2 and 3 of R166, then the owner. -/
def checked (g : Group) (originator : Byte) (lengthGood : Bool) (owner : State → Carried) (s : State) : Carried :=
  if s.permits g originator = false then refusedWith .access (bump Ctr.accessRefusals s)
  else if lengthGood = false then malformed s
  else owner s

/-- A command whose code stands in the command table. -/
def takeCommand (g : Group) (c : Cmd) (lengthGood : Bool) (owner : State → Carried) (s : State) : State :=
  takeFront c (checked g c.originator lengthGood owner) s

/-- A command whose code does not (R166 check 1). -/
def takeUnknown (c : Cmd) (s : State) : State := takeFront c malformed s

/-- An owner's effect when the arguments are in range; RANGE otherwise. -/
def inRange {α : Type} (x : Option α) (f : α → State → Carried) (s : State) : Carried :=
  match x with
  | some a => f a s
  | none => refusedWith .range s

end Sys2Proof.Machine
end

