-- ==== Sys2Proof/Machine/TariffCommands.lean ====
section
/-!
DEFINITION. The commands of the TARIFF group and the reads of its tables: TREE WRITE, PLAN WRITE, CLASS WRITE,
PROFILE WRITE, BAND WRITE, HOLIDAY WRITE, CACHE FENCE, TREE READ, PLAN READ, CLASS READ.
-/

namespace Sys2Proof.Machine

/-! ## TREE WRITE and TREE READ (R26, R27) -/

/-- The entry a TREE WRITE names, when its kind and the contents for that kind are in range (R26). -/
def treeEntryOf (kind x1 x0 c1 c0 common : Byte) : Option TreeEntry :=
  if kind = 0#8 then some .empty
  else if kind = 1#8 then (finOf 1024 (num2 x1 x0)).map .branch
  else if kind = 2#8 then
    match finOf 256 (num2 c1 c0), flagOf common with
    | some cls, some common => some (.leaf cls common)
    | _, _ => none
  else if kind = 3#8 then some .bar
  else none

/-- Node, digit and entry of a TREE WRITE in range. -/
def treeWriteArgs (args : List Byte) : Option (Fin 1024 × Fin 10 × TreeEntry) :=
  match args with
  | [n1, n0, d, kind, x1, x0, c1, c0, common] =>
    match finOf 1024 (num2 n1 n0), finOf 10 d.toNat, treeEntryOf kind x1 x0 c1 c0 common with
    | some node, some digit, some e => some (node, digit, e)
    | _, _, _ => none
  | _ => none

def setTreeEntry (node : Fin 1024) (digit : Fin 10) (e : TreeEntry) (s : State) : State :=
  { s with route := { s.route with tree := smPut .empty (node.val * 10 + digit.val) e s.route.tree } }

def treeWriteOwner (args : List Byte) : State → Carried :=
  inRange (treeWriteArgs args) fun (node, digit, e) s =>
    carriedOut .none (s |> setTreeEntry node digit e |> bump Ctr.treeWrites)

def execTreeWrite (o t : Byte) (args : List Byte) (s : State) : Host.Outcome State Fault Refusal :=
  .next (takeCommand .tariff ⟨o, t, 0x10#8, args⟩ (args.length == 9) (treeWriteOwner args) s)

/-- A node's ten entries, digit 0 first (R27). -/
def State.nodeEntries (s : State) (node : Fin 1024) : List TreeEntry :=
  (List.range 10).map fun d => smGet .empty (node.val * 10 + d) s.route.tree

def nodeArg (args : List Byte) : Option (Fin 1024) :=
  match args with
  | [n1, n0] => finOf 1024 (num2 n1 n0)
  | _ => none

def treeReadOwner (args : List Byte) : State → Carried :=
  inRange (nodeArg args) fun node s => carriedOut (.tree (s.nodeEntries node)) s

def execTreeRead (o t : Byte) (args : List Byte) (s : State) : Host.Outcome State Fault Refusal :=
  .next (takeCommand .read ⟨o, t, 0x70#8, args⟩ (args.length == 2) (treeReadOwner args) s)

/-! ## PLAN WRITE and PLAN READ (R28, R29) -/

def planWriteArgs (args : List Byte) : Option (Fin 8 × Plan) :=
  match args with
  | [p, r1, r0, tag, st] =>
    match finOf 8 p.toNat, finOf 1024 (num2 r1 r0), finOf 64 tag.toNat, flagOf st with
    | some p, some root, some tag, some enabled => some (p, { root := root, tag := tag, enabled := enabled })
    | _, _, _, _ => none
  | _ => none

def setPlan (p : Fin 8) (x : Plan) (s : State) : State :=
  { s with route := { s.route with plans := s.route.plans.set p.val x p.isLt } }

def planWriteOwner (args : List Byte) : State → Carried :=
  inRange (planWriteArgs args) fun (p, x) s => carriedOut .none (s |> setPlan p x |> bump Ctr.planWrites)

def execPlanWrite (o t : Byte) (args : List Byte) (s : State) : Host.Outcome State Fault Refusal :=
  .next (takeCommand .tariff ⟨o, t, 0x11#8, args⟩ (args.length == 5) (planWriteOwner args) s)

/-- The one byte of a command that names a number below a bound. -/
def byteArg (n : Nat) (args : List Byte) : Option (Fin n) :=
  match args with
  | [x] => finOf n x.toNat
  | _ => none

def planReadOwner (args : List Byte) : State → Carried :=
  inRange (byteArg 8 args) fun p s => carriedOut (.plan (s.route.plans.get p)) s

def execPlanRead (o t : Byte) (args : List Byte) (s : State) : Host.Outcome State Fault Refusal :=
  .next (takeCommand .read ⟨o, t, 0x71#8, args⟩ (args.length == 1) (planReadOwner args) s)

/-! ## CLASS WRITE and CLASS READ (R56, R57) -/

def classWriteArgs (args : List Byte) : Option (Fin 256 × ClassRecord) :=
  match args with
  | [c1, c0, st, s3, s2, s1, s0, b3, b2, b1, b0, p, f] =>
    match finOf 256 (num2 c1 c0), flagOf st, finOf 4 p.toNat, flagOf f with
    | some cls, some defined, some profile, some cardless =>
      if num4 s3 s2 s1 s0 ≤ 4000000 ∧ num4 b3 b2 b1 b0 ≤ 65535 then
        some (cls, { defined := defined, setup := num4 s3 s2 s1 s0, base := num4 b3 b2 b1 b0, profile := profile,
                     cardless := cardless })
      else none
    | _, _, _, _ => none
  | _ => none

def setClass (cls : Fin 256) (r : ClassRecord) (s : State) : State :=
  { s with tariff := { s.tariff with classes := smPut .undefined cls.val r s.tariff.classes } }

def classWriteOwner (args : List Byte) : State → Carried :=
  inRange (classWriteArgs args) fun (cls, r) s => carriedOut .none (s |> setClass cls r |> bump Ctr.classWrites)

def execClassWrite (o t : Byte) (args : List Byte) (s : State) : Host.Outcome State Fault Refusal :=
  .next (takeCommand .tariff ⟨o, t, 0x12#8, args⟩ (args.length == 13) (classWriteOwner args) s)

def classArg (args : List Byte) : Option (Fin 256) :=
  match args with
  | [c1, c0] => finOf 256 (num2 c1 c0)
  | _ => none

def classReadOwner (args : List Byte) : State → Carried :=
  inRange (classArg args) fun cls s => carriedOut (.cls (s.tariff.classRecord cls)) s

def execClassRead (o t : Byte) (args : List Byte) (s : State) : Host.Outcome State Fault Refusal :=
  .next (takeCommand .read ⟨o, t, 0x72#8, args⟩ (args.length == 2) (classReadOwner args) s)

/-! ## PROFILE WRITE (R58) -/

def word16 (b1 b0 : Byte) : BitVec 16 := BitVec.ofNat 16 (num2 b1 b0)

def profileWriteArgs (args : List Byte) : Option (Fin 4 × Vector (BitVec 16) 6) :=
  match args with
  | [p, a1, a0, b1, b0, c1, c0, d1, d0, e1, e0, f1, f0] =>
    (finOf 4 p.toNat).map fun p =>
      (p, #v[word16 a1 a0, word16 b1 b0, word16 c1 c0, word16 d1 d0, word16 e1 e0, word16 f1 f0])
  | _ => none

def setProfile (p : Fin 4) (m : Vector (BitVec 16) 6) (s : State) : State :=
  { s with tariff := { s.tariff with profiles := s.tariff.profiles.set p.val m p.isLt } }

def profileWriteOwner (args : List Byte) : State → Carried :=
  inRange (profileWriteArgs args) fun (p, m) s => carriedOut .none (s |> setProfile p m |> bump Ctr.profileWrites)

def execProfileWrite (o t : Byte) (args : List Byte) (s : State) : Host.Outcome State Fault Refusal :=
  .next (takeCommand .tariff ⟨o, t, 0x13#8, args⟩ (args.length == 13) (profileWriteOwner args) s)

/-! ## BAND WRITE (R60) -/

/-- The minutes stand in ascending order, no two equal. -/
def ascending : List Boundary → Bool
  | x :: y :: rest => decide (x.minute < y.minute) && ascending (y :: rest)
  | _ => true

/-- Boundaries whose minutes and bands are in range. -/
def boundariesOf : List (Nat × Nat) → Option (List Boundary)
  | [] => some []
  | (m, b) :: rest =>
    match finOf 6 b, boundariesOf rest with
    | some band, some l => if m ≤ 1439 then some ({ minute := m, band := band } :: l) else none
    | _, _ => none

def bandWriteArgs (args : List Byte) : Option (Fin 4 × List Boundary) :=
  match args with
  | d :: n :: rest =>
    match finOf 4 d.toNat, boundariesOf (readBoundaries rest) with
    | some day, some l => if n.toNat ≤ 6 ∧ ascending l then some (day, l) else none
    | _, _ => none
  | _ => none

def setBand (day : Fin 4) (l : List Boundary) (s : State) : State :=
  { s with tariff := { s.tariff with bands := s.tariff.bands.set day.val l day.isLt } }

def bandWriteOwner (args : List Byte) : State → Carried :=
  inRange (bandWriteArgs args) fun (day, l) s => carriedOut .none (s |> setBand day l |> bump Ctr.bandWrites)

def execBandWrite (o t : Byte) (args : List Byte) (s : State) : Host.Outcome State Fault Refusal :=
  .next (takeCommand .tariff ⟨o, t, 0x14#8, args⟩ (bandArgsGood args) (bandWriteOwner args) s)

/-! ## HOLIDAY WRITE (R61) -/

def holidayWriteArgs (args : List Byte) : Option (Fin 32 × Option Date) :=
  match args with
  | [k, present, y1, y0, m, d] =>
    match finOf 32 k.toNat, flagOf present with
    | some k, some true =>
      if dateExists (num2 y1 y0) m.toNat d.toNat then
        some (k, some { year := num2 y1 y0, month := m.toNat, day := d.toNat })
      else none
    | some k, some false => some (k, none)
    | _, _ => none
  | _ => none

def setHoliday (k : Fin 32) (d : Option Date) (s : State) : State :=
  { s with tariff := { s.tariff with holidays := s.tariff.holidays.set k.val d k.isLt } }

def holidayWriteOwner (args : List Byte) : State → Carried :=
  inRange (holidayWriteArgs args) fun (k, d) s => carriedOut .none (s |> setHoliday k d |> bump Ctr.holidayWrites)

def execHolidayWrite (o t : Byte) (args : List Byte) (s : State) : Host.Outcome State Fault Refusal :=
  .next (takeCommand .tariff ⟨o, t, 0x15#8, args⟩ (args.length == 6) (holidayWriteOwner args) s)

/-! ## CACHE FENCE (R49, R50) -/

/-- Digits 0–9, all of them (R49). -/
def prefixOf : List Byte → Option (List Digit)
  | [] => some []
  | b :: rest =>
    match prefixOf rest with
    | some l => if h : b.toNat < 10 then some (⟨b.toNat, by omega⟩ :: l) else none
    | none => none

def cacheFenceArgs (args : List Byte) : Option (Option (Fin 64) × List Digit) :=
  match args with
  | present :: tag :: n :: digits =>
    match flagOf present, prefixOf (digits.take n.toNat) with
    | some true, some pfx =>
      if n.toNat ≤ 8 then (finOf 64 tag.toNat).map fun t => (some t, pfx) else none
    | some false, some pfx => if n.toNat ≤ 8 then some (none, pfx) else none
    | _, _ => none
  | _ => none

/-- The number of entries a fence invalidates. -/
def State.fenced (s : State) (tag : Option (Fin 64)) (pfx : List Digit) : Nat :=
  s.route.cache.countP (fenceSelects tag pfx)

def cacheFenceOwner (args : List Byte) : State → Carried :=
  inRange (cacheFenceArgs args) fun (tag, pfx) s =>
    carriedOut (.fenced (s.fenced tag pfx))
      (s |> setCache (s.route.cache.filter fun e => !fenceSelects tag pfx e) |> bump Ctr.cacheFences)

def execCacheFence (o t : Byte) (args : List Byte) (s : State) : Host.Outcome State Fault Refusal :=
  .next (takeCommand .tariff ⟨o, t, 0x16#8, args⟩ (args.length == 11) (cacheFenceOwner args) s)

end Sys2Proof.Machine
end

