-- ==== Sys2Proof/Machine/CardCommands.lean ====
section
/-!
DEFINITION. The commands of the CARDS group and its reads: SERIES WRITE, STOP ADD, STOP REMOVE, SERIES READ, STOP
PROBE, STOP STATUS.
-/

namespace Sys2Proof.Machine

/-! ## SERIES WRITE and SERIES READ (R93) -/

def seriesStateOf (b : Byte) : Option SeriesState :=
  if b = 0#8 then some .unused else if b = 1#8 then some .active else if b = 2#8 then some .withdrawn else none

def seriesWriteArgs (args : List Byte) : Option (Fin 32 × SeriesRecord) :=
  match args with
  | [k, c1, c0, st, v3, v2, v1, v0, w] =>
    match finOf 32 k.toNat, seriesStateOf st with
    | some k, some st =>
      if 100 ≤ num4 v3 v2 v1 v0 ∧ num4 v3 v2 v1 v0 ≤ 4000000 ∧ w.toNat ≤ 15 then
        some (k, { code := word16 c1 c0, state := st, unitValue := num4 v3 v2 v1 v0, warn := w.toNat })
      else none
    | _, _ => none
  | _ => none

/-- Another record holds the code in state ACTIVE or WITHDRAWN (R93). -/
def State.seriesConflict (s : State) (k : Fin 32) (r : SeriesRecord) : Bool :=
  !decide (r.state = .unused)
    && (List.finRange 32).any fun j =>
        !decide (j = k) && decide ((s.card.series.get j).code = r.code)
          && !decide ((s.card.series.get j).state = .unused)

def setSeries (k : Fin 32) (r : SeriesRecord) (s : State) : State :=
  { s with card := { s.card with series := s.card.series.set k.val r k.isLt } }

def seriesWriteOwner (args : List Byte) : State → Carried :=
  inRange (seriesWriteArgs args) fun (k, r) s =>
    if s.seriesConflict k r then refusedWith .conflict s
    else carriedOut .none (s |> setSeries k r |> bump Ctr.seriesWrites)

def execSeriesWrite (o t : Byte) (args : List Byte) (s : State) : Host.Outcome State Fault Refusal :=
  .next (takeCommand .cards ⟨o, t, 0x20#8, args⟩ (args.length == 9) (seriesWriteOwner args) s)

def seriesReadOwner (args : List Byte) : State → Carried :=
  inRange (byteArg 32 args) fun k s => carriedOut (.series (s.card.series.get k)) s

def execSeriesRead (o t : Byte) (args : List Byte) (s : State) : Host.Outcome State Fault Refusal :=
  .next (takeCommand .read ⟨o, t, 0x73#8, args⟩ (args.length == 1) (seriesReadOwner args) s)

/-! ## The Stop List (R95 to R97) -/

def setStop (l : StopList) (s : State) : State := { s with card := { s.card with stop := l } }

def stopActionOf (b : Byte) : Option StopAction :=
  if b = 0#8 then some .eject else if b = 1#8 then some .retain else none

/-- A card identity in six bytes. -/
def identityArg (args : List Byte) : Option (BitVec 16 × BitVec 32) :=
  match args with
  | [s1, s0, n3, n2, n1, n0] => some (word16 s1 s0, BitVec.ofNat 32 (num4 n3 n2 n1 n0))
  | _ => none

def stopAddArgs (args : List Byte) : Option ((BitVec 16 × BitVec 32) × StopAction) :=
  match args with
  | [s1, s0, n3, n2, n1, n0, a] =>
    (stopActionOf a).map fun a => ((word16 s1 s0, BitVec.ofNat 32 (num4 n3 n2 n1 n0)), a)
  | _ => none

/-- The entry of an identity takes a new action and keeps its place (R95). -/
def StopList.update (l : StopList) (series : BitVec 16) (serial : BitVec 32) (a : StopAction) : StopList :=
  let bucket := bucketOf series serial
  l.setChain bucket
    ((l.chain bucket).map fun e => if e.isFor series serial then { e with action := a } else e)

/-- A free entry is taken and appended at the newest end (R95). -/
def StopList.append (l : StopList) (series : BitVec 16) (serial : BitVec 32) (a : StopAction) : StopList :=
  let bucket := bucketOf series serial
  { l.setChain bucket (l.chain bucket ++ [{ series := series, serial := serial, action := a }]) with
    free := l.free - 1 }

/-- The entry of an identity is taken out of its chain and becomes free (R96). -/
def StopList.remove (l : StopList) (series : BitVec 16) (serial : BitVec 32) : StopList :=
  let bucket := bucketOf series serial
  { l.setChain bucket ((l.chain bucket).filter fun e => !e.isFor series serial) with free := l.free + 1 }

def stopAddOwner (args : List Byte) : State → Carried :=
  inRange (stopAddArgs args) fun ((series, serial), a) s =>
    let l := s.card.stop
    let bucket := bucketOf series serial
    if (l.find series serial).isSome then
      carriedOut (.stopAdd false bucket) (s |> setStop (l.update series serial a) |> bump Ctr.stopUpdates)
    else if l.free = 0 then
      { refusedWith .full (bump Ctr.addFailures s) with detail := 0x01#8 }
    else if Config.bucketMax ≤ (l.chain bucket).length then
      { refusedWith .full (bump Ctr.addFailures s) with detail := 0x02#8 }
    else carriedOut (.stopAdd true bucket) (s |> setStop (l.append series serial a) |> bump Ctr.stopAdds)

def execStopAdd (o t : Byte) (args : List Byte) (s : State) : Host.Outcome State Fault Refusal :=
  .next (takeCommand .cards ⟨o, t, 0x21#8, args⟩ (args.length == 7) (stopAddOwner args) s)

def stopRemoveOwner (args : List Byte) : State → Carried :=
  inRange (identityArg args) fun (series, serial) s =>
    if (s.card.stop.find series serial).isSome then
      carriedOut .none (s |> setStop (s.card.stop.remove series serial) |> bump Ctr.stopRemoves)
    else refusedWith .notFound s

def execStopRemove (o t : Byte) (args : List Byte) (s : State) : Host.Outcome State Fault Refusal :=
  .next (takeCommand .cards ⟨o, t, 0x22#8, args⟩ (args.length == 6) (stopRemoveOwner args) s)

/-- What STOP PROBE replies (R97); places count from 1. -/
def State.probeData (s : State) (series : BitVec 16) (serial : BitVec 32) : ReplyData :=
  let l := s.card.stop
  let bucket := bucketOf series serial
  .stopProbe bucket (l.chain bucket).length ((l.find series serial).map fun r => (r.1.action, r.2 + 1))

def stopProbeOwner (args : List Byte) : State → Carried :=
  inRange (identityArg args) fun (series, serial) s => carriedOut (s.probeData series serial) s

def execStopProbe (o t : Byte) (args : List Byte) (s : State) : Host.Outcome State Fault Refusal :=
  .next (takeCommand .read ⟨o, t, 0x74#8, args⟩ (args.length == 6) (stopProbeOwner args) s)

/-- What STOP STATUS replies (R97). -/
def State.stopFigures (s : State) : ReplyData :=
  let l := s.card.stop
  .stopStatus l.used l.free l.longest (s.counter Ctr.validationMatches) (s.counter Ctr.validationMisses)
    (s.counter Ctr.addFailures)

def stopStatusOwner (s : State) : Carried := carriedOut s.stopFigures s

def execStopStatus (o t : Byte) (args : List Byte) (s : State) : Host.Outcome State Fault Refusal :=
  .next (takeCommand .read ⟨o, t, 0x75#8, args⟩ (args.length == 0) stopStatusOwner s)

end Sys2Proof.Machine
end

