-- ==== Sys2Proof/Machine/BoothCommands.lean ====
section
/-!
DEFINITION. The commands of the BOOTHS group and BOOTH READ: BOOTH MAP WRITE, BOOTH CONTROL (TAKE OUT, RETURN, FORCE
CLEAR), SEGMENT SETUP. SEGMENT RESET stands with RESTART in Resets.lean.
-/

namespace Sys2Proof.Machine

/-! ## BOOTH MAP WRITE (R125) -/

def boothMapArgs (args : List Byte) : Option (Booth × MapEntry) :=
  match args with
  | [b, g, d, ch, p, f] =>
    match finOf 48 b.toNat, segmentOf g, finOf 64 ch.toNat, finOf 8 p.toNat, flagOf f with
    | some b, some g, some ch, some p, some enabled =>
      if 1 ≤ d.toNat ∧ d.toNat ≤ 31 then
        some (b, { segment := g, drop := d.toNat, channel := ch, plan := p, enabled := enabled })
      else none
    | _, _, _, _, _ => none
  | _ => none

/-- Another booth is enabled and its entry meets a condition. -/
def State.otherEnabled (s : State) (b : Booth) (p : MapEntry → Bool) : Bool :=
  allBooths.any fun x => !decide (x = b) && (s.entry x).enabled && p (s.entry x)

/-- How many other booths are enabled on a segment. -/
def State.othersOn (s : State) (b : Booth) (g : Segment) : Nat :=
  allBooths.countP fun x => !decide (x = b) && (s.entry x).enabled && decide ((s.entry x).segment = g)

/-- Checks 2 to 5 of R125. -/
def State.mapRefusal (s : State) (b : Booth) (e : MapEntry) : Option CmdOutcome :=
  if (s.ctx b).state ≠ .free then some .state
  else if e.enabled = false then none
  else if s.otherEnabled b fun x => decide (x.segment = e.segment) && decide (x.drop = e.drop) then some .conflict
  else if s.otherEnabled b fun x => decide (x.channel = e.channel) then some .conflict
  else if 24 ≤ s.othersOn b e.segment then some .full
  else none

def setEntry (b : Booth) (e : MapEntry) (s : State) : State :=
  { s with line := { s.line with map := s.line.map.set b.val e b.isLt } }

/-- The outcome of a transaction open to the booth will be discarded (R125). -/
def orphanOpen (b : Booth) (g : Segment) (s : State) : State :=
  modSeg g
    (fun x =>
      { x with transaction := x.transaction.map fun t => if t.booth = b then { t with orphan := true } else t }) s

/-- The booth leaves service with its old entry (R125, R91). -/
def disableBooth (b : Booth) (g : Segment) (s : State) : State :=
  s |> orphanOpen b g
    |> modBoothLine b (fun l =>
        { l.cleared with health := .disabled, misses := 0, probeTimer := none, probeDue := false,
                         firstStatus := false })
    |> setSlot b .empty

/-- The booth enters service (R125). -/
def enableBooth (b : Booth) (s : State) : State :=
  modBoothLine b
    (fun l =>
      { l with health := .inService, misses := 0, expectBit := false, statusDue := true, firstStatus := true }) s

/-- The effect of a write on the booth, by its old and its new entry (R125). -/
def mapEffect (b : Booth) (old new : MapEntry) (s : State) : State :=
  match old.enabled, new.enabled with
  | false, false => s
  | true, false => disableBooth b old.segment s
  | false, true => enableBooth b s
  | true, true =>
    if old.segment = new.segment ∧ old.drop = new.drop then s
    else s |> disableBooth b old.segment |> enableBooth b

def boothMapOwner (args : List Byte) : State → Carried :=
  inRange (boothMapArgs args) fun (b, e) s =>
    match s.mapRefusal b e with
    | some o => refusedWith o s
    | none =>
      let old := s.entry b
      carriedOut .none (s |> setEntry b e |> mapEffect b old e |> bump Ctr.boothMapWrites)

def execBoothMapWrite (o t : Byte) (args : List Byte) (s : State) : Host.Outcome State Fault Refusal :=
  .next (takeCommand .booths ⟨o, t, 0x30#8, args⟩ (args.length == 6) (boothMapOwner args) s)

/-! ## BOOTH READ (R126) -/

/-- What BOOTH READ replies. Of a card action in flight and one waiting behind it the reply gives the one in flight:
the model's choice (log 39). -/
def State.boothData (s : State) (b : Booth) : ReplyData :=
  let l := s.boothLine b
  .booth { entry := s.entry b, health := l.health, mark := l.mark, misses := l.misses, debitWork := l.debitWork,
           statusDue := l.statusDue, cardAction := l.cardAction, signals := l.signals.length }

def boothReadOwner (args : List Byte) : State → Carried :=
  inRange (byteArg 48 args) fun b s => carriedOut (s.boothData b) s

def execBoothRead (o t : Byte) (args : List Byte) (s : State) : Host.Outcome State Fault Refusal :=
  .next (takeCommand .read ⟨o, t, 0x76#8, args⟩ (args.length == 1) (boothReadOwner args) s)

/-! ## BOOTH CONTROL (R173) -/

/-- The booth of a BOOTH CONTROL command. -/
def controlBooth (args : List Byte) : Option Booth :=
  match args with
  | [b, _] => finOf 48 b.toNat
  | _ => none

/-- An action on an enabled booth; STATE when its entry is not enabled. -/
def onEnabled (args : List Byte) (f : Booth → State → Carried) : State → Carried :=
  inRange (controlBooth args) fun b s => if (s.entry b).enabled then f b s else refusedWith .state s

/-- TAKE OUT (R173's table). -/
def takeOutBooth (b : Booth) (s : State) : Carried :=
  let l := s.boothLine b
  if l.health = .taken ∨ l.mark = true then refusedWith .state s
  else if (s.ctx b).state = .free then carriedOut .none (enterTaken b s)
  else carriedOut .none (modBoothLine b (fun l => { l with mark := true }) s)

/-- RETURN (R173's table, R134). -/
def bringBack (b : Booth) (s : State) : Carried :=
  let l := s.boothLine b
  if l.mark then carriedOut .none (modBoothLine b (fun l => { l with mark := false }) s)
  else if l.health = .taken ∨ l.health = .reader then
    carriedOut .none
      (s |> modBoothLine b (fun l => { l with health := .inService, misses := 0, statusDue := true })
        |> postSignal b s.orderSignal)
  else refusedWith .state s

/-- FORCE CLEAR (R19). -/
def forceClearBooth (b : Booth) (s : State) : Carried :=
  if (s.ctx b).state = .free then refusedWith .state s else carriedOut .none (forceClearEvent b s)

/-- A BOOTH CONTROL row occurs for the command whose bytes ask for its action (log 5). -/
def controlRow (want : Option BoothAction) (c : Cmd) (owner : State → Carried) (s : State) : State :=
  if boothActionOf c.args = want then takeCommand .booths c (c.args.length == 2) owner s else s

def execTakeOut (o t : Byte) (args : List Byte) (s : State) : Host.Outcome State Fault Refusal :=
  .next (controlRow (some .takeOut) ⟨o, t, 0x31#8, args⟩ (onEnabled args takeOutBooth) s)

def execReturnBooth (o t : Byte) (args : List Byte) (s : State) : Host.Outcome State Fault Refusal :=
  .next (controlRow (some .returnBooth) ⟨o, t, 0x31#8, args⟩ (onEnabled args bringBack) s)

def execForceClear (o t : Byte) (args : List Byte) (s : State) : Host.Outcome State Fault Refusal :=
  .next (controlRow (some .forceClear) ⟨o, t, 0x31#8, args⟩ (onEnabled args forceClearBooth) s)

/-- A BOOTH CONTROL command with another action or another length is refused RANGE (R173, R166). -/
def execBoothControl (o t : Byte) (args : List Byte) (s : State) : Host.Outcome State Fault Refusal :=
  .next (controlRow none ⟨o, t, 0x31#8, args⟩ (refusedWith .range) s)

/-! ## SEGMENT SETUP (R128) -/

def segmentSetupArgs (args : List Byte) : Option (Segment × Nat × Nat) :=
  match args with
  | [g, r, w] =>
    match segmentOf g with
    | some g => if r.toNat ≤ 15 ∧ w.toNat ≤ 15 then some (g, r.toNat, w.toNat) else none
    | none => none
  | _ => none

def segmentSetupOwner (args : List Byte) : State → Carried :=
  inRange (segmentSetupArgs args) fun (g, r, w) s =>
    carriedOut .none (modSeg g (fun x => { x with replyCode := r, writeCode := w }) s)

def execSegmentSetup (o t : Byte) (args : List Byte) (s : State) : Host.Outcome State Fault Refusal :=
  .next (takeCommand .booths ⟨o, t, 0x32#8, args⟩ (args.length == 3) (segmentSetupOwner args) s)

end Sys2Proof.Machine
end

