-- ==== Sys2Proof/Machine/TicketCommands.lean ====
section
/-!
DEFINITION. The commands of the TICKETS group: TICKET FETCH, TICKET RELEASE, RING SETUP.
-/

namespace Sys2Proof.Machine

/-- What TICKET FETCH replies (R160). -/
def State.fetchData (s : State) (count : Nat) : ReplyData :=
  .fetch s.ring.headSeq s.ring.nextSeq s.ring.filled s.ring.reserved (s.ring.tickets.take (min count 2))

def fetchArg (args : List Byte) : Option Nat :=
  match args with
  | [n] => some n.toNat
  | _ => none

def ticketFetchOwner (args : List Byte) : State → Carried :=
  inRange (fetchArg args) fun n s => carriedOut (s.fetchData n) (bump Ctr.fetchCommands s)

def execTicketFetch (o t : Byte) (args : List Byte) (s : State) : Host.Outcome State Fault Refusal :=
  .next (takeCommand .tickets ⟨o, t, 0x40#8, args⟩ (args.length == 1) (ticketFetchOwner args) s)

/-- How many tickets a release of sequence n frees (R161). -/
def Ring.releaseCount (r : Ring) (n : Nat) : Nat :=
  if atOrAfter r.headSeq n then min (forwardDistance r.headSeq n + 1) r.filled else 0

/-- The k oldest tickets are freed and the head moves on (R161). -/
def Ring.release (r : Ring) (k : Nat) : Ring :=
  { r with tickets := r.tickets.drop k, head := (r.head + k) % Config.ringSlots }

def releaseArg (args : List Byte) : Option Nat :=
  match args with
  | [a, b, c, d] => if num4 a b c d = 0 then none else some (num4 a b c d)
  | _ => none

def ticketReleaseOwner (args : List Byte) : State → Carried :=
  inRange (releaseArg args) fun n s =>
    let k := s.ring.releaseCount n
    let s := s
      |> modRing (fun r => r.release k)
      |> bump Ctr.releaseCommands
      |> bumpBy Ctr.ticketsReleased k
    carriedOut (.released s.ring.headSeq) (if k = 0 then bump Ctr.releasesNoEffect s else s)

def execTicketRelease (o t : Byte) (args : List Byte) (s : State) : Host.Outcome State Fault Refusal :=
  .next (takeCommand .tickets ⟨o, t, 0x41#8, args⟩ (args.length == 4) (ticketReleaseOwner args) s)

def ringSetupArg (args : List Byte) : Option Nat :=
  match args with
  | [h1, h0] => if 1 ≤ num2 h1 h0 ∧ num2 h1 h0 ≤ 512 then some (num2 h1 h0) else none
  | _ => none

def ringSetupOwner (args : List Byte) : State → Carried :=
  inRange (ringSetupArg args) fun n s =>
    carriedOut .none (s |> modRing (fun r => { r with highWater := n }) |> bump Ctr.ringSetups)

def execRingSetup (o t : Byte) (args : List Byte) (s : State) : Host.Outcome State Fault Refusal :=
  .next (takeCommand .tickets ⟨o, t, 0x42#8, args⟩ (args.length == 2) (ringSetupOwner args) s)

end Sys2Proof.Machine
end

