-- ==== Sys2Proof/Machine/Resets.lean ====
section
/-!
DEFINITION. RESTART (R170) and SEGMENT RESET (R171), with each block's part (R22, R54, R99, R123, R140, R154, R164,
R178, R184).
-/

namespace Sys2Proof.Machine

/-! ## One booth, one segment -/

/-- A booth's line state after a reset (R140, R22). -/
def BoothLine.afterReset (l : BoothLine) (enabled : Bool) : BoothLine :=
  { l.cleared with
    health :=
      if l.mark then .taken
      else
        match l.health with
        | .taken => .taken
        | .disabled => .disabled
        | _ => .inService
    mark := false
    misses := 0
    probeTimer := none
    probeDue := false
    statusDue := enabled }

/-- A segment's state after a reset: its transaction is abandoned and its window held (R140). -/
def SegLine.afterReset (x : SegLine) : SegLine :=
  { x with
    nextTag := 0
    transaction := none
    hold := x.transaction.map Transaction.expiry
    lastDrop := 0
    burst := 0
    followOn := none }

/-- A change made for every booth that meets a condition, lowest booth first. -/
def forBooths (p : Booth → Bool) (f : Booth → State → State) (s : State) : State :=
  allBooths.foldl (fun t b => if p b then f b t else t) s

/-- The channels on which a reset owes HANGUP: those of affected contexts that are not FREE (R22, R154). -/
def State.hangupsOfReset (s : State) (p : Booth → Bool) : List Channel :=
  (allBooths.filter fun b => p b && !decide ((s.ctx b).state = .free)).map fun b => (s.entry b).channel

def oweAll (chs : List Channel) (s : State) : State := chs.foldl (fun t ch => oweHangup ch t) s

/-- Slots emptied and line state reset for the affected booths (R99, R140). -/
def resetBooths (p : Booth → Bool) (s : State) : State :=
  forBooths p
    (fun b t => t |> setSlot b .empty |> modBoothLine b (fun l => l.afterReset (t.entry b).enabled)) s

/-! ## RESTART (R170) -/

/-- The Management Unit's part, taken before the tickets are written (R170, R178, R184). -/
def restartManagement (s : State) : State :=
  modMgmt
    (fun m =>
      { m with service := .outOfService, faultHeld := none, laterFaults := 0,
               notices := { m.notices with waiting := 0, due := false } }) s

/-- The Trunk Port's part, before the HANGUPs of the reset are owed (R154). -/
def restartTrunk (s : State) : State :=
  modTrunk (fun t => { t with sigQueue := [], waiting := [], replyQueue := [] }) s

def restartPart (s : State) : State :=
  let owed := s.hangupsOfReset fun _ => true
  s |> restartManagement
    |> forBooths (fun _ => true) (endForReset .restart)
    |> setCache []
    |> resetBooths (fun _ => true)
    |> modSeg .west SegLine.afterReset
    |> modSeg .east SegLine.afterReset
    |> restartTrunk
    |> oweAll owed
    |> signalBooths (fun b => (s.entry b).enabled) .outOfOrder

/-- The hold of an abandoned window is running on the segment (R140). -/
def State.holding (s : State) (g : Segment) : Bool := (s.seg g).hold.isSome

def restartOwner (s : State) : Carried :=
  if s.holding .west || s.holding .east then refusedWith .busy s else carriedOut .none (restartPart s)

def execRestart (o t : Byte) (args : List Byte) (s : State) : Host.Outcome State Fault Refusal :=
  .next (takeCommand .service ⟨o, t, 0x52#8, args⟩ (args.length == 0) restartOwner s)

/-! ## SEGMENT RESET (R171) -/

/-- The booths whose Booth Map entries name the segment. -/
def State.onSegment (s : State) (g : Segment) (b : Booth) : Bool := decide ((s.entry b).segment = g)

/-- The frames of the segment's enabled booths' channels and their waiting-list places are withdrawn, uncounted, and
the freed slots offered (R154, R147; log 25). -/
def withdrawSegment (g : Segment) (s : State) : State :=
  let gone : Channel → Bool := fun ch =>
    allBooths.any fun b => s.onSegment g b && (s.entry b).enabled && decide ((s.entry b).channel = ch)
  s |> modTrunk (fun t =>
        { t with sigQueue := t.sigQueue.filter fun f => !gone f.channel,
                 waiting := t.waiting.filter fun b => !s.onSegment g b })
    |> offerSlots

/-- The signal of R171 to one booth of the segment. -/
def State.resetSignal (s : State) (b : Booth) : Signal :=
  if s.mgmt.service = .inService ∧ (s.boothLine b).health = .inService then .inOrder else .outOfOrder

/-- SEGMENT RESET carried out. A drain that ends here queues its OUT OF ORDER (R169) before the pending work is
cleared, so a booth of the segment keeps only the signal of R171: the model's choice (log 40). -/
def segmentResetPart (g : Segment) (s : State) : State :=
  let on := s.onSegment g
  let owed := s.hangupsOfReset on
  s |> forBooths on (endForReset .segmentReset)
    |> checkDrain
    |> resetBooths on
    |> modSeg g SegLine.afterReset
    |> withdrawSegment g
    |> oweAll owed
    |> forBooths (fun b => on b && (s.entry b).enabled) (fun b t => postSignal b (t.resetSignal b) t)

def segmentArg (args : List Byte) : Option Segment :=
  match args with
  | [g] => segmentOf g
  | _ => none

def segmentResetOwner (args : List Byte) : State → Carried :=
  inRange (segmentArg args) fun g s =>
    if s.holding g then refusedWith .busy s else carriedOut .none (segmentResetPart g s)

def execSegmentReset (o t : Byte) (args : List Byte) (s : State) : Host.Outcome State Fault Refusal :=
  .next (takeCommand .booths ⟨o, t, 0x33#8, args⟩ (args.length == 1) (segmentResetOwner args) s)

end Sys2Proof.Machine
end

