-- ==== Sys2Proof/Machine/ServiceCommands.lean ====
section
/-!
DEFINITION. The commands of the SERVICE and ACCESS groups (but RESTART) and the reads of the Management Unit: SERVICE
START, SERVICE STOP, CLOCK SET, LIMITS WRITE, FAULT CLEAR, NOTICE SETUP, NOTICE CLEAR, ACCESS WRITE, STATUS READ,
COUNTER READ, FAULT READ, and the command whose code is unknown.
-/

namespace Sys2Proof.Machine

/-! ## Service (R168, R169) -/

/-- The tests of SERVICE START in OUT OF SERVICE. -/
def State.mayStart (s : State) : Bool :=
  s.tariff.clock.valid
    && (List.finRange 8).any (fun p => (s.route.plans.get p).enabled)
    && allBooths.any fun b => (s.entry b).enabled

def setService (x : Service) (s : State) : State := modMgmt (fun m => { m with service := x }) s

def serviceStartOwner (s : State) : Carried :=
  match s.mgmt.service with
  | .inService => refusedWith .state s
  | .draining => carriedOut .none (setService .inService s)
  | .outOfService =>
    if s.mayStart then
      carriedOut .none
        (s |> setService .inService
          |> signalBooths (fun b => (s.entry b).enabled && (s.boothLine b).health.reachable) .inOrder)
    else refusedWith .state s

def execServiceStart (o t : Byte) (args : List Byte) (s : State) : Host.Outcome State Fault Refusal :=
  .next (takeCommand .service ⟨o, t, 0x50#8, args⟩ (args.length == 0) serviceStartOwner s)

def serviceStopOwner (s : State) : Carried :=
  match s.mgmt.service with
  | .inService => carriedOut .none (s |> setService .draining |> checkDrain)
  | _ => refusedWith .state s

def execServiceStop (o t : Byte) (args : List Byte) (s : State) : Host.Outcome State Fault Refusal :=
  .next (takeCommand .service ⟨o, t, 0x51#8, args⟩ (args.length == 0) serviceStopOwner s)

/-! ## CLOCK SET (R64) -/

def clockSetArgs (args : List Byte) : Option Clock :=
  match args with
  | [y1, y0, m, d, w, h, mi, sec] =>
    if dateExists (num2 y1 y0) m.toNat d.toNat ∧ 1 ≤ w.toNat ∧ h.toNat ≤ 23 ∧ mi.toNat ≤ 59 ∧ sec.toNat ≤ 59 then
      (finOf 7 (w.toNat - 1)).map fun weekday =>
        { year := num2 y1 y0, month := m.toNat, day := d.toNat, weekday := weekday, hour := h.toNat,
          minute := mi.toNat, second := sec.toNat, valid := true }
    else none
  | _ => none

def setClock (c : Clock) (s : State) : State :=
  { s with tariff := { s.tariff with clock := c, secondInstant := s.now } }

def clockSetOwner (args : List Byte) : State → Carried :=
  inRange (clockSetArgs args) fun c s =>
    carriedOut .none (s |> setClock c |> bump Ctr.clockSets |> evaluateAll)

def execClockSet (o t : Byte) (args : List Byte) (s : State) : Host.Outcome State Fault Refusal :=
  .next (takeCommand .service ⟨o, t, 0x53#8, args⟩ (args.length == 8) (clockSetOwner args) s)

/-! ## LIMITS WRITE (R172) -/

/-- 1–60 s. -/
def secondsArg (b : Byte) : Option Nat := if 1 ≤ b.toNat ∧ b.toNat ≤ 60 then some b.toNat else none

def limitsArgs (args : List Byte) : Option Limits :=
  match args with
  | [d, c, w, m, p] =>
    match secondsArg d, secondsArg c, secondsArg w, secondsArg p with
    | some d, some c, some w, some p =>
      some { digitWait := d, cardWait := c, swapWindow := w, maxCall := m.toNat, probe := p }
    | _, _, _, _ => none
  | _ => none

def limitsOwner (args : List Byte) : State → Carried :=
  inRange (limitsArgs args) fun l s =>
    carriedOut .none (s |> modMgmt (fun m => { m with limits := l }) |> bump Ctr.limitsWrites)

def execLimitsWrite (o t : Byte) (args : List Byte) (s : State) : Host.Outcome State Fault Refusal :=
  .next (takeCommand .service ⟨o, t, 0x54#8, args⟩ (args.length == 5) (limitsOwner args) s)

/-! ## FAULT CLEAR and FAULT READ (R178) -/

def faultClearOwner (s : State) : Carried :=
  carriedOut .none
    (s |> modMgmt (fun m => { m with faultHeld := none, laterFaults := 0 }) |> bump Ctr.faultClears)

def execFaultClear (o t : Byte) (args : List Byte) (s : State) : Host.Outcome State Fault Refusal :=
  .next (takeCommand .service ⟨o, t, 0x55#8, args⟩ (args.length == 0) faultClearOwner s)

def faultReadOwner (s : State) : Carried := carriedOut (.fault s.mgmt.faultHeld s.mgmt.laterFaults) s

def execFaultRead (o t : Byte) (args : List Byte) (s : State) : Host.Outcome State Fault Refusal :=
  .next (takeCommand .read ⟨o, t, 0x79#8, args⟩ (args.length == 0) faultReadOwner s)

/-! ## NOTICE SETUP and NOTICE CLEAR (R183) -/

/-- The five bits of a cause set or mask; higher bits are not examined (R187). That they are dropped, so that the mask
reads back without them, is the model's choice (log 42). -/
def causesOf (b : Byte) : BitVec 5 := b.truncate 5

def noticeSetupArgs (args : List Byte) : Option (BitVec 5 × Nat) :=
  match args with
  | [m, t1, t0] => if num2 t1 t0 ≤ 255 then some (causesOf m, num2 t1 t0) else none
  | _ => none

/-- Mask and throttle replaced; a pending cause that is unmasked by the change sets the flag (R181, R183). -/
def Notices.setup (n : Notices) (mask : BitVec 5) (throttle : Nat) : Notices :=
  { n with mask := mask, throttle := throttle,
           due := n.due || !decide (n.waiting &&& n.mask &&& ~~~mask = 0) }

def noticeSetupOwner (args : List Byte) : State → Carried :=
  inRange (noticeSetupArgs args) fun (mask, throttle) s =>
    carriedOut .none (s |> modNotices (fun n => n.setup mask throttle) |> bump Ctr.noticeSetups)

def execNoticeSetup (o t : Byte) (args : List Byte) (s : State) : Host.Outcome State Fault Refusal :=
  .next (takeCommand .service ⟨o, t, 0x56#8, args⟩ (args.length == 3) (noticeSetupOwner args) s)

def noticeClearArg (args : List Byte) : Option (BitVec 5) :=
  match args with
  | [c] => some (causesOf c)
  | _ => none

def noticeClearOwner (args : List Byte) : State → Carried :=
  inRange (noticeClearArg args) fun c s =>
    carriedOut .none
      (s |> modNotices (fun n => { n with waiting := n.waiting &&& ~~~c }) |> bump Ctr.noticeClears)

def execNoticeClear (o t : Byte) (args : List Byte) (s : State) : Host.Outcome State Fault Refusal :=
  .next (takeCommand .service ⟨o, t, 0x57#8, args⟩ (args.length == 1) (noticeClearOwner args) s)

/-! ## ACCESS WRITE (R167) -/

def accessWriteArgs (args : List Byte) : Option (Fin 7 × BitVec 16) :=
  match args with
  | [g, s1, s0] =>
    match finOf 7 g.toNat with
    | some g => if g = Group.access.index ∧ word16 s1 s0 = 0 then none else some (g, word16 s1 s0)
    | none => none
  | _ => none

def setAccess (g : Fin 7) (x : BitVec 16) (s : State) : State :=
  modMgmt (fun m => { m with access := m.access.set g.val x g.isLt }) s

def accessWriteOwner (args : List Byte) : State → Carried :=
  inRange (accessWriteArgs args) fun (g, x) s => carriedOut .none (s |> setAccess g x |> bump Ctr.accessWrites)

def execAccessWrite (o t : Byte) (args : List Byte) (s : State) : Host.Outcome State Fault Refusal :=
  .next (takeCommand .access ⟨o, t, 0x60#8, args⟩ (args.length == 3) (accessWriteOwner args) s)

/-! ## STATUS READ (R174) -/

def State.statusData (s : State) : ReplyData :=
  .status
    { service := s.mgmt.service, linkUp := s.trunk.linkUp, clock := s.tariff.clock, limits := s.mgmt.limits,
      westReply := s.line.west.replyCode, westWrite := s.line.west.writeCode,
      eastReply := s.line.east.replyCode, eastWrite := s.line.east.writeCode,
      access := s.mgmt.access, commands := s.mgmt.cmdQueue.length, replies := s.trunk.replyQueue.length,
      headSeq := s.ring.headSeq, tailSeq := s.ring.nextSeq, filled := s.ring.filled, reserved := s.ring.reserved,
      highWater := s.ring.highWater, faultHeld := s.mgmt.faultHeld.isSome, waiting := s.mgmt.notices.waiting,
      mask := s.mgmt.notices.mask }

def statusReadOwner (s : State) : Carried := carriedOut s.statusData s

def execStatusRead (o t : Byte) (args : List Byte) (s : State) : Host.Outcome State Fault Refusal :=
  .next (takeCommand .read ⟨o, t, 0x77#8, args⟩ (args.length == 0) statusReadOwner s)

/-! ## COUNTER READ (R180) -/

def counterReadArgs (args : List Byte) : Option (Fin 12 × Bool) :=
  match args with
  | [g, f] =>
    match finOf 12 g.toNat, flagOf f with
    | some g, some clear => some (g, clear)
    | _, _ => none
  | _ => none

/-- Every counter of the group is zeroed. -/
def clearGroup (g : Fin 12) (s : State) : State :=
  { s with counters := s.counters.set g.val ((s.counters.get g).map fun _ => 0) g.isLt }

def counterReadOwner (args : List Byte) : State → Carried :=
  inRange (counterReadArgs args) fun (g, clear) s =>
    carriedOut (.counters (s.counters.get g)) (if clear then clearGroup g s else s)

def execCounterRead (o t : Byte) (args : List Byte) (s : State) : Host.Outcome State Fault Refusal :=
  .next (takeCommand .read ⟨o, t, 0x78#8, args⟩ (args.length == 2) (counterReadOwner args) s)

/-! ## A code that stands in no table (R166 check 1) -/

def execUnknownCommandCode (o t code : Byte) (args : List Byte) (s : State) : Host.Outcome State Fault Refusal :=
  .next (if knownCode code then s else takeUnknown ⟨o, t, code, args⟩ s)

end Sys2Proof.Machine
end

