-- ==== Sys2Proof/Machine/Dispatch.lean ====
section
/-!
DEFINITION. The dispatch: one arm per row of spec/opcode_table.json, each one direct call of its meaning.
-/

namespace Sys2Proof.Machine

def exec (i : Instr) (s : State) : Host.Outcome State Fault Refusal :=
  match i with
  | .powerOn => Sys2Proof.Machine.execPowerOn s
  | .sync => Sys2Proof.Machine.execSync s
  | .answer channel => Sys2Proof.Machine.execAnswer channel s
  | .clear channel => Sys2Proof.Machine.execClear channel s
  | .command originator tag code args => Sys2Proof.Machine.execCommand originator tag code args s
  | .trunkFrameDiscarded reason => Sys2Proof.Machine.execTrunkFrameDiscarded reason s
  | .silenceTimerExpiry => Sys2Proof.Machine.execSilenceTimerExpiry s
  | .syncTimerExpiry => Sys2Proof.Machine.execSyncTimerExpiry s
  | .frameTransmitStart => Sys2Proof.Machine.execFrameTransmitStart s
  | .frameTransmitComplete => Sys2Proof.Machine.execFrameTransmitComplete s
  | .holdTimerExpiry => Sys2Proof.Machine.execHoldTimerExpiry s
  | .arbiterGrant seg => Sys2Proof.Machine.execArbiterGrant seg s
  | .events seg drop tag more batch status evs => Sys2Proof.Machine.execEvents seg drop tag more batch status evs s
  | .done seg drop tag count => Sys2Proof.Machine.execDone seg drop tag count s
  | .count seg drop tag series serial count => Sys2Proof.Machine.execCount seg drop tag series serial count s
  | .ack seg drop tag => Sys2Proof.Machine.execAck seg drop tag s
  | .fail seg drop tag reason count => Sys2Proof.Machine.execFail seg drop tag reason count s
  | .boothFrameGarbled seg => Sys2Proof.Machine.execBoothFrameGarbled seg s
  | .replyWindowExpiry seg => Sys2Proof.Machine.execReplyWindowExpiry seg s
  | .abandonedWindowHoldExpiry seg => Sys2Proof.Machine.execAbandonedWindowHoldExpiry seg s
  | .probeTimerExpiry booth => Sys2Proof.Machine.execProbeTimerExpiry booth s
  | .digitWaitExpiry booth => Sys2Proof.Machine.execDigitWaitExpiry booth s
  | .cardWaitExpiry booth => Sys2Proof.Machine.execCardWaitExpiry booth s
  | .swapWindowExpiry booth => Sys2Proof.Machine.execSwapWindowExpiry booth s
  | .tick booth => Sys2Proof.Machine.execTick booth s
  | .timeLimit booth => Sys2Proof.Machine.execTimeLimit booth s
  | .clockSecondAdvance => Sys2Proof.Machine.execClockSecondAdvance s
  | .minuteBoundary => Sys2Proof.Machine.execMinuteBoundary s
  | .treeWrite o t args => Sys2Proof.Machine.execTreeWrite o t args s
  | .planWrite o t args => Sys2Proof.Machine.execPlanWrite o t args s
  | .classWrite o t args => Sys2Proof.Machine.execClassWrite o t args s
  | .profileWrite o t args => Sys2Proof.Machine.execProfileWrite o t args s
  | .bandWrite o t args => Sys2Proof.Machine.execBandWrite o t args s
  | .holidayWrite o t args => Sys2Proof.Machine.execHolidayWrite o t args s
  | .cacheFence o t args => Sys2Proof.Machine.execCacheFence o t args s
  | .seriesWrite o t args => Sys2Proof.Machine.execSeriesWrite o t args s
  | .stopAdd o t args => Sys2Proof.Machine.execStopAdd o t args s
  | .stopRemove o t args => Sys2Proof.Machine.execStopRemove o t args s
  | .boothMapWrite o t args => Sys2Proof.Machine.execBoothMapWrite o t args s
  | .takeOut o t args => Sys2Proof.Machine.execTakeOut o t args s
  | .returnBooth o t args => Sys2Proof.Machine.execReturnBooth o t args s
  | .forceClear o t args => Sys2Proof.Machine.execForceClear o t args s
  | .segmentSetup o t args => Sys2Proof.Machine.execSegmentSetup o t args s
  | .segmentReset o t args => Sys2Proof.Machine.execSegmentReset o t args s
  | .ticketFetch o t args => Sys2Proof.Machine.execTicketFetch o t args s
  | .ticketRelease o t args => Sys2Proof.Machine.execTicketRelease o t args s
  | .ringSetup o t args => Sys2Proof.Machine.execRingSetup o t args s
  | .serviceStart o t args => Sys2Proof.Machine.execServiceStart o t args s
  | .serviceStop o t args => Sys2Proof.Machine.execServiceStop o t args s
  | .restart o t args => Sys2Proof.Machine.execRestart o t args s
  | .clockSet o t args => Sys2Proof.Machine.execClockSet o t args s
  | .limitsWrite o t args => Sys2Proof.Machine.execLimitsWrite o t args s
  | .faultClear o t args => Sys2Proof.Machine.execFaultClear o t args s
  | .noticeSetup o t args => Sys2Proof.Machine.execNoticeSetup o t args s
  | .noticeClear o t args => Sys2Proof.Machine.execNoticeClear o t args s
  | .accessWrite o t args => Sys2Proof.Machine.execAccessWrite o t args s
  | .treeRead o t args => Sys2Proof.Machine.execTreeRead o t args s
  | .planRead o t args => Sys2Proof.Machine.execPlanRead o t args s
  | .classRead o t args => Sys2Proof.Machine.execClassRead o t args s
  | .seriesRead o t args => Sys2Proof.Machine.execSeriesRead o t args s
  | .stopProbe o t args => Sys2Proof.Machine.execStopProbe o t args s
  | .stopStatus o t args => Sys2Proof.Machine.execStopStatus o t args s
  | .boothRead o t args => Sys2Proof.Machine.execBoothRead o t args s
  | .statusRead o t args => Sys2Proof.Machine.execStatusRead o t args s
  | .counterRead o t args => Sys2Proof.Machine.execCounterRead o t args s
  | .faultRead o t args => Sys2Proof.Machine.execFaultRead o t args s
  | .unknownCommandCode o t code args => Sys2Proof.Machine.execUnknownCommandCode o t code args s
  | .staleBoothFrame seg drop tag reply => Sys2Proof.Machine.execStaleBoothFrame seg drop tag reply s
  | .boothControl o t args => Sys2Proof.Machine.execBoothControl o t args s

end Sys2Proof.Machine
end

