-- ==== Sys2Proof/Machine/Step.lean ====
section
/-!
DEFINITION. One step: the command at the front of the queue, or one hundredth of a second passing on an empty queue.
-/

namespace Sys2Proof.Machine

/-- With nothing pending one hundredth of a second passes and nothing else changes (log 3). -/
def idle (s : State) : State := { s with now := s.now + Config.hundredth }

/-- The command at the front is taken with the queue's rest behind it. -/
def step (s : State) : Host.Outcome State Fault Refusal :=
  match s.pending with
  | [] => .next (idle s)
  | c :: rest => exec c { s with pending := rest }

/-- The command that a word spells, put at the front of the queue; no word spells one (log 31). -/
def State.withFetchWord (s : State) (nbits w : Nat) : State :=
  match decodeTableWord nbits w with
  | some c => { s with pending := c :: s.pending }
  | none => s

end Sys2Proof.Machine
end

