-- ==== Sys2Proof/Safety.lean ====
section
/-!
DEFINITION. What must hold of the part's state whatever is commanded: the invariants the manual states, as predicates
on a state, and the settings that only the management centre's commands change.
-/

namespace Sys2Proof

/-- The rows that write a setting, and POWER_ON. -/
def Instr.writesSettings : Instr → Bool
  | .powerOn | .treeWrite _ _ _ | .planWrite _ _ _ | .classWrite _ _ _ | .profileWrite _ _ _ | .bandWrite _ _ _
  | .holidayWrite _ _ _ | .seriesWrite _ _ _ | .stopAdd _ _ _ | .stopRemove _ _ _ | .boothMapWrite _ _ _
  | .segmentSetup _ _ _ | .ringSetup _ _ _ | .limitsWrite _ _ _ | .accessWrite _ _ _ => true
  | _ => false

/-- The rows that release a held Fault Capture record (R177). -/
def Instr.releasesFault : Instr → Bool
  | .powerOn | .faultClear _ _ _ | .restart _ _ _ => true
  | _ => false

end Sys2Proof

namespace Sys2Proof.Machine

/-! ## The settings -/

/-- Everything that only commands of the management centre write (tables, map, access, limits, window codes,
high-water), and the model's queue of waiting commands, which no command's effect touches. -/
structure Settings where
  tree : SMap TreeEntry
  plans : Vector Plan 8
  classes : SMap ClassRecord
  profiles : Vector (Vector (BitVec 16) 6) 4
  bands : Vector (List Boundary) 4
  holidays : Vector (Option Date) 32
  series : Vector SeriesRecord 32
  stop : StopList
  map : Vector MapEntry 48
  access : Vector (BitVec 16) 7
  limits : Limits
  westCodes : Nat × Nat
  eastCodes : Nat × Nat
  highWater : Nat
  pending : List Instr

def State.settings (s : State) : Settings :=
  { tree := s.route.tree, plans := s.route.plans, classes := s.tariff.classes, profiles := s.tariff.profiles,
    bands := s.tariff.bands, holidays := s.tariff.holidays, series := s.card.series, stop := s.card.stop,
    map := s.line.map, access := s.mgmt.access, limits := s.mgmt.limits,
    westCodes := (s.line.west.replyCode, s.line.west.writeCode),
    eastCodes := (s.line.east.replyCode, s.line.east.writeCode), highWater := s.ring.highWater,
    pending := s.pending }

/-! ## Invariants of the manual -/

/-- The permitted set of the ACCESS group is never empty (R167). -/
def AccessKept (s : State) : Prop := s.mgmt.access.get Group.access.index ≠ 0#16

/-- The sparse tables keep their canonical form (the model's own: equal tables are equal data). -/
def TablesCanonical (s : State) : Prop :=
  smWf .empty s.route.tree = true ∧ smWf .undefined s.tariff.classes = true ∧ smWf [] s.card.stop.chains = true

/-- No two valid cache entries match one lookup, and there are at most 32 (R42, R44). -/
def CacheUnambiguous (s : State) : Prop :=
  s.route.cache.length ≤ 32
    ∧ s.route.cache.Pairwise fun e f => ∀ str tag, ¬(e.hits str tag = true ∧ f.hits str tag = true)

/-- The Stop List of R94: every entry in the chain of its own bucket, no identity twice in it, at most 12 entries a
bucket, used and free together 4,096. -/
def StopListSound (s : State) : Prop :=
  smWf [] s.card.stop.chains = true
    ∧ (∀ k c, (k, c) ∈ s.card.stop.chains →
        c.length ≤ 12 ∧ (∀ e ∈ c, bucketOf e.series e.serial = k)
          ∧ c.Pairwise fun e f => (e.series, e.serial) ≠ (f.series, f.serial))
    ∧ s.card.stop.used + s.card.stop.free = 4096

/-- No drop address on a segment and no trunk channel serves two enabled booths (R124). -/
def MapUnique (s : State) : Prop :=
  ∀ b c : Booth, b ≠ c → (s.entry b).enabled = true → (s.entry c).enabled = true →
    (s.entry b).channel ≠ (s.entry c).channel
      ∧ ((s.entry b).segment = (s.entry c).segment → (s.entry b).drop ≠ (s.entry c).drop)

/-- No segment has more than 24 enabled booths (R124). -/
def SegmentsWithinLimit (s : State) : Prop :=
  ∀ g : Segment, (allBooths.countP fun b => (s.entry b).enabled && decide ((s.entry b).segment = g)) ≤ 24

/-- How many contexts are not FREE. -/
def State.busy (s : State) : Nat := allBooths.countP fun b => !decide ((s.ctx b).state = .free)

/-- Reserved equals the number of contexts that are not FREE, and filled plus reserved never exceed 512 (R156). -/
def ReservationsKept (s : State) : Prop := s.ring.reserved = s.busy ∧ s.ring.filled + s.ring.reserved ≤ 512

/-- The queues keep their capacities (R136, R145, R146, R151). -/
def QueuesBounded (s : State) : Prop :=
  s.trunk.sigQueue.length ≤ 64 ∧ s.trunk.replyQueue.length ≤ 16 ∧ s.mgmt.cmdQueue.length ≤ 8
    ∧ ∀ b, (s.boothLine b).signals.length ≤ 4

/-- Every balance lies at or above the floor (R70), and every set-up charge within its range (R55, R36), which the
start of a call at P = −s rests on. -/
def ChargesInRange (s : State) : Prop :=
  (∀ k r, (k, r) ∈ s.tariff.classes → r.setup ≤ 4000000)
    ∧ (∀ b p, (s.ctx b).snap = some p → p.setup ≤ 4000000)
    ∧ ∀ b, Config.minBalance ≤ (s.debit b).p

/-- Taking n units of the card list entry at place i leaves P below that entry's unit value (R70, R111). -/
def Debit.leavesBelow (d : Debit) (i n : Nat) : Prop :=
  ∃ e, d.cards[i]? = some e ∧ d.p + (n * e.unitValue : Nat) < (e.unitValue : Int)

/-- Every balance lies at or below 3,999,999 (R70). What it rests on: unit values within the range of R92, in the Series
Table, in every slot and on every card list; no request and no uncertain record but in an answered call; and the units
of each of these sized so that confirming all of them leaves P below the card's unit value. -/
def BalanceCeiling (s : State) : Prop :=
  (∀ k : Fin 32, (s.card.series.get k).unitValue ≤ 4000000)
    ∧ ∀ b, (s.debit b).p ≤ 3999999
      ∧ (∀ r v w l, s.slot b = .valid r v w l → v ≤ 4000000)
      ∧ (∀ e ∈ (s.debit b).cards, e.unitValue ≤ 4000000)
      ∧ ((s.ctx b).state.metered = false → (s.ctx b).state ≠ .ending →
          (s.debit b).outstanding = .none ∧ (s.debit b).uncertain = none)
      ∧ (∀ a, (s.debit b).outstanding.ask = some a → (s.debit b).leavesBelow a.entry a.n)
      ∧ ∀ u, (s.debit b).uncertain = some u → (s.debit b).leavesBelow u.entry u.n

/-- No tick has clamped the balance or saturated the charged total. -/
def Debit.exact (d : Debit) : Prop := d.debtSaturated = false ∧ d.chargeSaturated = false

/-- While neither saturation flag is set, covered less the charged total equals P (R121); the record of an
unanswered call stands at its admission values (R69, R100). -/
def BalanceExplained (s : State) : Prop :=
  ∀ b, ((s.debit b).exact → ((s.debit b).covered : Int) - ((s.debit b).charged : Int) = (s.debit b).p)
    ∧ ((s.ctx b).state.preAnswer = true →
        (s.debit b).p = 0 ∧ (s.debit b).charged = 0 ∧ (s.debit b).covered = 0 ∧ (s.debit b).exact
          ∧ (s.debit b).outstanding = .none ∧ (s.debit b).uncertain = none)

/-- Every counter lies at or below its maximum (R180). -/
def CountersBounded (s : State) : Prop := ∀ g : Fin 12, ∀ n ∈ s.counters.get g, n ≤ Config.maxCounter

/-- Every step keeps the property, from every state that has it. -/
def StepKeeps (P : State → Prop) : Prop := ∀ s t, P s → step s = .next t → P t

end Sys2Proof.Machine
end

