-- ==== Sys2Proof/Certificates/Slice0/Obligations.lean ====
section
/-!
DEFINITION. The statements of this row, for the provers: what each command of the block does, and what every step
keeps. The helpers before them say once what most of them assume and conclude.
-/

namespace Sys2Proof.Machine

/-! ## A command of the management centre taken from the queue -/

/-- The command stands at the oldest end of the command queue, the reply queue has room (R165), and the originator is
0–15 and in the permitted set of the command's group (R166 check 2). -/
structure CanTake (g : Group) (c : Cmd) (rest : List Cmd) (s : State) : Prop where
  front : s.mgmt.cmdQueue = c :: rest
  room : s.trunk.replyQueue.length < 16
  originator : c.originator.toNat ≤ 15
  permitted : (s.mgmt.access.get g.index).getLsbD c.originator.toNat = true

/-- The state with the command taken from the queue. -/
def popped (rest : List Cmd) (s : State) : State := { s with mgmt := { s.mgmt with cmdQueue := rest } }

/-- The REPLY to a command: it joins the reply queue while the link is UP, and is discarded and counted while DOWN
(R151, R152). -/
def replied (c : Cmd) (o : CmdOutcome) (detail : Byte) (data : ReplyData) (s : State) : State :=
  if s.trunk.linkUp then
    { s with
      trunk :=
        { s.trunk with
          replyQueue := s.trunk.replyQueue
            ++ [{ originator := c.originator, tag := c.tag, code := c.code, outcome := o, detail := detail,
                  data := data }] } }
  else bump Ctr.repliesDiscarded s

/-- A command carried out: counted and answered DONE with its data (R166). -/
def doneWith (c : Cmd) (data : ReplyData) (s : State) : State := replied c .done 0#8 data (bump Ctr.commandsDone s)

/-- A command refused by its owner: counted under its outcome and answered with it (R166). -/
def refusal (c : Cmd) (o : CmdOutcome) (s : State) : State := replied c o 0#8 .none (bump (Ctr.cmdRefusal o) s)

/-- A card identity from six argument bytes. -/
def seriesOf (s1 s0 : Byte) : BitVec 16 := BitVec.ofNat 16 (num2 s1 s0)
def serialOf (n3 n2 n1 n0 : Byte) : BitVec 32 := BitVec.ofNat 32 (num4 n3 n2 n1 n0)

/-- The Tariff Tree entry that the kind and content bytes of a TREE WRITE name (R26). -/
def NamesEntry (kind x1 x0 c1 c0 common : Byte) (e : TreeEntry) : Prop :=
  (kind = 0#8 ∧ e = .empty) ∨ (kind = 3#8 ∧ e = .bar)
    ∨ (kind = 1#8 ∧ ∃ h : num2 x1 x0 < 1024, e = .branch ⟨num2 x1 x0, h⟩)
    ∨ (kind = 2#8 ∧ ∃ h : num2 c1 c0 < 256, common.toNat ≤ 1 ∧ e = .leaf ⟨num2 c1 c0, h⟩ (decide (common = 1#8)))

/-- The boundary list that the pairs of a BAND WRITE name: each pair is minute (2) and band (1) (R60, R187). -/
def boundaryBytes (l : List Boundary) : List Byte :=
  l.flatMap fun x => [byte (x.minute / 256), byte x.minute, byte x.band.val]

/-- The argument bytes of minute and band pairs, whatever their values (R187). -/
def pairBytes (l : List (Nat × Nat)) : List Byte := l.flatMap fun x => [byte (x.1 / 256), byte x.1, byte x.2]

/-- The group of a command code (R175). -/
def groupOfCode (code : Byte) : Option Group :=
  if [0x10#8, 0x11#8, 0x12#8, 0x13#8, 0x14#8, 0x15#8, 0x16#8].contains code then some .tariff
  else if [0x20#8, 0x21#8, 0x22#8].contains code then some .cards
  else if [0x30#8, 0x31#8, 0x32#8, 0x33#8].contains code then some .booths
  else if [0x40#8, 0x41#8, 0x42#8].contains code then some .tickets
  else if [0x50#8, 0x51#8, 0x52#8, 0x53#8, 0x54#8, 0x55#8, 0x56#8, 0x57#8].contains code then some .service
  else if code = 0x60#8 then some .access
  else if [0x70#8, 0x71#8, 0x72#8, 0x73#8, 0x74#8, 0x75#8, 0x76#8, 0x77#8, 0x78#8, 0x79#8].contains code then
    some .read
  else none

/-- The argument length of a command code but BAND WRITE's, which its count byte gives (R187). -/
def lengthOfCode (code : Byte) : Option Nat :=
  ([(0x10#8, 9), (0x11#8, 5), (0x12#8, 13), (0x13#8, 13), (0x15#8, 6), (0x16#8, 11), (0x20#8, 9), (0x21#8, 7),
    (0x22#8, 6), (0x30#8, 6), (0x31#8, 2), (0x32#8, 3), (0x33#8, 1), (0x40#8, 1), (0x41#8, 4), (0x42#8, 2),
    (0x50#8, 0), (0x51#8, 0), (0x52#8, 0), (0x53#8, 8), (0x54#8, 5), (0x55#8, 0), (0x56#8, 3), (0x57#8, 1),
    (0x60#8, 3), (0x70#8, 2), (0x71#8, 1), (0x72#8, 2), (0x73#8, 1), (0x74#8, 6), (0x75#8, 0), (0x76#8, 1),
    (0x77#8, 0), (0x78#8, 2), (0x79#8, 0)] : List (Byte × Nat)).lookup code

/-- The seven access groups in the order of R187. -/
def groupAt (n : Fin 7) : Group :=
  match n with
  | 0 => .tariff
  | 1 => .cards
  | 2 => .booths
  | 3 => .tickets
  | 4 => .service
  | 5 => .access
  | 6 => .read

end Sys2Proof.Machine

namespace Sys2Proof.Machine

/-! ## A reply on a booth line -/

/-- The segment's open transaction is this one, the frame carries its drop address and tag, and the outcome counts:
no probe, and the booth was neither disabled nor moved meanwhile (R127, R129). -/
structure Answers (g : Segment) (drop tag : Byte) (r : Request) (b : Booth) (s : State) : Prop where
  opened : ∃ tr : Transaction, (s.seg g).transaction = some tr ∧ tr.drop = drop.toNat ∧ tr.tag.val = tag.toNat
    ∧ tr.request = r ∧ tr.booth = b ∧ tr.probe = false ∧ tr.orphan = false

/-- The segment's open transaction asks this of the booth, and its outcome counts. -/
structure OpenTo (g : Segment) (r : Request) (b : Booth) (s : State) (tr : Transaction) : Prop where
  opened : (s.seg g).transaction = some tr
  request : tr.request = r
  booth : tr.booth = b
  counts : tr.probe = false ∧ tr.orphan = false

/-- A good reply has closed the transaction: the miss count 0, a SUSPECT booth IN SERVICE, the follow-on booth as
given (R129, R138). -/
def closedGood (g : Segment) (b : Booth) (followOn : Option Booth) (s : State) : State :=
  modBoothLine b
    (fun l => { l with misses := 0, health := if l.health = .suspect then .inService else l.health })
    (modSeg g (fun x => { x with transaction := none, followOn := followOn }) s)

/-- A miss has closed the transaction and is counted on the segment (R129). -/
def closedMissed (g : Segment) (s : State) : State :=
  bump (Ctr.misses g) (modSeg g (fun x => { x with transaction := none, followOn := none }) s)

/-- Places of a drop address after the last granted one, in ascending order wrapping from 31 round to 1 (R138). -/
def dropDistance (last drop : Nat) : Nat := (drop + 30 - last) % 31

/-- The classes as R137 tables them. -/
def isCandidate (s : State) (g : Segment) (k : WorkClass) (b : Booth) : Prop :=
  let l := s.boothLine b
  (s.entry b).enabled = true ∧ (s.entry b).segment = g ∧
    match k with
    | .debit => l.debitWork ≠ none ∧ (l.health = .inService ∨ l.health = .suspect)
    | .command =>
      (l.statusDue = true ∨ l.cardAction ≠ none ∨ l.signals ≠ [])
        ∧ (l.health = .inService ∨ l.health = .suspect ∨ l.health = .reader ∨ l.health = .taken)
    | .poll => l.health = .inService ∨ l.health = .suspect ∨ (l.health = .lost ∧ l.probeDue = true)

/-- What a grant of a class sends to the booth (R137). -/
def sends (l : BoothLine) (k : WorkClass) (r : Request) : Prop :=
  match k with
  | .debit => (∃ n serial, l.debitWork = some (.cancel n serial) ∧ r = .cancel n serial)
      ∨ ∃ serial, l.debitWork = some (.verify serial) ∧ r = .verify serial
  | .command =>
    (l.statusDue = true ∧ r = .status)
      ∨ (l.statusDue = false ∧ ((l.cardAction = some .eject ∧ r = .eject)
          ∨ (∃ serial, l.cardAction = some (.retain serial) ∧ r = .retain serial)
          ∨ (l.cardAction = none ∧ ∃ sig q, l.signals = sig :: q ∧ r = .signal sig)))
  | .poll => r = .poll l.expectBit

/-- The booth's line after a good reply to a request: the pending work it has served is gone (R130). -/
def servedLine (r : Request) (l : BoothLine) : BoothLine :=
  match r with
  | .status => { l with statusDue := false }
  | .cancel _ _ => { l with debitWork := none }
  | .verify _ => { l with debitWork := none }
  | .eject => { l with cardAction := l.cardNext, cardNext := none }
  | .retain _ => { l with cardAction := l.cardNext, cardNext := none }
  | _ => l

/-- The booth's line after a miss: the miss count rises, an IN SERVICE booth is SUSPECT, and the third miss of a READER
or TAKEN booth clears its work and its count (R132; the third miss of a SUSPECT booth is no case of this). -/
def missedLine (l : BoothLine) : BoothLine :=
  match l.health with
  | .inService => { l with misses := min 3 (l.misses + 1), health := .suspect }
  | .suspect => { l with misses := min 3 (l.misses + 1) }
  | .reader | .taken =>
    if 2 ≤ l.misses then
      { l with misses := 0, debitWork := none, statusDue := false, cardAction := none, cardNext := none,
               signals := [] }
    else { l with misses := l.misses + 1 }
  | .lost | .disabled => l

/-- The queue of signals q' holds what a missed SIGNAL leaves of the queue q: the signal is back at its oldest end,
unless it is a SHOW UNITS and q holds one, or q holds 4 (R136). -/
structure SignalReturned (sig : Signal) (q q' : List Signal) : Prop where
  outOfDate : ∀ n m, sig = .showUnits n → .showUnits m ∈ q → q' = q
  full : 4 ≤ q.length → q' = q
  back : q.length < 4 → (∀ n m, sig = .showUnits n → .showUnits m ∉ q) → q' = sig :: q

/-- No card action waits behind another, and none is in flight to the booth (R135). -/
def NoActionWaits (b : Booth) (s : State) : Prop :=
  (s.boothLine b).cardNext = none
    ∧ ∀ tr, (s.seg (s.entry b).segment).transaction = some tr → tr.booth = b →
        tr.request ≠ .eject ∧ ∀ serial, tr.request ≠ .retain serial

/-- Work may be posted to the booth (R135). -/
def TakesWork (b : Booth) (s : State) : Prop := (s.boothLine b).health ≠ .lost ∧ (s.boothLine b).health ≠ .disabled

/-! ## Confirmed units, and what the customer is shown -/

/-- The booth's slot is VALID with the entry's card. -/
def CardInSlot (b : Booth) (e : CardEntry) (s : State) : Prop :=
  ∃ r v w l, s.slot b = .valid r v w l ∧ r.series = e.series ∧ r.serial = e.serial

/-- A count that leaves the entry's card at or below its warn threshold, above 0, with the customer not yet warned
(R113). -/
def warnsAt (count : Nat) (e : CardEntry) : Bool :=
  decide (count < e.face) && decide (e.face - count ≤ e.warn) && !e.warned

/-- What the customer is shown when `count` stands on the card of the entry at place i, with a cause to show it or
without: SHOW UNITS with the units that remain, no value of which is claimed for a count above the face (log 20), then
LOW CREDIT once for an entry (R113). Nothing is shown of a card that is not the slot's VALID card, nor to a booth that
takes no work. -/
structure Shown (cause : Prop) (b : Booth) (i count : Nat) (e : CardEntry) (s t : State) : Prop where
  posts : cause → CardInSlot b e s → TakesWork b s →
    ∃ n, (count ≤ e.face → n = e.face - count)
      ∧ (t.boothLine b).signals =
          let q := joinSignal (.showUnits n) (s.boothLine b).signals
          if warnsAt count e = true then joinSignal .lowCredit q else q
  quiet : (¬cause ∨ ¬CardInSlot b e s ∨ ¬TakesWork b s) → (t.boothLine b).signals = (s.boothLine b).signals
  warns : ∀ e', (t.debit b).cards[i]? = some e' →
    (cause → CardInSlot b e s → e'.warned = (e.warned || warnsAt count e))
      ∧ ((¬cause ∨ ¬CardInSlot b e s) → e'.warned = e.warned)

/-- A count confirms k units on the entry at place i (R104). With k of 1 or more an uncertain record is dropped, and its
uncertainty counted as final when it names another entry (R111); that one naming the same entry is dropped uncounted is
the model's choice (log 37). -/
structure Confirms (b : Booth) (i k count : Nat) (e : CardEntry) (s t : State) : Prop where
  balance : (t.debit b).p = (s.debit b).p + (k * e.unitValue : Nat)
  covered : (t.debit b).covered = (s.debit b).covered + k * e.unitValue
  request : (t.debit b).outstanding = .none
  entry : ∃ e', (t.debit b).cards[i]? = some e' ∧ e' = { e with
    cancelled := e.cancelled + k, lastKnown := count, warned := e'.warned }
  others : ∀ j, j ≠ i → (t.debit b).cards[j]? = (s.debit b).cards[j]?
  charges : t.debit b = { s.debit b with
    p := (t.debit b).p, covered := (t.debit b).covered, outstanding := .none, cards := (t.debit b).cards,
    uncertain := if k = 0 then (s.debit b).uncertain else none }
  finals : ∀ u, (s.debit b).uncertain = some u → 1 ≤ k → u.entry ≠ i →
    t.counter Ctr.uncertainFinals = (bump Ctr.uncertainFinals s).counter Ctr.uncertainFinals
  uncounted : (k = 0 ∨ ∀ u, (s.debit b).uncertain = some u → u.entry = i) →
    t.counter Ctr.uncertainFinals = s.counter Ctr.uncertainFinals
  slot : ∀ r v w l, s.slot b = .valid r v w l → (r.series, r.serial) = (e.series, e.serial) →
    t.slot b = .valid r v w count
  slotElse : (∀ r v w l, s.slot b = .valid r v w l → (r.series, r.serial) ≠ (e.series, e.serial)) →
    t.slot b = s.slot b
  call : t.ctx b = s.ctx b
  frame : ∀ x, x ≠ b →
    t.ctx x = s.ctx x ∧ t.debit x = s.debit x ∧ t.slot x = s.slot x ∧ t.boothLine x = s.boothLine x
  rest : t.ring = s.ring ∧ t.settings = s.settings ∧ t.trunk = s.trunk ∧ t.route = s.route ∧ t.tariff = s.tariff

/-- A call in SPEECH has entered SWAP with its window running (R115). -/
def swapped (c : Ctx) (now window : Nat) (cause : EndCause) : Ctx :=
  { c with state := .swap, swapWindow := some (now + window * 4000, cause) }

/-! ## The end of an answered call -/

/-- A call in SPEECH or SWAP has been put into ENDING, its settle not yet begun (R16, R118). -/
def ending (b : Booth) (cause : EndCause) (s : State) : State :=
  modDebit b (fun d => { d with nextTick := none, cardLeft := false })
    (modCtx b (fun c => { c with state := .ending, endCause := some cause, swapWindow := none }) s)

/-- The booth's channel has been released: its queued frames and its place in the waiting list are withdrawn, and
HANGUP is owed on it when the call owes one, the link is UP and no SEIZE of the call was still queued (R147, R148, R149,
R152). -/
structure ChannelReleased (b : Booth) (owes : Prop) (s t : State) : Prop where
  owed : owes → s.trunk.linkUp = true → .seize (s.entry b).channel ∉ s.trunk.sigQueue →
    t.trunk.hangupOwed = s.trunk.hangupOwed.set (s.entry b).channel.val true (s.entry b).channel.isLt
  unowed : (¬owes ∨ s.trunk.linkUp = false ∨ .seize (s.entry b).channel ∈ s.trunk.sigQueue) →
    t.trunk.hangupOwed = s.trunk.hangupOwed
  withdrawn : s.trunk.sigQueue.filter (fun f => !decide (f.channel = (s.entry b).channel)) <+: t.trunk.sigQueue
  waits : b ∉ t.trunk.waiting
  rest : t.trunk = { s.trunk with sigQueue := t.trunk.sigQueue, waiting := t.trunk.waiting,
                                  hangupOwed := t.trunk.hangupOwed }

/-- The part is DRAINING and no context but booth b's is busy: the end of b's call ends the drain (R169). -/
def LastBusy (b : Booth) (s : State) : Prop := s.mgmt.service = .draining ∧ ∀ x, x ≠ b → (s.ctx x).state = .free

/-- A booth's line at the end of a drain: OUT OF ORDER joins the signals of an enabled booth that is IN SERVICE or
SUSPECT (R169). -/
def lineAtDrainEnd (enabled : Bool) (l : BoothLine) : BoothLine :=
  if enabled = true ∧ (l.health = .inService ∨ l.health = .suspect) then
    { l with signals := joinSignal .outOfOrder l.signals }
  else l

/-- The line of booth x at the end of a drain. -/
def drainedLine (s : State) (x : Booth) : BoothLine := lineAtDrainEnd (s.entry x).enabled (s.boothLine x)

/-- What the end of b's call does to the service state and to the other booths: a drain whose last busy context it frees
ends, with OUT OF ORDER queued to them; nothing else reaches their lines. Of their contexts a digit held for room may
have been forwarded (R147, R169). -/
structure OthersAfterEnd (b : Booth) (s t : State) : Prop where
  last : LastBusy b s → t.mgmt.service = .outOfService ∧ ∀ x, x ≠ b → t.boothLine x = drainedLine s x
  more : ¬LastBusy b s → t.mgmt.service = s.mgmt.service ∧ ∀ x, x ≠ b → t.boothLine x = s.boothLine x
  calls : ∀ x, x ≠ b →
    t.ctx x = { s.ctx x with held := (t.ctx x).held } ∧ t.debit x = s.debit x ∧ t.slot x = s.slot x

/-- The signal of an end before answer, by its cause (R11's table). -/
def endSignal : EndCause → Option Signal
  | .boothHungUp | .boothLost | .readerFault | .restart | .segmentReset => none
  | .link => some .outOfOrder
  | .timeLimit | .cardFault => none
  | cause => some (.callRefused (.ended cause))

/-- A booth's line with a signal posted to it, if there is one and the booth takes work (R135, R136). -/
def toldLine (sig : Option Signal) (l : BoothLine) : BoothLine :=
  match sig with
  | some x =>
    if l.health = .lost ∨ l.health = .disabled then l else { l with signals := joinSignal x l.signals }
  | none => l

/-- A booth's line when its call ends: a take-out mark is cleared, the booth TAKEN and told OUT OF ORDER (R11 step 9,
R17 step 5, R134). -/
def lineAtCallEnd (l : BoothLine) : BoothLine :=
  if l.mark = true then
    { l with health := .taken, mark := false, probeTimer := none, probeDue := false,
             signals := joinSignal .outOfOrder l.signals }
  else l

/-- The unanswered call of booth b, in s, has been ended before answer in t with this cause, by the steps of R11: the
cause recorded, its signal posted, the channel released with HANGUP owed unless the exchange cleared, the reservation
given back, the card list emptied with the slot left as it is, the context FREE and the end counted, a take-out mark
honoured, and a drain may end (R111, R148, R156, R169; that the mark is honoured before the drain ends: log 41). -/
structure EndedBeforeAnswer (b : Booth) (cause : EndCause) (s t : State) : Prop where
  ctx : t.ctx b = { Ctx.reset with hookOff := (s.ctx b).hookOff, endCause := some cause }
  ring : t.ring = { s.ring with reserved := s.ring.reserved - 1 }
  debit : t.debit b = { s.debit b with cards := [], uncertain := none }
  hangup : ChannelReleased b (cause ≠ .exchangeCleared) s t
  line : ¬LastBusy b s → t.boothLine b = lineAtCallEnd (toldLine (endSignal cause) (s.boothLine b))
  lastLine : LastBusy b s →
    t.boothLine b =
      lineAtDrainEnd (s.entry b).enabled (lineAtCallEnd (toldLine (endSignal cause) (s.boothLine b)))
  others : OthersAfterEnd b s t
  counted : (s.counters.get 0).length = 44 →
    t.counter (Ctr.preAnswer cause) = min 4294967295 (s.counter (Ctr.preAnswer cause) + 1)
  rest : t = { s with
    ctxs := t.ctxs, debits := t.debits, line := { s.line with booths := t.line.booths }, trunk := t.trunk,
    ring := t.ring, mgmt := { s.mgmt with service := t.mgmt.service }, counters := t.counters }
  settings : t.settings = s.settings

/-- A digit of booth b has been forwarded: queued on its channel when no digit is held and the queue has room, lost with
the link DOWN, held with the booth on the waiting list when it has to wait, and discarded when 20 are held (R5, R147,
R152). What it says is of the held digits and the Trunk Port alone. -/
structure Forwarded (b : Booth) (d : Digit) (s t : State) : Prop where
  queued : (s.ctx b).held = [] → s.trunk.linkUp = true → s.trunk.sigQueue.length < 64 →
    (t.ctx b).held = []
      ∧ t.trunk = { s.trunk with sigQueue := s.trunk.sigQueue ++ [.digit (s.entry b).channel d] }
  lost : (s.ctx b).held = [] → s.trunk.linkUp = false → (t.ctx b).held = [] ∧ t.trunk = s.trunk
  waits : ((s.ctx b).held ≠ [] ∨ (s.trunk.linkUp = true ∧ 64 ≤ s.trunk.sigQueue.length)) →
    (s.ctx b).held.length < 20 →
    (t.ctx b).held = (s.ctx b).held ++ [d]
      ∧ t.trunk =
          { s.trunk with
            waiting := if b ∈ s.trunk.waiting then s.trunk.waiting else s.trunk.waiting ++ [b] }
  full : 20 ≤ (s.ctx b).held.length → (t.ctx b).held = (s.ctx b).held ∧ t.trunk = s.trunk

/-- The ticket of booth b's call as its context and its debit record stand, with an end cause and a count of uncertain
cancels (R121, R158). -/
def ticketOf (b : Booth) (cause : Option EndCause) (uncertain : Nat) (s : State) : Ticket :=
  { sequence := s.ring.nextSeq, booth := b, channel := (s.entry b).channel, plan := (s.ctx b).plan,
    cls := (s.ctx b).cls, cardless := s.cardlessCall b, answer := (s.ctx b).answer,
    duration := (s.debit b).duration, digits := (s.ctx b).digits, truncated := (s.ctx b).truncated,
    charged := (s.debit b).charged,
    cards := (s.debit b).cards.map fun e =>
      { series := e.series, serial := e.serial, unitValue := e.unitValue, cancelled := e.cancelled,
        lastKnown := e.lastKnown },
    shortfall := min 4294967295 ((s.debit b).charged - (s.debit b).covered),
    unused := min 4294967295 ((s.debit b).covered - (s.debit b).charged),
    endCause := cause, debtSaturated := (s.debit b).debtSaturated, chargeSaturated := (s.debit b).chargeSaturated,
    uncertainCount := uncertain }

/-- The ring with one ticket written into its reserved slot (R157, R159). -/
def ticketWritten (tk : Ticket) (r : Ring) : Ring :=
  { r with tickets := r.tickets ++ [tk], reserved := r.reserved - 1, nextSeq := seqNext r.nextSeq }

/-- The call of booth b, whose settle is done in s, has been completed in t, by the steps of R17: its ticket is written,
EJECT is posted for a VALID card, HANGUP is owed unless the exchange cleared, the context is FREE with an empty card list
and no uncertain record, a take-out mark is honoured, and a drain may end (R17, R90, R111, R121, R134, R157, R169). -/
structure Completed (b : Booth) (s t : State) : Prop where
  ctx : t.ctx b = { Ctx.reset with hookOff := (s.ctx b).hookOff, endCause := (s.ctx b).endCause }
  ring : t.ring = ticketWritten (ticketOf b (s.ctx b).endCause (s.debit b).uncertainCount s) s.ring
  ringHigh : s.ring.highWater ≤ s.ring.tickets.length + 1 → t.mgmt.notices.waiting.getLsbD 1 = true
  debit : t.debit b = { s.debit b with cards := [], uncertain := none, stage := .settled }
  released : ∀ r v w l, s.slot b = .valid r v w l →
    t.slot b = .refused r .returned .eject
      ∧ (TakesWork b s → NoActionWaits b s → (t.boothLine b).cardAction = some .eject)
  slotElse : (∀ r v w l, s.slot b ≠ .valid r v w l) →
    t.slot b = s.slot b ∧ (t.boothLine b).cardAction = (s.boothLine b).cardAction
  hangup : ChannelReleased b ((s.ctx b).exchangeCleared = false) s t
  marked : (s.boothLine b).mark = true →
    (t.boothLine b).health = .taken ∧ (t.boothLine b).mark = false ∧ (t.boothLine b).probeTimer = none
      ∧ (t.boothLine b).signals = joinSignal .outOfOrder (s.boothLine b).signals
  unmarked : (s.boothLine b).mark = false →
    (t.boothLine b).health = (s.boothLine b).health ∧ (t.boothLine b).mark = false
      ∧ (LastBusy b s → (t.boothLine b).signals = (drainedLine s b).signals)
      ∧ (¬LastBusy b s → (t.boothLine b).signals = (s.boothLine b).signals)
  others : OthersAfterEnd b s t
  rest : t = { s with
    ctxs := t.ctxs, debits := t.debits, card := { s.card with slots := t.card.slots },
    line := { s.line with booths := t.line.booths }, trunk := t.trunk, ring := t.ring,
    mgmt := { s.mgmt with service := t.mgmt.service, notices := t.mgmt.notices }, counters := t.counters }
  settings : t.settings = s.settings

/-- The final test of R118 passes, with this entry as the current card's. -/
structure FinalTestPasses (b : Booth) (i : Nat) (e : CardEntry) (s : State) : Prop where
  debt : (s.debit b).p < 0
  left : (s.debit b).cardLeft = false
  card : s.currentCard b = some (i, e)
  units : e.lastKnown < e.face
  health : (s.boothLine b).health = .inService ∨ (s.boothLine b).health = .suspect

/-- The settle of a call in ENDING with no request outstanding: the final CANCEL when the final test passes, completion
when it does not (R118). -/
structure Settles (b : Booth) (s t : State) : Prop where
  asks : ∀ i e, FinalTestPasses b i e s →
    let n := min (min (ceilDiv (s.debit b).p.natAbs e.unitValue) (e.face - e.lastKnown)) 8
    t = bump Ctr.finalCancels (bump Ctr.cancelsPosted
      (modBoothLine b (fun l => { l with debitWork := some (.cancel n e.serial) })
        (modDebit b
          (fun d => { d with
            stage := .awaitingFinal
            outstanding := .cancel { entry := i, n := n, before := e.lastKnown, final := true } }) s)))
  completes : (∀ i e, ¬FinalTestPasses b i e s) → Completed b s t

/-- A request of a call in ENDING has been resolved, with its final mark: completion when it was set, the final test
when it was not (R119). -/
def SettlesOn (b : Booth) (final : Bool) (s t : State) : Prop := if final then Completed b s t else Settles b s t

/-! ## Units due, and counts -/

/-- The units-due check has run: a CANCEL for the current card of a call in SPEECH that owes units, exhaustion when the
card has none left, and nothing else in any other case (R75, R103, R114, R115). -/
structure UnitsChecked (b : Booth) (s t : State) : Prop where
  asks : (s.ctx b).state = .speech → (s.debit b).p < 0 → (s.debit b).outstanding = .none →
    ∀ i e, s.currentCard b = some (i, e) → e.lastKnown < e.face →
      let n := min (min (ceilDiv (s.debit b).p.natAbs e.unitValue) (e.face - e.lastKnown)) 8
      t.debit b =
          { s.debit b with outstanding := .cancel { entry := i, n := n, before := e.lastKnown, final := false } }
        ∧ ((s.boothLine b).health ≠ .lost → (s.boothLine b).health ≠ .disabled →
            (t.boothLine b).debitWork = some (.cancel n e.serial))
        ∧ t = { s with debits := t.debits, line := t.line, counters := t.counters }
        ∧ ∀ x, x ≠ b → t.debit x = s.debit x ∧ t.boothLine x = s.boothLine x
  exhausts : (s.ctx b).state = .speech → (s.debit b).p < 0 → (s.debit b).outstanding = .none →
    ∀ i e, s.currentCard b = some (i, e) → e.lastKnown = e.face →
      t.ctx b = swapped (s.ctx b) s.now s.mgmt.limits.swapWindow .credit
        ∧ (∀ r v w l, s.slot b = .valid r v w l → t.slot b = .refused r .exhausted .eject)
        ∧ (TakesWork b s →
            (t.boothLine b).signals = joinSignal .creditExhausted (s.boothLine b).signals
              ∧ (NoActionWaits b s → (t.boothLine b).cardAction = some .eject))
        ∧ t = { s with ctxs := t.ctxs, card := { s.card with slots := t.card.slots }, line := t.line,
                       counters := t.counters }
        ∧ ∀ x, x ≠ b → t.ctx x = s.ctx x ∧ t.slot x = s.slot x ∧ t.boothLine x = s.boothLine x
  rests : ((s.ctx b).state ≠ .speech ∨ 0 ≤ (s.debit b).p ∨ (s.debit b).outstanding ≠ .none
      ∨ s.currentCard b = none) → t = s

/-- The Fault Capture record has taken one report: a free record holds it and makes FAULT CAPTURED pending, a held one
keeps what it holds and counts it among the later faults (R177). -/
structure FaultTaken (r : FaultReport) (s t : State) : Prop where
  held : s.mgmt.faultHeld = none →
    t.mgmt.faultHeld = some r ∧ t.mgmt.laterFaults = s.mgmt.laterFaults
      ∧ t.mgmt.notices.waiting.getLsbD 0 = true
  later : s.mgmt.faultHeld ≠ none →
    t.mgmt = { s.mgmt with laterFaults := min 255 (s.mgmt.laterFaults + 1) }
  rest : t.mgmt = { s.mgmt with faultHeld := t.mgmt.faultHeld, laterFaults := t.mgmt.laterFaults,
                                notices := t.mgmt.notices }

/-- The report that a debit-side fault of this kind makes on the entry e (R105, R110). -/
def debitFault (kind : FaultKind) (b : Booth) (e : CardEntry) (s : State) : FaultReport :=
  { kind := kind, booth := b, plan := (s.ctx b).plan, digits := (s.ctx b).digits.take (s.ctx b).depth,
    card := some (e.series, e.serial), clock := s.tariff.clock }

/-- A count fault on the list entry e at place i: the request is cleared, the entry flagged and the fault reported (s1),
and a call in SPEECH or SWAP enters ENDING with cause CARD FAULT, while one in ENDING settles on (R105, R177). -/
def CountFault (b : Booth) (i : Nat) (e : CardEntry) (s t : State) : Prop :=
  ∃ s1 : State,
    s1.debit b =
        { s.debit b with
          outstanding := .none, cards := (s.debit b).cards.modify i fun x => { x with countFault := true } }
      ∧ s1 = { s with debits := s1.debits, mgmt := s1.mgmt, counters := s1.counters }
      ∧ (∀ x, x ≠ b → s1.debit x = s.debit x) ∧ s1.settings = s.settings
      ∧ FaultTaken (debitFault .cardCount b e s) s s1
      ∧ (((s.ctx b).state = .speech ∨ (s.ctx b).state = .swap) → Settles b (ending b .cardFault s1) t)
      ∧ ((s.ctx b).state = .ending →
          SettlesOn b (((s.debit b).outstanding.ask.map Ask.final).getD false) s1 t)

/-- A count of the list entry e at place i compared with its last known count: above it adopted without credit, below it
a count fault, equal no change (R112, its last three rows). -/
structure CountCompared (b : Booth) (i count : Nat) (e : CardEntry) (s t : State) : Prop where
  above : e.lastKnown < count →
    t.debit b = { s.debit b with cards := (t.debit b).cards }
      ∧ (∃ e', (t.debit b).cards[i]? = some e' ∧ e' = { e with lastKnown := count, warned := e'.warned })
      ∧ (∀ j, j ≠ i → (t.debit b).cards[j]? = (s.debit b).cards[j]?)
      ∧ t = { s with debits := t.debits, line := t.line, counters := t.counters }
      ∧ (∀ x, x ≠ b → t.debit x = s.debit x ∧ t.boothLine x = s.boothLine x)
      ∧ Shown True b i count e s t
  below : count < e.lastKnown → CountFault b i e s t
  equal : count = e.lastKnown → t = s

/-- A count of the list entry e at place i taken without a request (R112), late resolution among its cases (R111): an
entry with a request outstanding on it is left (the model's choice where the uncertain record names it too: log 37); a
record that names the entry is resolved when no request is outstanding, and dropped, with the count compared, when one
is outstanding on another entry; else the count is compared. Two readings of the model stand in it: a late resolution
makes no units-due check of its own (log 35), and a count fault found here clears a request outstanding on another entry
and settles by its final mark (log 14). -/
structure CountTaken (b : Booth) (i count : Nat) (e : CardEntry) (s t : State) : Prop where
  asked : ∀ a, (s.debit b).outstanding.ask = some a → a.entry = i → t = s
  resolved : ∀ u, (s.debit b).outstanding = .none → (s.debit b).uncertain = some u → u.entry = i →
    e.countFault = false →
    (u.before ≤ count → count ≤ u.before + u.n →
        Confirms b i (count - u.before) count e (modDebit b (fun d => { d with uncertain := none }) s) t
          ∧ Shown (1 ≤ count - u.before) b i count e s t)
      ∧ ((count < u.before ∨ u.before + u.n < count) →
          CountFault b i e (modDebit b (fun d => { d with uncertain := none }) s) t)
  dropped : ∀ u a, (s.debit b).outstanding.ask = some a → a.entry ≠ i → (s.debit b).uncertain = some u →
    u.entry = i → e.countFault = false →
    CountCompared b i count e
      (bump Ctr.uncertainFinals (modDebit b (fun d => { d with uncertain := none }) s)) t
  compared : (∀ a, (s.debit b).outstanding.ask = some a → a.entry ≠ i) →
    (∀ u, (s.debit b).uncertain = some u → u.entry ≠ i) → CountCompared b i count e s t

/-- A VALID card of the entry's identity has been released WRITE ERROR, with EJECT posted; any other slot is as it was
(R90, R106). -/
structure WriteErrorReleased (b : Booth) (e : CardEntry) (s t : State) : Prop where
  released : ∀ r v w l, s.slot b = .valid r v w l → r.series = e.series → r.serial = e.serial →
    t.slot b = .refused r .writeError .eject
      ∧ (TakesWork b s → NoActionWaits b s → (t.boothLine b).cardAction = some .eject)
  kept : ¬CardInSlot b e s → t.slot b = s.slot b ∧ t.boothLine b = s.boothLine b
  signals : (t.boothLine b).signals = (s.boothLine b).signals
  frame : ∀ x, x ≠ b → t.slot x = s.slot x ∧ t.boothLine x = s.boothLine x
  rest : t = { s with card := { s.card with slots := t.card.slots }, line := { s.line with booths := t.line.booths },
                      counters := t.counters }

/-- The outstanding request a, on the entry e, has become uncertain, and the fault is reported (R110, case (a)). -/
structure MadeUncertain (b : Booth) (a : Ask) (e : CardEntry) (s t : State) : Prop where
  debit : t.debit b =
    { s.debit b with
      outstanding := .none, uncertainCount := min 255 ((s.debit b).uncertainCount + 1)
      uncertain := some { entry := a.entry, before := a.before, n := a.n } }
  fault : FaultTaken (debitFault .uncertainCancel b e s) s t
  frame : ∀ x, x ≠ b → t.debit x = s.debit x
  rest : t = { s with debits := t.debits, mgmt := t.mgmt, counters := t.counters }

/-- The call goes on after an outcome that says its card is not there: SPEECH enters SWAP with cause CARD REMOVED; ENDING
has its card-left mark set and settles on by the request's final mark (R107, R109, R119). -/
structure GoesOnCardless (b : Booth) (final : Bool) (s t : State) : Prop where
  speech : (s.ctx b).state = .speech →
    t = bump Ctr.swapEntries (modCtx b (fun c => swapped c s.now s.mgmt.limits.swapWindow .cardRemoved) s)
  ending : (s.ctx b).state = .ending → SettlesOn b final (modDebit b (fun d => { d with cardLeft := true }) s) t
  rests : (s.ctx b).state ≠ .speech → (s.ctx b).state ≠ .ending → t = s

/-- Booth b's call, if it has one, has been ended because the booth left service, its hook state is ON and its slot is
empty: an unanswered call before answer, an answered one with its ticket at once, its settle cut short and a request of
it uncertain (R11, R17, R20, R91, R120; that this holds for READER as for LOST: log 9). -/
structure EndedForHealth (b : Booth) (cause : EndCause) (s t : State) : Prop where
  slot : t.slot b = .empty
  free : (s.ctx b).state = .free →
    t.ctx b = { s.ctx b with hookOff := false } ∧ t.trunk = s.trunk ∧ t.ring = s.ring
      ∧ t.mgmt.service = s.mgmt.service
      ∧ ∀ x, x ≠ b → t.ctx x = s.ctx x ∧ t.debit x = s.debit x ∧ t.slot x = s.slot x ∧ t.boothLine x = s.boothLine x
  unanswered : (s.ctx b).state.preAnswer = true →
    t.ctx b = { Ctx.reset with endCause := some cause } ∧ t.ring = { s.ring with reserved := s.ring.reserved - 1 }
      ∧ (t.debit b).cards = [] ∧ (t.debit b).uncertain = none ∧ ChannelReleased b True s t
  answered : ((s.ctx b).state = .speech ∨ (s.ctx b).state = .swap ∨ (s.ctx b).state = .ending) →
    let recorded := if (s.ctx b).state = .ending then (s.ctx b).endCause else some cause
    let uncertain :=
      if (s.debit b).outstanding = .none then (s.debit b).uncertainCount
      else min 255 ((s.debit b).uncertainCount + 1)
    t.ctx b = { Ctx.reset with endCause := recorded }
      ∧ t.ring = ticketWritten (ticketOf b recorded uncertain s) s.ring
      ∧ (t.debit b).cards = [] ∧ (t.debit b).outstanding = .none ∧ (t.debit b).uncertain = none
      ∧ (t.debit b).uncertainCount = uncertain ∧ (t.debit b).stage = .settled
      ∧ ChannelReleased b ((s.ctx b).exchangeCleared = false) s t
  charges : (t.debit b).p = (s.debit b).p ∧ (t.debit b).charged = (s.debit b).charged
    ∧ (t.debit b).covered = (s.debit b).covered
  others : (s.ctx b).state ≠ .free → OthersAfterEnd b s t
  settings : t.settings = s.settings

/-- A booth that leaves service for health: its line as given, or, when it carries a take-out mark and has a call, TAKEN
with the mark cleared and OUT OF ORDER queued (R17, R132, R134); its call ended; its fault held, or the one already held
kept, and counted alone when no request of the call became uncertain with it; BOOTH OUT pending. -/
structure LeavesService (b : Booth) (cause : EndCause) (fault : FaultReport) (line : BoothLine) (s t : State) : Prop where
  unmarked : ((s.boothLine b).mark = false ∨ (s.ctx b).state = .free) → t.boothLine b = line
  marked : (s.boothLine b).mark = true → (s.ctx b).state ≠ .free →
    t.boothLine b = { line with health := .taken, mark := false, probeTimer := none, signals := [.outOfOrder] }
  call : EndedForHealth b cause s t
  held : t.mgmt.faultHeld = some (s.mgmt.faultHeld.getD fault)
  later : (s.debit b).outstanding = .none → s.mgmt.faultHeld ≠ none →
    t.mgmt.laterFaults = min 255 (s.mgmt.laterFaults + 1)
  boothOut : t.mgmt.notices.waiting.getLsbD 3 = true

/-- The line of a booth whose pending work has been cleared (R135). -/
def clearedLine (l : BoothLine) : BoothLine :=
  { l with debitWork := none, statusDue := false, cardAction := none, cardNext := none, signals := [] }

/-- A READER FAULT has been taken (R91, R134): the booth leaves service as READER, with its work cleared and OUT OF ORDER
queued; of a booth that is READER already only the fault is taken (log 34). -/
structure ReaderFaultTaken (b : Booth) (s t : State) : Prop where
  enters : (s.boothLine b).health ≠ .reader →
    LeavesService b .readerFault
      { kind := .readerFault, booth := b, plan := (s.entry b).plan, digits := [], card := (s.slot b).identity,
        clock := s.tariff.clock }
      { clearedLine (s.boothLine b) with
        health := .reader, probeTimer := none, probeDue := false, signals := [.outOfOrder] } s t
  again : (s.boothLine b).health = .reader →
    FaultTaken
        { kind := .readerFault, booth := b, plan := (s.entry b).plan, digits := [], card := (s.slot b).identity,
          clock := s.tariff.clock } s t
      ∧ t = { s with mgmt := t.mgmt, counters := t.counters }

/-- Place i of the call's card list is the first whose entry, e, has this identity. -/
def Listed (b : Booth) (series : BitVec 16) (serial : BitVec 32) (i : Nat) (e : CardEntry) (s : State) : Prop :=
  (s.debit b).cards[i]? = some e ∧ e.series = series ∧ e.serial = serial
    ∧ ∀ j < i, ∀ e', (s.debit b).cards[j]? = some e' → ¬(e'.series = series ∧ e'.serial = serial)

/-- No entry of the call's card list has this identity. -/
def Unlisted (b : Booth) (series : BitVec 16) (serial : BitVec 32) (s : State) : Prop :=
  ∀ e ∈ (s.debit b).cards, ¬(e.series = series ∧ e.serial = serial)

/-- The record is one a good card can hold (R84 check 2 passes). -/
def SoundRecord (r : CardRecord) : Prop :=
  r.face ≠ 0 ∧ r.cancelled.toNat ≤ r.face.toNat ∧ 1 ≤ r.expiryMonth.toNat ∧ r.expiryMonth.toNat ≤ 12

/-- The card's expiry is not earlier than the clock's year and month (R84 check 5 passes). -/
def InDate (r : CardRecord) (c : Clock) : Prop :=
  c.year < 2000 + r.expiryYear.toNat ∨ (c.year = 2000 + r.expiryYear.toNat ∧ c.month ≤ r.expiryMonth.toNat)

/-- Record k of the Series Table is the first with this code that is ACTIVE or WITHDRAWN (R92). -/
def SeriesAt (k : Fin 32) (code : BitVec 16) (s : State) : Prop :=
  (s.card.series.get k).code = code ∧ (s.card.series.get k).state ≠ .unused
    ∧ ∀ j : Fin 32, j < k → (s.card.series.get j).code = code → (s.card.series.get j).state = .unused

/-- A card that passes the seven checks, with its series' unit value and warn threshold (R83, R84). -/
def Acceptable (r : CardRecord) (unitValue warn : Nat) (s : State) : Prop :=
  s.mgmt.service ≠ .outOfService ∧ r.check = crc16 r.body ∧ SoundRecord r ∧ InDate r s.tariff.clock
    ∧ r.cancelled.toNat < r.face.toNat
    ∧ (∃ k, SeriesAt k r.series s ∧ (s.card.series.get k).state = .active
        ∧ (s.card.series.get k).unitValue = unitValue ∧ (s.card.series.get k).warn = warn)
    ∧ ∀ x ∈ s.card.stop.chain (bucketOf r.series r.serial), ¬(x.series = r.series ∧ x.serial = r.serial)

/-- The call's class is not CARDLESS. -/
def NeedsCard (b : Booth) (s : State) : Prop := ∀ p, (s.ctx b).snap = some p → p.cardless = false

/-- The batch of a POLL was taken: the expected bit flips before the events are handed on (R131). -/
def batchTaken (g : Segment) (b : Booth) (more : Bool) (s : State) : State :=
  modBoothLine b (fun l => { l with expectBit := !l.expectBit })
    (closedGood g b (if more then some b else none) s)

end Sys2Proof.Machine

section Commands

open Sys2Proof Sys2Proof.Machine

/-! ## The host's step -/

/-- Step takes the command at the front of the queue with the queue's rest; on an empty queue one hundredth of a
second passes and nothing else (the model's choice: log 3). -/
def Obligations.StepRunsTheFrontCommand : Prop :=
  (∀ (c : Instr) (rest : List Instr) (s : State),
      s.pending = c :: rest → step s = exec c { s with pending := rest })
    ∧ ∀ s : State, s.pending = [] → step s = .next { s with now := s.now + 40 }

/-- Every command answers a next state and leaves the model's own queue as it was. -/
def Obligations.EveryCommandAnswersNext : Prop :=
  ∀ (c : Instr) (s : State), ∃ t, exec c s = .next t ∧ t.pending = s.pending

/-- POWER_ON gives every block its power-on values (R22 and the reset rule of every chapter). (That the model's own queue
of commands is kept: log 31.) -/
def Obligations.PowerOnValues : Prop :=
  (∀ s : State, exec .powerOn s = .next { State.reset with pending := s.pending })
    ∧ (∀ b, State.reset.ctx b =
        { state := .free, hookOff := false, plan := 0, node := 0, depth := 0, walk := .walking, cls := none,
          snap := none, digits := [], truncated := false, held := [], digitWait := none, cardWait := none,
          swapWindow := none, answer := none, exchangeCleared := false, endCause := none })
    ∧ (∀ b, State.reset.debit b =
        { p := 0, charged := 0, duration := 0, t := none, nextTick := none, debtSaturated := false,
          debtReported := false, chargeSaturated := false, cards := [], outstanding := .none, uncertain := none,
          uncertainCount := 0, covered := 0, stage := .none, cardLeft := false })
    ∧ (∀ b, State.reset.slot b = .empty)
    ∧ (∀ b, State.reset.entry b = { segment := .west, drop := 1, channel := 0, plan := 0, enabled := false })
    ∧ (∀ b, State.reset.boothLine b =
        { health := .disabled, mark := false, misses := 0, expectBit := false, firstStatus := false,
          probeTimer := none, probeDue := false, debitWork := none, statusDue := false, cardAction := none,
          cardNext := none, signals := [] })
    ∧ (∀ n d, State.reset.route.treeEntry n d = .empty)
    ∧ (∀ p : Fin 8, (State.reset.route.plans.get p).root = 0 ∧ (State.reset.route.plans.get p).tag.val = p.val
        ∧ (State.reset.route.plans.get p).enabled = false)
    ∧ State.reset.route.cache = []
    ∧ (∀ k, State.reset.tariff.classRecord k =
        { defined := false, setup := 0, base := 0, profile := 0, cardless := false })
    ∧ (∀ (p : Fin 4) (b : Fin 6), (State.reset.tariff.profiles.get p).get b = 16384#16)
    ∧ (∀ d : Fin 4, State.reset.tariff.bands.get d = [])
    ∧ (∀ k : Fin 32, State.reset.tariff.holidays.get k = none)
    ∧ State.reset.tariff.clock =
        { year := 2000, month := 1, day := 1, weekday := 5, hour := 0, minute := 0, second := 0, valid := false }
    ∧ (∀ k : Fin 32, State.reset.card.series.get k =
        { code := 0#16, state := .unused, unitValue := 100, warn := 0 })
    ∧ (∀ k, State.reset.card.stop.chain k = []) ∧ State.reset.card.stop.free = 4096
    ∧ (∀ g, State.reset.seg g =
        { nextTag := 0, transaction := none, hold := none, replyCode := 6, writeCode := 11, lastDrop := 0, burst := 0,
          followOn := none })
    ∧ State.reset.trunk.linkUp = false ∧ State.reset.trunk.silence = none ∧ State.reset.trunk.syncDue = false
    ∧ State.reset.trunk.syncNext = 2000 ∧ State.reset.trunk.sigQueue = [] ∧ State.reset.trunk.waiting = []
    ∧ (∀ ch : Channel, State.reset.trunk.hangupOwed.get ch = false) ∧ State.reset.trunk.replyQueue = []
    ∧ State.reset.trunk.tx = none
    ∧ State.reset.ring = { tickets := [], head := 0, reserved := 0, nextSeq := 1, highWater := 448 }
    ∧ State.reset.mgmt.cmdQueue = []
    ∧ (∀ g : Group, g ≠ .access → State.reset.mgmt.access.get g.index = 65535#16)
    ∧ State.reset.mgmt.access.get Group.access.index = 1#16
    ∧ State.reset.mgmt.service = .outOfService
    ∧ State.reset.mgmt.limits = { digitWait := 20, cardWait := 15, swapWindow := 10, maxCall := 0, probe := 10 }
    ∧ State.reset.mgmt.faultHeld = none ∧ State.reset.mgmt.laterFaults = 0
    ∧ State.reset.mgmt.notices = { waiting := 0, mask := 0, throttle := 5, hold := none, due := false }
    ∧ ∀ c : CounterId, State.reset.counter c = 0

/-! ## The intake of commands (R165, R166) -/

/-- The checks of the intake, for every command of the table and for a code that stands in none. -/
def Obligations.IntakeChecksComeFirst : Prop :=
  (∀ (o t code : Byte) (args : List Byte) (rest : List Cmd) (s : State),
      s.mgmt.cmdQueue = ⟨o, t, code, args⟩ :: rest → 16 ≤ s.trunk.replyQueue.length →
      exec (takeOf ⟨o, t, code, args⟩) s = .next (bump Ctr.discardedForReply (popped rest s)))
    ∧ (∀ (o t code : Byte) (args : List Byte) (rest : List Cmd) (s : State),
      s.mgmt.cmdQueue = ⟨o, t, code, args⟩ :: rest → s.trunk.replyQueue.length < 16 → knownCode code = false →
      exec (.unknownCommandCode o t code args) s =
        .next (refusal ⟨o, t, code, args⟩ .range (bump Ctr.malformedCommands (popped rest s))))
    ∧ (∀ (o t code : Byte) (args : List Byte) (g : Group) (rest : List Cmd) (s : State),
      s.mgmt.cmdQueue = ⟨o, t, code, args⟩ :: rest → s.trunk.replyQueue.length < 16 → groupOfCode code = some g →
      (15 < o.toNat ∨ (s.mgmt.access.get g.index).getLsbD o.toNat = false) →
      exec (takeOf ⟨o, t, code, args⟩) s =
        .next (refusal ⟨o, t, code, args⟩ .access (bump Ctr.accessRefusals (popped rest s))))
    ∧ (∀ (o t code : Byte) (args : List Byte) (g : Group) (n : Nat) (rest : List Cmd) (s : State),
      CanTake g ⟨o, t, code, args⟩ rest s → groupOfCode code = some g → lengthOfCode code = some n →
      args.length ≠ n →
      exec (takeOf ⟨o, t, code, args⟩) s =
        .next (refusal ⟨o, t, code, args⟩ .range (bump Ctr.malformedCommands (popped rest s))))
    ∧ (∀ (o t n d : Byte) (args : List Byte) (rest : List Cmd) (s : State),
      CanTake .tariff ⟨o, t, 0x14#8, d :: n :: args⟩ rest s → args.length ≠ 3 * n.toNat →
      exec (.bandWrite o t (d :: n :: args)) s =
        .next (refusal ⟨o, t, 0x14#8, d :: n :: args⟩ .range (bump Ctr.malformedCommands (popped rest s))))
    ∧ (∀ (o t : Byte) (args : List Byte) (rest : List Cmd) (s : State),
      CanTake .tariff ⟨o, t, 0x14#8, args⟩ rest s → args.length < 2 →
      exec (.bandWrite o t args) s =
        .next (refusal ⟨o, t, 0x14#8, args⟩ .range (bump Ctr.malformedCommands (popped rest s))))
    ∧ ∀ (o t code : Byte) (args : List Byte) (s : State),
      s.mgmt.cmdQueue.head? ≠ some ⟨o, t, code, args⟩ → exec (takeOf ⟨o, t, code, args⟩) s = .next s

/-! ## The Route Unit's tables (R26 to R29, R49, R50) -/

/-- TREE WRITE replaces one entry; TREE READ replies a node's ten entries. -/
def Obligations.TreeWriteAndRead : Prop :=
  (∀ (o t n1 n0 d kind x1 x0 c1 c0 common : Byte) (rest : List Cmd) (s : State),
      let args := [n1, n0, d, kind, x1, x0, c1, c0, common]
      CanTake .tariff ⟨o, t, 0x10#8, args⟩ rest s →
      (∀ e, num2 n1 n0 < 1024 → d.toNat < 10 → NamesEntry kind x1 x0 c1 c0 common e →
        ∃ tree,
          exec (.treeWrite o t args) s =
              .next (doneWith ⟨o, t, 0x10#8, args⟩ .none (bump Ctr.treeWrites
                { popped rest s with route := { s.route with tree := tree } }))
            ∧ ∀ (n : Fin 1024) (x : Digit), x.val < 10 →
                ({ s.route with tree := tree } : Route).treeEntry n x =
                  if n.val = num2 n1 n0 ∧ x.val = d.toNat then e else s.route.treeEntry n x)
      ∧ ((1024 ≤ num2 n1 n0 ∨ 10 ≤ d.toNat ∨ ∀ e, ¬NamesEntry kind x1 x0 c1 c0 common e) →
          exec (.treeWrite o t args) s = .next (refusal ⟨o, t, 0x10#8, args⟩ .range (popped rest s))))
    ∧ ∀ (o t n1 n0 : Byte) (rest : List Cmd) (s : State), CanTake .read ⟨o, t, 0x70#8, [n1, n0]⟩ rest s →
      (∀ h : num2 n1 n0 < 1024,
        exec (.treeRead o t [n1, n0]) s =
          .next (doneWith ⟨o, t, 0x70#8, [n1, n0]⟩
            (.tree ((List.finRange 10).map fun x => s.route.treeEntry ⟨num2 n1 n0, h⟩ ⟨x.val, by omega⟩))
            (popped rest s)))
      ∧ (1024 ≤ num2 n1 n0 →
          exec (.treeRead o t [n1, n0]) s = .next (refusal ⟨o, t, 0x70#8, [n1, n0]⟩ .range (popped rest s)))

/-- PLAN WRITE replaces one plan record whole; PLAN READ replies it. -/
def Obligations.PlanWriteAndRead : Prop :=
  (∀ (o t p r1 r0 tag st : Byte) (rest : List Cmd) (s : State),
      let args := [p, r1, r0, tag, st]
      CanTake .tariff ⟨o, t, 0x11#8, args⟩ rest s →
      (∀ (hp : p.toNat < 8) (hr : num2 r1 r0 < 1024) (ht : tag.toNat < 64), st.toNat ≤ 1 →
        exec (.planWrite o t args) s =
          .next (doneWith ⟨o, t, 0x11#8, args⟩ .none (bump Ctr.planWrites
            { popped rest s with
              route :=
                { s.route with
                  plans := s.route.plans.set p.toNat
                    { root := ⟨num2 r1 r0, hr⟩, tag := ⟨tag.toNat, ht⟩, enabled := decide (st = 1#8) } hp } })))
      ∧ ((8 ≤ p.toNat ∨ 1024 ≤ num2 r1 r0 ∨ 64 ≤ tag.toNat ∨ 2 ≤ st.toNat) →
          exec (.planWrite o t args) s = .next (refusal ⟨o, t, 0x11#8, args⟩ .range (popped rest s))))
    ∧ ∀ (o t p : Byte) (rest : List Cmd) (s : State), CanTake .read ⟨o, t, 0x71#8, [p]⟩ rest s →
      (∀ hp : p.toNat < 8,
        exec (.planRead o t [p]) s =
          .next (doneWith ⟨o, t, 0x71#8, [p]⟩ (.plan (s.route.plans.get ⟨p.toNat, hp⟩)) (popped rest s)))
      ∧ (8 ≤ p.toNat → exec (.planRead o t [p]) s = .next (refusal ⟨o, t, 0x71#8, [p]⟩ .range (popped rest s)))

/-- CACHE FENCE invalidates exactly the entries its tag and prefix select and replies their number. -/
def Obligations.CacheFenceInvalidates : Prop :=
  ∀ (o t present tag n : Byte) (ds : List Byte) (rest : List Cmd) (s : State),
    let args := present :: tag :: n :: ds
    ds.length = 8 → CanTake .tariff ⟨o, t, 0x16#8, args⟩ rest s →
    (∀ pfx : List Digit, n.toNat ≤ 8 → (ds.take n.toNat).map BitVec.toNat = pfx.map Fin.val →
      (∀ d ∈ pfx, d.val < 10) → present.toNat ≤ 1 → (present = 1#8 → tag.toNat < 64) →
      ∀ selected : CacheEntry → Bool,
        (∀ e, selected e = true ↔ pfx <+: e.digits
          ∧ (present = 1#8 → ∃ h : tag.toNat < 64, e.scope = .tag ⟨tag.toNat, h⟩)) →
        exec (.cacheFence o t args) s =
          .next (doneWith ⟨o, t, 0x16#8, args⟩ (.fenced (s.route.cache.countP selected)) (bump Ctr.cacheFences
            { popped rest s with
              route := { s.route with cache := s.route.cache.filter fun e => !selected e } })))
    ∧ ((8 < n.toNat ∨ (present = 1#8 ∧ 64 ≤ tag.toNat) ∨ 2 ≤ present.toNat ∨ ∃ d ∈ ds.take n.toNat, 10 ≤ d.toNat) →
        exec (.cacheFence o t args) s = .next (refusal ⟨o, t, 0x16#8, args⟩ .range (popped rest s)))

/-! ## The Tariff Unit's tables (R56 to R61) -/

/-- CLASS WRITE replaces one class record whole; CLASS READ replies it. -/
def Obligations.ClassWriteAndRead : Prop :=
  (∀ (o t c1 c0 st s3 s2 s1 s0 b3 b2 b1 b0 p f : Byte) (rest : List Cmd) (s : State),
      let args := [c1, c0, st, s3, s2, s1, s0, b3, b2, b1, b0, p, f]
      CanTake .tariff ⟨o, t, 0x12#8, args⟩ rest s →
      (∀ (_ : num2 c1 c0 < 256) (hp : p.toNat < 4), st.toNat ≤ 1 → num4 s3 s2 s1 s0 ≤ 4000000 →
        num4 b3 b2 b1 b0 ≤ 65535 → f.toNat ≤ 1 →
        ∃ classes,
          exec (.classWrite o t args) s =
              .next (doneWith ⟨o, t, 0x12#8, args⟩ .none (bump Ctr.classWrites
                { popped rest s with tariff := { s.tariff with classes := classes } }))
            ∧ ∀ k : Fin 256,
                ({ s.tariff with classes := classes } : Tariff).classRecord k =
                  if k.val = num2 c1 c0 then
                    { defined := decide (st = 1#8), setup := num4 s3 s2 s1 s0, base := num4 b3 b2 b1 b0,
                      profile := ⟨p.toNat, hp⟩, cardless := decide (f = 1#8) }
                  else s.tariff.classRecord k)
      ∧ ((256 ≤ num2 c1 c0 ∨ 2 ≤ st.toNat ∨ 4000000 < num4 s3 s2 s1 s0 ∨ 65535 < num4 b3 b2 b1 b0 ∨ 4 ≤ p.toNat
            ∨ 2 ≤ f.toNat) →
          exec (.classWrite o t args) s = .next (refusal ⟨o, t, 0x12#8, args⟩ .range (popped rest s))))
    ∧ ∀ (o t c1 c0 : Byte) (rest : List Cmd) (s : State), CanTake .read ⟨o, t, 0x72#8, [c1, c0]⟩ rest s →
      (∀ h : num2 c1 c0 < 256,
        exec (.classRead o t [c1, c0]) s =
          .next (doneWith ⟨o, t, 0x72#8, [c1, c0]⟩ (.cls (s.tariff.classRecord ⟨num2 c1 c0, h⟩)) (popped rest s)))
      ∧ (256 ≤ num2 c1 c0 →
          exec (.classRead o t [c1, c0]) s = .next (refusal ⟨o, t, 0x72#8, [c1, c0]⟩ .range (popped rest s)))

/-- PROFILE WRITE, BAND WRITE and HOLIDAY WRITE replace one profile, one boundary list, one slot. -/
def Obligations.ProfileBandHolidayWrites : Prop :=
  (∀ (o t p a1 a0 b1 b0 c1 c0 d1 d0 e1 e0 f1 f0 : Byte) (rest : List Cmd) (s : State),
      let args := [p, a1, a0, b1, b0, c1, c0, d1, d0, e1, e0, f1, f0]
      CanTake .tariff ⟨o, t, 0x13#8, args⟩ rest s →
      (∀ hp : p.toNat < 4,
        exec (.profileWrite o t args) s =
          .next (doneWith ⟨o, t, 0x13#8, args⟩ .none (bump Ctr.profileWrites
            { popped rest s with
              tariff :=
                { s.tariff with
                  profiles := s.tariff.profiles.set p.toNat
                    #v[BitVec.ofNat 16 (num2 a1 a0), BitVec.ofNat 16 (num2 b1 b0), BitVec.ofNat 16 (num2 c1 c0),
                       BitVec.ofNat 16 (num2 d1 d0), BitVec.ofNat 16 (num2 e1 e0), BitVec.ofNat 16 (num2 f1 f0)]
                    hp } })))
      ∧ (4 ≤ p.toNat →
          exec (.profileWrite o t args) s = .next (refusal ⟨o, t, 0x13#8, args⟩ .range (popped rest s))))
    ∧ (∀ (o t d : Byte) (l : List Boundary) (rest : List Cmd) (s : State),
        let args := d :: byte l.length :: boundaryBytes l
        CanTake .tariff ⟨o, t, 0x14#8, args⟩ rest s → l.length ≤ 6 → (∀ x ∈ l, x.minute < 65536) →
        (∀ hd : d.toNat < 4, (∀ x ∈ l, x.minute ≤ 1439) → (l.map Boundary.minute).Pairwise (· < ·) →
          exec (.bandWrite o t args) s =
            .next (doneWith ⟨o, t, 0x14#8, args⟩ .none (bump Ctr.bandWrites
              { popped rest s with tariff := { s.tariff with bands := s.tariff.bands.set d.toNat l hd } })))
        ∧ ((4 ≤ d.toNat ∨ (∃ x ∈ l, 1439 < x.minute) ∨ ¬(l.map Boundary.minute).Pairwise (· < ·)) →
            exec (.bandWrite o t args) s = .next (refusal ⟨o, t, 0x14#8, args⟩ .range (popped rest s))))
    ∧ (∀ (o t d : Byte) (l : List (Nat × Nat)) (rest : List Cmd) (s : State),
        let args := d :: byte l.length :: pairBytes l
        CanTake .tariff ⟨o, t, 0x14#8, args⟩ rest s → l.length < 256 → (∀ x ∈ l, x.1 < 65536 ∧ x.2 < 256) →
        (6 < l.length ∨ ∃ x ∈ l, 5 < x.2) →
        exec (.bandWrite o t args) s = .next (refusal ⟨o, t, 0x14#8, args⟩ .range (popped rest s)))
    ∧ ∀ (o t k present y1 y0 m d : Byte) (rest : List Cmd) (s : State),
      let args := [k, present, y1, y0, m, d]
      CanTake .tariff ⟨o, t, 0x15#8, args⟩ rest s →
      (∀ (hk : k.toNat < 32), present = 1#8 → 2000 ≤ num2 y1 y0 → num2 y1 y0 ≤ 2099 → 1 ≤ m.toNat → m.toNat ≤ 12 →
        1 ≤ d.toNat → d.toNat ≤ daysInMonth (num2 y1 y0) m.toNat →
        exec (.holidayWrite o t args) s =
          .next (doneWith ⟨o, t, 0x15#8, args⟩ .none (bump Ctr.holidayWrites
            { popped rest s with
              tariff :=
                { s.tariff with
                  holidays := s.tariff.holidays.set k.toNat
                    (some { year := num2 y1 y0, month := m.toNat, day := d.toNat }) hk } })))
      ∧ (∀ (hk : k.toNat < 32), present = 0#8 →
          exec (.holidayWrite o t args) s =
            .next (doneWith ⟨o, t, 0x15#8, args⟩ .none (bump Ctr.holidayWrites
              { popped rest s with
                tariff := { s.tariff with holidays := s.tariff.holidays.set k.toNat none hk } })))
      ∧ ((32 ≤ k.toNat ∨ 2 ≤ present.toNat
            ∨ (present = 1#8 ∧ (num2 y1 y0 < 2000 ∨ 2099 < num2 y1 y0 ∨ m.toNat = 0 ∨ 12 < m.toNat ∨ d.toNat = 0
                ∨ daysInMonth (num2 y1 y0) m.toNat < d.toNat))) →
          exec (.holidayWrite o t args) s = .next (refusal ⟨o, t, 0x15#8, args⟩ .range (popped rest s)))

/-- CLOCK SET replaces the clock, restarts its second (its fraction, kept as the instant of the last second: log 4) and
evaluates the band of every answered call. -/
def Obligations.ClockSetAndEvaluates : Prop :=
  ∀ (o t y1 y0 m d w h mi sec : Byte) (rest : List Cmd) (s : State),
    let args := [y1, y0, m, d, w, h, mi, sec]
    CanTake .service ⟨o, t, 0x53#8, args⟩ rest s →
    (∀ hw : w.toNat - 1 < 7, 2000 ≤ num2 y1 y0 → num2 y1 y0 ≤ 2099 → 1 ≤ m.toNat → m.toNat ≤ 12 → 1 ≤ d.toNat →
      d.toNat ≤ daysInMonth (num2 y1 y0) m.toNat → 1 ≤ w.toNat → h.toNat ≤ 23 → mi.toNat ≤ 59 → sec.toNat ≤ 59 →
      let tariff' : Tariff :=
        { s.tariff with
          clock :=
            { year := num2 y1 y0, month := m.toNat, day := d.toNat, weekday := ⟨w.toNat - 1, hw⟩, hour := h.toNat,
              minute := mi.toNat, second := sec.toNat, valid := true }
          secondInstant := s.now }
      ∃ u, exec (.clockSet o t args) s = .next (doneWith ⟨o, t, 0x53#8, args⟩ .none u)
        ∧ u.tariff = tariff' ∧ u.hundredths = 0
        ∧ (∀ b, u.debit b =
            if (s.ctx b).state = .speech ∨ (s.ctx b).state = .swap then
              match (s.ctx b).snap with
              | some p => { s.debit b with t := some (tariff'.charge p) }
              | none => s.debit b
            else s.debit b)
        ∧ u = { popped rest s with tariff := u.tariff, debits := u.debits, counters := u.counters })
    ∧ ((num2 y1 y0 < 2000 ∨ 2099 < num2 y1 y0 ∨ m.toNat = 0 ∨ 12 < m.toNat ∨ d.toNat = 0
          ∨ daysInMonth (num2 y1 y0) m.toNat < d.toNat ∨ w.toNat = 0 ∨ 7 < w.toNat ∨ 23 < h.toNat ∨ 59 < mi.toNat
          ∨ 59 < sec.toNat) →
        exec (.clockSet o t args) s = .next (refusal ⟨o, t, 0x53#8, args⟩ .range (popped rest s)))

/-! ## Series Table and Stop List (R93 to R97) -/

/-- SERIES WRITE replaces one record unless another holds its code; SERIES READ replies a record. -/
def Obligations.SeriesWriteAndRead : Prop :=
  (∀ (o t k c1 c0 st v3 v2 v1 v0 w : Byte) (rest : List Cmd) (s : State),
      let args := [k, c1, c0, st, v3, v2, v1, v0, w]
      CanTake .cards ⟨o, t, 0x20#8, args⟩ rest s →
      (∀ (hk : k.toNat < 32) (state : SeriesState), state.code = st.toNat → 100 ≤ num4 v3 v2 v1 v0 →
        num4 v3 v2 v1 v0 ≤ 4000000 → w.toNat ≤ 15 →
        ((state ≠ .unused ∧ ∃ j : Fin 32, j.val ≠ k.toNat ∧ (s.card.series.get j).code = seriesOf c1 c0
              ∧ (s.card.series.get j).state ≠ .unused) →
          exec (.seriesWrite o t args) s = .next (refusal ⟨o, t, 0x20#8, args⟩ .conflict (popped rest s)))
        ∧ ((state = .unused ∨ ∀ j : Fin 32, j.val ≠ k.toNat → (s.card.series.get j).code = seriesOf c1 c0 →
              (s.card.series.get j).state = .unused) →
          exec (.seriesWrite o t args) s =
            .next (doneWith ⟨o, t, 0x20#8, args⟩ .none (bump Ctr.seriesWrites
              { popped rest s with
                card :=
                  { s.card with
                    series := s.card.series.set k.toNat
                      { code := seriesOf c1 c0, state := state, unitValue := num4 v3 v2 v1 v0, warn := w.toNat }
                      hk } }))))
      ∧ ((32 ≤ k.toNat ∨ 3 ≤ st.toNat ∨ num4 v3 v2 v1 v0 < 100 ∨ 4000000 < num4 v3 v2 v1 v0 ∨ 15 < w.toNat) →
          exec (.seriesWrite o t args) s = .next (refusal ⟨o, t, 0x20#8, args⟩ .range (popped rest s))))
    ∧ ∀ (o t k : Byte) (rest : List Cmd) (s : State), CanTake .read ⟨o, t, 0x73#8, [k]⟩ rest s →
      (∀ hk : k.toNat < 32,
        exec (.seriesRead o t [k]) s =
          .next (doneWith ⟨o, t, 0x73#8, [k]⟩ (.series (s.card.series.get ⟨k.toNat, hk⟩)) (popped rest s)))
      ∧ (32 ≤ k.toNat → exec (.seriesRead o t [k]) s = .next (refusal ⟨o, t, 0x73#8, [k]⟩ .range (popped rest s)))

/-- STOP ADD updates, adds or is refused FULL; STOP REMOVE takes an entry out. Every chain but the identity's own is
as before. -/
def Obligations.StopAddAndRemove : Prop :=
  ∀ (o t s1 s0 n3 n2 n1 n0 : Byte) (rest : List Cmd) (s : State),
    let series := seriesOf s1 s0
    let serial := serialOf n3 n2 n1 n0
    let k := bucketOf series serial
    let chain := s.card.stop.chain k
    (∀ a : Byte,
      let args := [s1, s0, n3, n2, n1, n0, a]
      CanTake .cards ⟨o, t, 0x21#8, args⟩ rest s →
      (∀ action : StopAction, action.code = a.toNat →
        ((∃ e ∈ chain, e.series = series ∧ e.serial = serial) →
          ∃ stop, exec (.stopAdd o t args) s =
              .next (doneWith ⟨o, t, 0x21#8, args⟩ (.stopAdd false k) (bump Ctr.stopUpdates
                { popped rest s with card := { s.card with stop := stop } }))
            ∧ stop.free = s.card.stop.free
            ∧ stop.chain k = chain.map (fun e =>
                if e.series = series ∧ e.serial = serial then { e with action := action } else e)
            ∧ ∀ j, j ≠ k → stop.chain j = s.card.stop.chain j)
        ∧ ((∀ e ∈ chain, ¬(e.series = series ∧ e.serial = serial)) →
          (s.card.stop.free = 0 →
            exec (.stopAdd o t args) s =
              .next (replied ⟨o, t, 0x21#8, args⟩ .full 0x01#8 .none
                (bump (Ctr.cmdRefusal .full) (bump Ctr.addFailures (popped rest s)))))
          ∧ (0 < s.card.stop.free → 12 ≤ chain.length →
            exec (.stopAdd o t args) s =
              .next (replied ⟨o, t, 0x21#8, args⟩ .full 0x02#8 .none
                (bump (Ctr.cmdRefusal .full) (bump Ctr.addFailures (popped rest s)))))
          ∧ (0 < s.card.stop.free → chain.length < 12 →
            ∃ stop, exec (.stopAdd o t args) s =
                .next (doneWith ⟨o, t, 0x21#8, args⟩ (.stopAdd true k) (bump Ctr.stopAdds
                  { popped rest s with card := { s.card with stop := stop } }))
              ∧ stop.free = s.card.stop.free - 1
              ∧ stop.chain k = chain ++ [{ series := series, serial := serial, action := action }]
              ∧ ∀ j, j ≠ k → stop.chain j = s.card.stop.chain j)))
      ∧ (2 ≤ a.toNat →
          exec (.stopAdd o t args) s = .next (refusal ⟨o, t, 0x21#8, args⟩ .range (popped rest s))))
    ∧ (let args := [s1, s0, n3, n2, n1, n0]
      CanTake .cards ⟨o, t, 0x22#8, args⟩ rest s →
      ((∃ e ∈ chain, e.series = series ∧ e.serial = serial) →
        ∃ stop, exec (.stopRemove o t args) s =
            .next (doneWith ⟨o, t, 0x22#8, args⟩ .none (bump Ctr.stopRemoves
              { popped rest s with card := { s.card with stop := stop } }))
          ∧ stop.free = s.card.stop.free + 1
          ∧ stop.chain k = chain.filter (fun e => !(decide (e.series = series) && decide (e.serial = serial)))
          ∧ ∀ j, j ≠ k → stop.chain j = s.card.stop.chain j)
      ∧ ((∀ e ∈ chain, ¬(e.series = series ∧ e.serial = serial)) →
          exec (.stopRemove o t args) s = .next (refusal ⟨o, t, 0x22#8, args⟩ .notFound (popped rest s))))

/-- STOP PROBE and STOP STATUS reply the list's figures and change nothing. -/
def Obligations.StopProbeAndStatusRead : Prop :=
  (∀ (o t s1 s0 n3 n2 n1 n0 : Byte) (rest : List Cmd) (s : State),
      let args := [s1, s0, n3, n2, n1, n0]
      let series := seriesOf s1 s0
      let serial := serialOf n3 n2 n1 n0
      let chain := s.card.stop.chain (bucketOf series serial)
      CanTake .read ⟨o, t, 0x74#8, args⟩ rest s →
      (∀ (i : Nat) (e : StopEntry), chain[i]? = some e → e.series = series → e.serial = serial →
        (∀ j < i, ∀ e', chain[j]? = some e' → ¬(e'.series = series ∧ e'.serial = serial)) →
        exec (.stopProbe o t args) s =
          .next (doneWith ⟨o, t, 0x74#8, args⟩
            (.stopProbe (bucketOf series serial) chain.length (some (e.action, i + 1))) (popped rest s)))
      ∧ ((∀ e ∈ chain, ¬(e.series = series ∧ e.serial = serial)) →
          exec (.stopProbe o t args) s =
            .next (doneWith ⟨o, t, 0x74#8, args⟩ (.stopProbe (bucketOf series serial) chain.length none)
              (popped rest s))))
    ∧ ∀ (o t : Byte) (rest : List Cmd) (s : State), CanTake .read ⟨o, t, 0x75#8, []⟩ rest s →
      exec (.stopStatus o t []) s =
        .next (doneWith ⟨o, t, 0x75#8, []⟩
          (.stopStatus ((s.card.stop.chains.map fun c => c.2.length).sum) s.card.stop.free
            ((s.card.stop.chains.map fun c => c.2.length).foldl max 0) (s.counter Ctr.validationMatches)
            (s.counter Ctr.validationMisses) (s.counter Ctr.addFailures))
          (popped rest s))

/-! ## Booth commands (R19, R125, R126, R128, R171, R173, R174) -/

/-- The line of a booth that a BOOTH MAP WRITE disables, or takes from its old place (R125). -/
def leftLine (l : BoothLine) : BoothLine :=
  { clearedLine l with health := .disabled, misses := 0, probeTimer := none, probeDue := false, firstStatus := false }

/-- The line of a booth that a BOOTH MAP WRITE enables, or brings to its new place (R125, R131). -/
def enteredLine (l : BoothLine) : BoothLine :=
  { l with health := .inService, misses := 0, expectBit := false, statusDue := true, firstStatus := true }

/-- BOOTH MAP WRITE: its checks in order, and the effect of the write on the booth: disabled, enabled, moved, or neither
where only the channel or plan changes. A transaction open to a booth that is disabled or moved runs on with its outcome
to be discarded. -/
def Obligations.BoothMapWriteChecksAndEffect : Prop :=
  ∀ (o t b g d ch p f : Byte) (rest : List Cmd) (s : State),
    let args := [b, g, d, ch, p, f]
    let c : Cmd := ⟨o, t, 0x30#8, args⟩
    CanTake .booths c rest s →
    (∀ (hb : b.toNat < 48) (seg : Segment) (hch : ch.toNat < 64) (hp : p.toNat < 8), seg.code = g.toNat →
      1 ≤ d.toNat → d.toNat ≤ 31 → f.toNat ≤ 1 →
      let booth : Booth := ⟨b.toNat, hb⟩
      let e : MapEntry :=
        { segment := seg, drop := d.toNat, channel := ⟨ch.toNat, hch⟩, plan := ⟨p.toNat, hp⟩,
          enabled := decide (f = 1#8) }
      let sameDrop := ∃ x, x ≠ booth ∧ (s.entry x).enabled = true ∧ (s.entry x).segment = seg
        ∧ (s.entry x).drop = d.toNat
      let sameChannel := ∃ x, x ≠ booth ∧ (s.entry x).enabled = true ∧ (s.entry x).channel.val = ch.toNat
      let others := allBooths.countP fun x =>
        !decide (x = booth) && (s.entry x).enabled && decide ((s.entry x).segment = seg)
      let old := s.entry booth
      let orphaned := fun u : State =>
        (∀ x, x ≠ old.segment → u.seg x = s.seg x)
          ∧ u.seg old.segment =
              { s.seg old.segment with
                transaction := (s.seg old.segment).transaction.map fun tr =>
                  if tr.booth = booth then { tr with orphan := true } else tr }
      ((s.ctx booth).state ≠ .free →
        exec (.boothMapWrite o t args) s = .next (refusal c .state (popped rest s)))
      ∧ ((s.ctx booth).state = .free → f = 1#8 → (sameDrop ∨ sameChannel) →
          exec (.boothMapWrite o t args) s = .next (refusal c .conflict (popped rest s)))
      ∧ ((s.ctx booth).state = .free → f = 1#8 → ¬sameDrop → ¬sameChannel → 24 ≤ others →
          exec (.boothMapWrite o t args) s = .next (refusal c .full (popped rest s)))
      ∧ ((s.ctx booth).state = .free → (f = 0#8 ∨ (¬sameDrop ∧ ¬sameChannel ∧ others < 24)) →
          ∃ u, exec (.boothMapWrite o t args) s = .next (doneWith c .none (bump Ctr.boothMapWrites u))
            ∧ (∀ x, u.entry x = if x = booth then e else s.entry x)
            ∧ (∀ x, x ≠ booth → u.boothLine x = s.boothLine x ∧ u.slot x = s.slot x)
            ∧ (((old.enabled = false ∧ e.enabled = false)
                  ∨ (old.enabled = true ∧ e.enabled = true ∧ old.segment = seg ∧ old.drop = d.toNat)) →
                u.boothLine booth = s.boothLine booth ∧ u.slot booth = s.slot booth ∧ ∀ x, u.seg x = s.seg x)
            ∧ (old.enabled = true → e.enabled = false →
                u.boothLine booth = leftLine (s.boothLine booth) ∧ u.slot booth = .empty ∧ orphaned u)
            ∧ (old.enabled = false → e.enabled = true →
                u.boothLine booth = enteredLine (s.boothLine booth) ∧ u.slot booth = s.slot booth
                  ∧ ∀ x, u.seg x = s.seg x)
            ∧ (old.enabled = true → e.enabled = true → (old.segment ≠ seg ∨ old.drop ≠ d.toNat) →
                u.boothLine booth = enteredLine (leftLine (s.boothLine booth)) ∧ u.slot booth = .empty ∧ orphaned u)
            ∧ u = { popped rest s with line := u.line, card := { s.card with slots := u.card.slots } }))
    ∧ ((48 ≤ b.toNat ∨ 2 ≤ g.toNat ∨ d.toNat = 0 ∨ 31 < d.toNat ∨ 64 ≤ ch.toNat ∨ 8 ≤ p.toNat ∨ 2 ≤ f.toNat) →
        exec (.boothMapWrite o t args) s = .next (refusal c .range (popped rest s)))

/-- BOOTH READ and STATUS READ reply what stands and change nothing. (That the commands STATUS READ counts are those
left after it was taken: log 24; that a card action in flight, not one waiting behind it, is the one BOOTH READ gives:
log 39.) -/
def Obligations.BoothAndStatusRead : Prop :=
  (∀ (o t b : Byte) (rest : List Cmd) (s : State), CanTake .read ⟨o, t, 0x76#8, [b]⟩ rest s →
      (∀ hb : b.toNat < 48,
        let l := s.boothLine ⟨b.toNat, hb⟩
        exec (.boothRead o t [b]) s =
          .next (doneWith ⟨o, t, 0x76#8, [b]⟩
            (.booth
              { entry := s.entry ⟨b.toNat, hb⟩, health := l.health, mark := l.mark, misses := l.misses,
                debitWork := l.debitWork, statusDue := l.statusDue, cardAction := l.cardAction,
                signals := l.signals.length })
            (popped rest s)))
      ∧ (48 ≤ b.toNat → exec (.boothRead o t [b]) s = .next (refusal ⟨o, t, 0x76#8, [b]⟩ .range (popped rest s))))
    ∧ ∀ (o t : Byte) (rest : List Cmd) (s : State), CanTake .read ⟨o, t, 0x77#8, []⟩ rest s →
      exec (.statusRead o t []) s =
        .next (doneWith ⟨o, t, 0x77#8, []⟩
          (.status
            { service := s.mgmt.service, linkUp := s.trunk.linkUp, clock := s.tariff.clock, limits := s.mgmt.limits,
              westReply := (s.seg .west).replyCode, westWrite := (s.seg .west).writeCode,
              eastReply := (s.seg .east).replyCode, eastWrite := (s.seg .east).writeCode,
              access := s.mgmt.access, commands := rest.length, replies := s.trunk.replyQueue.length,
              headSeq := s.ring.headSeq, tailSeq := s.ring.nextSeq, filled := s.ring.tickets.length,
              reserved := s.ring.reserved, highWater := s.ring.highWater, faultHeld := s.mgmt.faultHeld.isSome,
              waiting := s.mgmt.notices.waiting, mask := s.mgmt.notices.mask })
          (popped rest s))

/-- TAKE OUT and RETURN by the booth's condition (R173's table), and the BOOTH CONTROL commands refused STATE for an entry
not enabled and RANGE. -/
def Obligations.BoothControlByCondition : Prop :=
  (∀ (o t a : Byte) (b : Booth) (rest : List Cmd) (s : State),
      let args := [byte b.val, a]
      let c : Cmd := ⟨o, t, 0x31#8, args⟩
      let l := s.boothLine b
      let shown := if s.mgmt.service = .inService then Signal.inOrder else Signal.outOfOrder
      CanTake .booths c rest s →
      ((s.entry b).enabled = false →
        (a = 0#8 → exec (.takeOut o t args) s = .next (refusal c .state (popped rest s)))
        ∧ (a = 1#8 → exec (.returnBooth o t args) s = .next (refusal c .state (popped rest s)))
        ∧ (a = 2#8 → exec (.forceClear o t args) s = .next (refusal c .state (popped rest s))))
      ∧ ((s.entry b).enabled = true →
        (a = 0#8 → (l.health = .taken ∨ l.mark = true) →
          exec (.takeOut o t args) s = .next (refusal c .state (popped rest s)))
        ∧ (a = 0#8 → l.health ≠ .taken → l.mark = false → (s.ctx b).state = .free →
          exec (.takeOut o t args) s =
            .next (doneWith c .none
              (modBoothLine b
                (fun l => { l with health := .taken, mark := false, probeTimer := none, probeDue := false,
                                   signals := joinSignal .outOfOrder l.signals })
                (popped rest s))))
        ∧ (a = 0#8 → l.health ≠ .taken → l.mark = false → (s.ctx b).state ≠ .free →
          exec (.takeOut o t args) s =
            .next (doneWith c .none (modBoothLine b (fun l => { l with mark := true }) (popped rest s))))
        ∧ (a = 1#8 → l.mark = true →
          exec (.returnBooth o t args) s =
            .next (doneWith c .none (modBoothLine b (fun l => { l with mark := false }) (popped rest s))))
        ∧ (a = 1#8 → l.mark = false → (l.health = .taken ∨ l.health = .reader) →
          exec (.returnBooth o t args) s =
            .next (doneWith c .none
              (modBoothLine b
                (fun l => { l with health := .inService, misses := 0, statusDue := true,
                                   signals := joinSignal shown l.signals })
                (popped rest s))))
        ∧ (a = 1#8 → l.mark = false → l.health ≠ .taken → l.health ≠ .reader →
          exec (.returnBooth o t args) s = .next (refusal c .state (popped rest s)))))
    ∧ (∀ (o t b a : Byte) (rest : List Cmd) (s : State), CanTake .booths ⟨o, t, 0x31#8, [b, a]⟩ rest s →
        (3 ≤ a.toNat →
          exec (.boothControl o t [b, a]) s = .next (refusal ⟨o, t, 0x31#8, [b, a]⟩ .range (popped rest s)))
        ∧ (48 ≤ b.toNat → a = 0#8 →
          exec (.takeOut o t [b, a]) s = .next (refusal ⟨o, t, 0x31#8, [b, a]⟩ .range (popped rest s)))
        ∧ (48 ≤ b.toNat → a = 1#8 →
          exec (.returnBooth o t [b, a]) s = .next (refusal ⟨o, t, 0x31#8, [b, a]⟩ .range (popped rest s)))
        ∧ (48 ≤ b.toNat → a = 2#8 →
          exec (.forceClear o t [b, a]) s = .next (refusal ⟨o, t, 0x31#8, [b, a]⟩ .range (popped rest s))))

/-- FORCE CLEAR by the call's state: FREE refused STATE, ENDING unchanged, an unanswered call ended before answer with
cause FORCED (CALL REFUSED posted, HANGUP owed), an answered one put into ENDING, where it waits for an outstanding
request or settles at once. HOOK ON likewise, with cause BOOTH HUNG UP: the hook state alone in FREE and ENDING, an
unanswered call ended with no signal and its HANGUP owed, an answered one put into ENDING. A hook report under the
STATUS marker, and a HOOK OFF in any state but FREE, set the hook state and do nothing more. (At the end of an
unanswered call that also ends a drain, the take-out mark is honoured first: log 41.) -/
def Obligations.ForceClearByState : Prop :=
  (∀ (o t : Byte) (b : Booth) (rest : List Cmd) (s : State),
    let args := [byte b.val, 2#8]
    let c : Cmd := ⟨o, t, 0x31#8, args⟩
    CanTake .booths c rest s → (s.entry b).enabled = true →
    ((s.ctx b).state = .free → exec (.forceClear o t args) s = .next (refusal c .state (popped rest s)))
    ∧ ((s.ctx b).state = .ending → exec (.forceClear o t args) s = .next (doneWith c .none (popped rest s)))
    ∧ ((s.ctx b).state.preAnswer = true →
        ∃ u, exec (.forceClear o t args) s = .next (doneWith c .none u)
          ∧ EndedBeforeAnswer b .forced (popped rest s) u)
    ∧ (((s.ctx b).state = .speech ∨ (s.ctx b).state = .swap) → (s.debit b).outstanding ≠ .none →
        exec (.forceClear o t args) s =
          .next (doneWith c .none
            (modDebit b (fun d => { d with nextTick := none, cardLeft := false, stage := .awaitingRequest })
              (modCtx b (fun x => { x with state := .ending, endCause := some .forced, swapWindow := none })
                (popped rest s)))))
    ∧ (((s.ctx b).state = .speech ∨ (s.ctx b).state = .swap) → (s.debit b).outstanding = .none →
        ∃ u, exec (.forceClear o t args) s = .next (doneWith c .none u)
          ∧ Settles b (ending b .forced (popped rest s)) u))
    ∧ ∀ (s : State) (b : Booth),
        let put := modCtx b (fun c => { c with hookOff := false }) s
        let t := boothEvent b false .hookOn s
        (((s.ctx b).state = .free ∨ (s.ctx b).state = .ending) → t = put)
        ∧ ((s.ctx b).state.preAnswer = true → EndedBeforeAnswer b .boothHungUp put t)
        ∧ (((s.ctx b).state = .speech ∨ (s.ctx b).state = .swap) →
            ((s.debit b).outstanding ≠ .none →
              t = modDebit b (fun d => { d with stage := .awaitingRequest }) (ending b .boothHungUp put))
            ∧ ((s.debit b).outstanding = .none → Settles b (ending b .boothHungUp put) t))
        ∧ boothEvent b true .hookOn s = put
        ∧ boothEvent b true .hookOff s = modCtx b (fun c => { c with hookOff := true }) s
        ∧ ((s.ctx b).state ≠ .free →
            boothEvent b false .hookOff s = modCtx b (fun c => { c with hookOff := true }) s)

/-- SEGMENT SETUP, RING SETUP and LIMITS WRITE replace the codes, the high-water and the five limits, or refuse
RANGE. -/
def Obligations.SetupWrites : Prop :=
  (∀ (o t g r w : Byte) (rest : List Cmd) (s : State), CanTake .booths ⟨o, t, 0x32#8, [g, r, w]⟩ rest s →
      (∀ seg : Segment, seg.code = g.toNat → r.toNat ≤ 15 → w.toNat ≤ 15 →
        exec (.segmentSetup o t [g, r, w]) s =
          .next (doneWith ⟨o, t, 0x32#8, [g, r, w]⟩ .none
            (modSeg seg (fun x => { x with replyCode := r.toNat, writeCode := w.toNat }) (popped rest s))))
      ∧ ((2 ≤ g.toNat ∨ 15 < r.toNat ∨ 15 < w.toNat) →
          exec (.segmentSetup o t [g, r, w]) s =
            .next (refusal ⟨o, t, 0x32#8, [g, r, w]⟩ .range (popped rest s))))
    ∧ (∀ (o t h1 h0 : Byte) (rest : List Cmd) (s : State), CanTake .tickets ⟨o, t, 0x42#8, [h1, h0]⟩ rest s →
        (1 ≤ num2 h1 h0 → num2 h1 h0 ≤ 512 →
          exec (.ringSetup o t [h1, h0]) s =
            .next (doneWith ⟨o, t, 0x42#8, [h1, h0]⟩ .none (bump Ctr.ringSetups
              { popped rest s with ring := { s.ring with highWater := num2 h1 h0 } })))
        ∧ ((num2 h1 h0 = 0 ∨ 512 < num2 h1 h0) →
            exec (.ringSetup o t [h1, h0]) s =
              .next (refusal ⟨o, t, 0x42#8, [h1, h0]⟩ .range (popped rest s))))
    ∧ ∀ (o t d c w m p : Byte) (rest : List Cmd) (s : State), CanTake .service ⟨o, t, 0x54#8, [d, c, w, m, p]⟩ rest s →
      let inRange := fun x : Byte => 1 ≤ x.toNat ∧ x.toNat ≤ 60
      (inRange d → inRange c → inRange w → inRange p →
        exec (.limitsWrite o t [d, c, w, m, p]) s =
          .next (doneWith ⟨o, t, 0x54#8, [d, c, w, m, p]⟩ .none (bump Ctr.limitsWrites
            { popped rest s with
              mgmt :=
                { s.mgmt with
                  cmdQueue := rest
                  limits :=
                    { digitWait := d.toNat, cardWait := c.toNat, swapWindow := w.toNat, maxCall := m.toNat,
                      probe := p.toNat } } })))
      ∧ ((¬inRange d ∨ ¬inRange c ∨ ¬inRange w ∨ ¬inRange p) →
          exec (.limitsWrite o t [d, c, w, m, p]) s =
            .next (refusal ⟨o, t, 0x54#8, [d, c, w, m, p]⟩ .range (popped rest s)))

/-- The health of a booth after a reset: a marked booth TAKEN, TAKEN and DISABLED kept, every other IN SERVICE (R22,
R140). -/
def healthAfterReset (l : BoothLine) : Health :=
  if l.mark then .taken
  else if l.health = .taken ∨ l.health = .disabled then l.health
  else .inService

/-- The ring after a reset of a set of booths: one ticket for each of their answered calls, lowest booth first, numbered
on from the next sequence, each as the call's context and debit record stand, with the reset's cause (a call in ENDING
keeps its recorded one) and an outstanding request counted as uncertain; and every reservation of theirs given back
(R22, R110, R157, R158). -/
def ringAfterReset (on : Booth → Bool) (cause : EndCause) (s : State) : Ring :=
  let ticket := fun b =>
    ticketOf b (some (if (s.ctx b).state = .ending then ((s.ctx b).endCause).getD cause else cause))
      (if (s.debit b).outstanding = .none then (s.debit b).uncertainCount
        else min 255 ((s.debit b).uncertainCount + 1)) s
  let answered := allBooths.filter fun b =>
    on b && ((s.ctx b).state.metered || decide ((s.ctx b).state = .ending))
  { answered.foldl (fun r b => ticketWritten { ticket b with sequence := r.nextSeq } r) s.ring with
    reserved := s.ring.reserved - allBooths.countP (fun b => on b && !decide ((s.ctx b).state = .free)) }

/-- What a reset of a set of booths does to each booth: its context FREE with hook state ON, its debit record as at
admission, its slot empty, its line state as R140 tables it with `shown` as the one signal of an enabled booth that is
not DISABLED; and to every other booth: its hold on card, context and charges as before (a digit held for room may have
been forwarded). The ring has the tickets of their answered calls and the reservations of all their calls given back. -/
def ResetBooths (on : Booth → Bool) (cause : EndCause) (shown : Booth → Signal) (s u : State) : Prop :=
  (∀ b, on b = true →
      u.ctx b =
          { Ctx.reset with
            hookOff := false
            endCause :=
              if (s.ctx b).state = .free then (s.ctx b).endCause
              else if (s.ctx b).state = .ending then some (((s.ctx b).endCause).getD cause) else some cause }
        ∧ u.debit b = Debit.reset ∧ u.slot b = .empty
        ∧ u.boothLine b =
            { s.boothLine b with
              health := healthAfterReset (s.boothLine b), mark := false, misses := 0, probeTimer := none,
              probeDue := false, debitWork := none, statusDue := (s.entry b).enabled, cardAction := none,
              cardNext := none
              signals :=
                if (s.entry b).enabled = true ∧ healthAfterReset (s.boothLine b) ≠ .disabled then [shown b] else [] })
    ∧ (∀ b, on b = false →
        u.ctx b = { s.ctx b with held := (u.ctx b).held } ∧ u.debit b = s.debit b ∧ u.slot b = s.slot b)
    ∧ u.ring = ringAfterReset on cause s

/-- What a reset does to its segment: the transaction abandoned and its window held (R140). -/
def ResetSegment (s u : State) (g : Segment) : Prop :=
  u.seg g =
    { s.seg g with
      nextTag := 0, transaction := none, hold := (s.seg g).transaction.map Transaction.expiry, lastDrop := 0,
      burst := 0, followOn := none }

/-- The reset of a segment frees the last busy context of a DRAINING part (R169). -/
def DrainEnds (g : Segment) (s : State) : Prop :=
  s.mgmt.service = .draining ∧ ∀ b, (s.entry b).segment ≠ g → (s.ctx b).state = .free

/-- SEGMENT RESET: refused BUSY in the hold of an earlier reset and RANGE for no segment; else the booths of the segment
and its Line Controller are reset, the queued frames of its enabled booths' channels (log 25) and its waiting-list places
are withdrawn, the channel of every call it ended owes HANGUP while the link is UP, each enabled booth is sent IN ORDER
or OUT OF ORDER, its tickets make RING HIGH pending when the ring is high, and a DRAINING part whose last busy
contexts it frees becomes OUT OF SERVICE. (That a booth of the
segment is sent one signal then, not two, is the model's choice: log 40.) -/
def Obligations.SegmentResetEndsItsSegment : Prop :=
  ∀ (o t x : Byte) (rest : List Cmd) (s : State),
    let c : Cmd := ⟨o, t, 0x33#8, [x]⟩
    CanTake .booths c rest s →
    (∀ g : Segment, g.code = x.toNat →
      ((s.seg g).hold ≠ none → exec (.segmentReset o t [x]) s = .next (refusal c .busy (popped rest s)))
      ∧ ((s.seg g).hold = none →
        ∃ u, exec (.segmentReset o t [x]) s = .next (doneWith c .none u)
          ∧ ResetBooths (fun b => decide ((s.entry b).segment = g)) .segmentReset
              (fun b =>
                if u.mgmt.service = .inService ∧ healthAfterReset (s.boothLine b) = .inService then .inOrder
                else .outOfOrder) s u
          ∧ ResetSegment s u g ∧ (∀ g', g' ≠ g → u.seg g' = s.seg g')
          ∧ (DrainEnds g s → u.mgmt.service = .outOfService ∧ ∀ b, (s.entry b).segment ≠ g →
              u.boothLine b =
                if (s.entry b).enabled = true
                    ∧ ((s.boothLine b).health = .inService ∨ (s.boothLine b).health = .suspect) then
                  { s.boothLine b with signals := joinSignal .outOfOrder (s.boothLine b).signals }
                else s.boothLine b)
          ∧ (¬DrainEnds g s → u.mgmt.service = s.mgmt.service
              ∧ ∀ b, (s.entry b).segment ≠ g → u.boothLine b = s.boothLine b)
          ∧ (∀ f ∈ u.trunk.sigQueue, ∀ b, (s.entry b).segment = g → (s.entry b).enabled = true →
              (s.entry b).channel = f.channel → ∃ x, (s.entry x).segment ≠ g ∧ (s.entry x).channel = f.channel)
          ∧ s.trunk.sigQueue.filter (fun f => !allBooths.any fun b =>
                decide ((s.entry b).segment = g) && (s.entry b).enabled && decide ((s.entry b).channel = f.channel))
              <+: u.trunk.sigQueue
          ∧ (∀ b ∈ u.trunk.waiting, (s.entry b).segment ≠ g ∧ b ∈ s.trunk.waiting)
          ∧ (s.trunk.linkUp = true → ∀ b, (s.entry b).segment = g → (s.ctx b).state ≠ .free →
              u.trunk.hangupOwed.get (s.entry b).channel = true)
          ∧ u.route = s.route ∧ u.tariff = s.tariff ∧ u.settings = s.settings
          ∧ u.mgmt.faultHeld = s.mgmt.faultHeld ∧ u.mgmt.laterFaults = s.mgmt.laterFaults
          ∧ (∀ i : Fin 5, i ≠ 1 → u.mgmt.notices.waiting.getLsbD i = s.mgmt.notices.waiting.getLsbD i)
          ∧ (u.mgmt.notices.waiting.getLsbD 1 = true ↔
              s.mgmt.notices.waiting.getLsbD 1 = true
                ∨ (s.ring.highWater ≤ u.ring.tickets.length ∧ s.ring.tickets.length < u.ring.tickets.length))
          ∧ u.mgmt.cmdQueue = rest ∧ u.trunk.replyQueue = s.trunk.replyQueue ∧ u.trunk.tx = s.trunk.tx))
    ∧ (2 ≤ x.toNat → exec (.segmentReset o t [x]) s = .next (refusal c .range (popped rest s)))

/-- RESTART: refused BUSY in a hold; else every booth and both segments are reset, the cache is emptied, the Trunk
Port's queues are emptied, the service state is OUT OF SERVICE, the Fault Capture record is freed, the pending set of
the notices is emptied but for a RING HIGH that the reset's own tickets raise, and no reservation is left. -/
def Obligations.RestartEndsEverything : Prop :=
  ∀ (o t : Byte) (rest : List Cmd) (s : State),
    let c : Cmd := ⟨o, t, 0x52#8, []⟩
    CanTake .service c rest s →
    (((s.seg .west).hold ≠ none ∨ (s.seg .east).hold ≠ none) →
      exec (.restart o t []) s = .next (refusal c .busy (popped rest s)))
    ∧ ((s.seg .west).hold = none → (s.seg .east).hold = none →
      ∃ u, exec (.restart o t []) s = .next (doneWith c .none u)
        ∧ ResetBooths (fun _ => true) .restart (fun _ => .outOfOrder) s u ∧ (∀ g, ResetSegment s u g)
        ∧ (s.ring.reserved = s.busy → u.ring.reserved = 0)
        ∧ u.route.cache = [] ∧ u.route.tree = s.route.tree ∧ u.route.plans = s.route.plans ∧ u.tariff = s.tariff
        ∧ u.trunk.sigQueue = [] ∧ u.trunk.waiting = [] ∧ u.trunk.replyQueue = []
        ∧ u.trunk.tx = s.trunk.tx ∧ u.trunk.linkUp = s.trunk.linkUp ∧ u.trunk.silence = s.trunk.silence
        ∧ (s.trunk.linkUp = true → ∀ b, (s.ctx b).state ≠ .free →
            u.trunk.hangupOwed.get (s.entry b).channel = true)
        ∧ (∀ ch : Channel, s.trunk.hangupOwed.get ch = true → u.trunk.hangupOwed.get ch = true)
        ∧ u.mgmt.service = .outOfService ∧ u.mgmt.faultHeld = none ∧ u.mgmt.laterFaults = 0
        ∧ (let raised := s.ring.highWater ≤ u.ring.tickets.length ∧ s.ring.tickets.length < u.ring.tickets.length
          (∀ i : Fin 5, u.mgmt.notices.waiting.getLsbD i = true ↔ i = 1 ∧ raised)
            ∧ (u.mgmt.notices.due = true ↔ raised ∧ s.mgmt.notices.mask.getLsbD 1 = false))
        ∧ u.mgmt.notices.mask = s.mgmt.notices.mask ∧ u.mgmt.notices.throttle = s.mgmt.notices.throttle
        ∧ u.mgmt.notices.hold = s.mgmt.notices.hold ∧ u.mgmt.cmdQueue = rest ∧ u.settings = s.settings)

/-! ## Tickets (R160, R161) -/

/-- TICKET FETCH replies the oldest tickets and the ring's figures; TICKET RELEASE frees the tickets up to a sequence
number. -/
def Obligations.TicketFetchAndRelease : Prop :=
  (∀ (o t n : Byte) (rest : List Cmd) (s : State), CanTake .tickets ⟨o, t, 0x40#8, [n]⟩ rest s →
      exec (.ticketFetch o t [n]) s =
        .next (doneWith ⟨o, t, 0x40#8, [n]⟩
          (.fetch s.ring.headSeq s.ring.nextSeq s.ring.tickets.length s.ring.reserved
            (s.ring.tickets.take (min n.toNat 2)))
          (bump Ctr.fetchCommands (popped rest s))))
    ∧ ∀ (o t q3 q2 q1 q0 : Byte) (rest : List Cmd) (s : State),
      let args := [q3, q2, q1, q0]
      let c : Cmd := ⟨o, t, 0x41#8, args⟩
      let q := num4 q3 q2 q1 q0
      let d := (q + 4294967295 - s.ring.headSeq) % 4294967295
      let freed := if d ≤ 2147483647 then min (d + 1) s.ring.tickets.length else 0
      let ring := { s.ring with tickets := s.ring.tickets.drop freed, head := (s.ring.head + freed) % 512 }
      CanTake .tickets c rest s →
      (q = 0 → exec (.ticketRelease o t args) s = .next (refusal c .range (popped rest s)))
      ∧ (q ≠ 0 →
          exec (.ticketRelease o t args) s =
            .next (doneWith c (.released ring.headSeq)
              ((if freed = 0 then bump Ctr.releasesNoEffect else id)
                (bumpBy Ctr.ticketsReleased freed (bump Ctr.releaseCommands
                  { popped rest s with ring := ring })))))

/-! ## Service, faults, notices, access, counters (R167, R168, R177 to R183) -/

/-- SERVICE START and SERVICE STOP by the service state (R168's table). -/
def Obligations.ServiceStartAndStop : Prop :=
  ∀ (o t : Byte) (rest : List Cmd) (s : State),
    (let c : Cmd := ⟨o, t, 0x50#8, []⟩
      let ready := s.tariff.clock.valid = true ∧ (∃ p : Fin 8, (s.route.plans.get p).enabled = true)
        ∧ ∃ b, (s.entry b).enabled = true
      CanTake .service c rest s →
      (s.mgmt.service = .inService → exec (.serviceStart o t []) s = .next (refusal c .state (popped rest s)))
      ∧ (s.mgmt.service = .draining →
          exec (.serviceStart o t []) s =
            .next (doneWith c .none
              { popped rest s with mgmt := { s.mgmt with cmdQueue := rest, service := .inService } }))
      ∧ (s.mgmt.service = .outOfService → ¬ready →
          exec (.serviceStart o t []) s = .next (refusal c .state (popped rest s)))
      ∧ (s.mgmt.service = .outOfService → ready →
          ∃ u, exec (.serviceStart o t []) s = .next (doneWith c .none u)
            ∧ u = { popped rest s with
                    mgmt := { s.mgmt with cmdQueue := rest, service := .inService }
                    line := { s.line with booths := u.line.booths } }
            ∧ ∀ b, u.boothLine b =
                if (s.entry b).enabled = true
                    ∧ ((s.boothLine b).health = .inService ∨ (s.boothLine b).health = .suspect) then
                  { s.boothLine b with signals := joinSignal .inOrder (s.boothLine b).signals }
                else s.boothLine b))
    ∧ (let c : Cmd := ⟨o, t, 0x51#8, []⟩
      CanTake .service c rest s →
      (s.mgmt.service ≠ .inService → exec (.serviceStop o t []) s = .next (refusal c .state (popped rest s)))
      ∧ (s.mgmt.service = .inService → (∃ b, (s.ctx b).state ≠ .free) →
          exec (.serviceStop o t []) s =
            .next (doneWith c .none
              { popped rest s with mgmt := { s.mgmt with cmdQueue := rest, service := .draining } }))
      ∧ (s.mgmt.service = .inService → (∀ b, (s.ctx b).state = .free) →
          ∃ u, exec (.serviceStop o t []) s = .next (doneWith c .none u)
            ∧ u = { popped rest s with
                    mgmt := { s.mgmt with cmdQueue := rest, service := .outOfService }
                    line := { s.line with booths := u.line.booths } }
            ∧ ∀ b, u.boothLine b =
                if (s.entry b).enabled = true
                    ∧ ((s.boothLine b).health = .inService ∨ (s.boothLine b).health = .suspect) then
                  { s.boothLine b with signals := joinSignal .outOfOrder (s.boothLine b).signals }
                else s.boothLine b))

/-- FAULT READ replies the Fault Capture record; FAULT CLEAR frees it and zeroes the count of later faults. -/
def Obligations.FaultReadAndClear : Prop :=
  ∀ (o t : Byte) (rest : List Cmd) (s : State),
    (CanTake .read ⟨o, t, 0x79#8, []⟩ rest s →
      exec (.faultRead o t []) s =
        .next (doneWith ⟨o, t, 0x79#8, []⟩ (.fault s.mgmt.faultHeld s.mgmt.laterFaults) (popped rest s)))
    ∧ (CanTake .service ⟨o, t, 0x55#8, []⟩ rest s →
      exec (.faultClear o t []) s =
        .next (doneWith ⟨o, t, 0x55#8, []⟩ .none (bump Ctr.faultClears
          { popped rest s with mgmt := { s.mgmt with cmdQueue := rest, faultHeld := none, laterFaults := 0 } })))

/-- NOTICE SETUP replaces mask and throttle and sets the notice-due flag for a pending cause it unmasks; NOTICE CLEAR
removes the named causes from the pending set. -/
def Obligations.NoticeSetupAndClear : Prop :=
  (∀ (o t m t1 t0 : Byte) (rest : List Cmd) (s : State),
      let args := [m, t1, t0]
      let n := s.mgmt.notices
      CanTake .service ⟨o, t, 0x56#8, args⟩ rest s →
      (num2 t1 t0 ≤ 255 → ∀ due : Bool,
        (due = true ↔ n.due = true
          ∨ ∃ i : Fin 5, n.waiting.getLsbD i = true ∧ n.mask.getLsbD i = true ∧ m.getLsbD i = false) →
        exec (.noticeSetup o t args) s =
          .next (doneWith ⟨o, t, 0x56#8, args⟩ .none (bump Ctr.noticeSetups
            { popped rest s with
              mgmt :=
                { s.mgmt with
                  cmdQueue := rest
                  notices := { n with mask := m.truncate 5, throttle := num2 t1 t0, due := due } } })))
      ∧ (255 < num2 t1 t0 →
          exec (.noticeSetup o t args) s = .next (refusal ⟨o, t, 0x56#8, args⟩ .range (popped rest s))))
    ∧ ∀ (o t c : Byte) (rest : List Cmd) (s : State), CanTake .service ⟨o, t, 0x57#8, [c]⟩ rest s →
      ∃ waiting : BitVec 5,
        exec (.noticeClear o t [c]) s =
            .next (doneWith ⟨o, t, 0x57#8, [c]⟩ .none (bump Ctr.noticeClears
              { popped rest s with
                mgmt :=
                  { s.mgmt with cmdQueue := rest, notices := { s.mgmt.notices with waiting := waiting } } }))
          ∧ ∀ i : Fin 5, waiting.getLsbD i = (s.mgmt.notices.waiting.getLsbD i && !c.getLsbD i)

/-- ACCESS WRITE replaces one group's permitted set, but never empties that of ACCESS. -/
def Obligations.AccessWriteReplacesSet : Prop :=
  ∀ (o t g s1 s0 : Byte) (rest : List Cmd) (s : State),
    let args := [g, s1, s0]
    CanTake .access ⟨o, t, 0x60#8, args⟩ rest s →
    (∀ hg : g.toNat < 7, ¬(groupAt ⟨g.toNat, hg⟩ = .access ∧ num2 s1 s0 = 0) →
      ∃ access,
        exec (.accessWrite o t args) s =
            .next (doneWith ⟨o, t, 0x60#8, args⟩ .none (bump Ctr.accessWrites
              { popped rest s with mgmt := { s.mgmt with cmdQueue := rest, access := access } }))
          ∧ ∀ x : Group, access.get x.index =
              if x = groupAt ⟨g.toNat, hg⟩ then BitVec.ofNat 16 (num2 s1 s0) else s.mgmt.access.get x.index)
    ∧ ((7 ≤ g.toNat ∨ (g = 5#8 ∧ num2 s1 s0 = 0)) →
        exec (.accessWrite o t args) s = .next (refusal ⟨o, t, 0x60#8, args⟩ .range (popped rest s)))

/-- COUNTER READ replies every counter of the group and, with the clear flag set, zeroes them; every other group keeps
its counters. The command itself is counted as done after that (the model's order: log 23), so group 10 then moves. -/
def Obligations.CounterReadAndClear : Prop :=
  ∀ (o t g f : Byte) (rest : List Cmd) (s : State),
    let c : Cmd := ⟨o, t, 0x78#8, [g, f]⟩
    CanTake .read c rest s →
    (∀ hg : g.toNat < 12,
      let k : Fin 12 := ⟨g.toNat, hg⟩
      (f = 0#8 →
        exec (.counterRead o t [g, f]) s = .next (doneWith c (.counters (s.counters.get k)) (popped rest s)))
      ∧ (f = 1#8 →
        ∃ counters,
          exec (.counterRead o t [g, f]) s =
              .next (doneWith c (.counters (s.counters.get k)) { popped rest s with counters := counters })
            ∧ (counters.get k).length = (s.counters.get k).length ∧ (∀ n ∈ counters.get k, n = 0)
            ∧ ∀ k', k' ≠ k → counters.get k' = s.counters.get k'))
    ∧ ((12 ≤ g.toNat ∨ 2 ≤ f.toNat) →
        exec (.counterRead o t [g, f]) s = .next (refusal c .range (popped rest s)))


/-! ## The Trunk Port -/

/-- A valid SYNC frame, and the expiries of the SYNC, notice hold, abandoned-window hold and probe timers, each with
its whole effect. (That an expiry moves `now` to its instant is the model's time base: log 2.) -/
def Obligations.SyncAndTimerExpiries : Prop :=
  (∀ s : State,
      exec .sync s =
        .next (bump Ctr.validFrames
          { s with trunk := { s.trunk with linkUp := true, silence := some (s.now + 8000) } }))
    ∧ (∀ s : State,
        exec .syncTimerExpiry s =
          .next { s with
                  now := max s.now s.trunk.syncNext
                  trunk := { s.trunk with syncNext := s.trunk.syncNext + 2000, syncDue := true } })
    ∧ (∀ (s : State) (i : Instant), s.mgmt.notices.hold = some i →
        exec .holdTimerExpiry s =
          .next { s with
                  now := max s.now i
                  mgmt := { s.mgmt with notices := { s.mgmt.notices with hold := none } } })
    ∧ (∀ (s : State) (g : Segment) (i : Instant), (s.seg g).hold = some i →
        exec (.abandonedWindowHoldExpiry g) s =
          .next (modSeg g (fun x => { x with hold := none }) { s with now := max s.now i }))
    ∧ ∀ (s : State) (b : Booth) (i : Instant), (s.boothLine b).probeTimer = some i →
        exec (.probeTimerExpiry b) s =
          .next (modBoothLine b (fun l => { l with probeTimer := none, probeDue := true })
            { s with now := max s.now i })

/-- COMMAND frames join the command queue or are discarded at 8, and every invalid frame is counted under its first
failure alone. (That a row whose fields no valid frame carries is the frame check's own discard: log 6.) -/
def Obligations.FramesQueuedOrDiscarded : Prop :=
  (∀ (o t code : Byte) (args : List Byte) (s : State), args.length ≤ 20 →
      let heard := bump Ctr.validFrames
        { s with trunk := { s.trunk with linkUp := true, silence := some (s.now + 8000) } }
      (s.mgmt.cmdQueue.length < 8 →
        exec (.command o t code args) s =
          .next (bump Ctr.commandsReceived
            { heard with mgmt := { s.mgmt with cmdQueue := s.mgmt.cmdQueue ++ [⟨o, t, code, args⟩] } }))
      ∧ (8 ≤ s.mgmt.cmdQueue.length →
          exec (.command o t code args) s = .next (bump Ctr.commandsDiscarded heard)))
    ∧ (∀ (r : TrunkDiscard) (s : State),
        exec (.trunkFrameDiscarded r) s = .next (bump (Ctr.discardedFrames r) s))
    ∧ (∀ (o t code : Byte) (args : List Byte) (s : State), 20 < args.length →
        exec (.command o t code args) s = .next (bump (Ctr.discardedFrames .wrongLength) s))
    ∧ ∀ (ch : Byte) (s : State), 63 < ch.toNat →
        exec (.answer ch) s = .next (bump (Ctr.discardedFrames .badChannel) s)
          ∧ exec (.clear ch) s = .next (bump (Ctr.discardedFrames .badChannel) s)

/-- The silence timer's expiry: the queues and the hangup-owed set are discarded, and every unanswered call ends
before answer with cause LINK: OUT OF ORDER posted, its HANGUP discarded, its reservation given back, its card list
emptied, a take-out mark honoured, and a drain ended when no other call is left. Every other context keeps its call
(its held digits go into the discard), and its booth is told of the end of a drain alone. (The instant: log 2; the
Trunk Port empties its queues before the calls end: log 7; the marks are honoured before the drain ends: log 41.) -/
def Obligations.LinkLossDiscardsAndEnds : Prop :=
  ∀ (s : State) (i : Instant), s.trunk.silence = some i →
    let drains := s.mgmt.service = .draining ∧ (∃ b, (s.ctx b).state.preAnswer = true)
      ∧ ∀ b, (s.ctx b).state = .free ∨ (s.ctx b).state.preAnswer = true
    let line := fun b =>
      if (s.ctx b).state.preAnswer = true then lineAtCallEnd (toldLine (endSignal .link) (s.boothLine b))
      else s.boothLine b
    ∃ t, exec .silenceTimerExpiry s = .next t
      ∧ t.trunk.linkUp = false ∧ t.trunk.silence = none ∧ t.trunk.sigQueue = [] ∧ t.trunk.waiting = []
      ∧ t.trunk.replyQueue = [] ∧ (∀ ch : Channel, t.trunk.hangupOwed.get ch = false)
      ∧ t.trunk.tx = s.trunk.tx ∧ t.trunk.syncNext = s.trunk.syncNext ∧ t.trunk.syncDue = s.trunk.syncDue
      ∧ (∀ b, (s.ctx b).state.preAnswer = true →
          t.ctx b = { Ctx.reset with hookOff := (s.ctx b).hookOff, endCause := some .link }
            ∧ t.debit b = { s.debit b with cards := [], uncertain := none })
      ∧ (∀ b, (s.ctx b).state.preAnswer = false →
          t.ctx b = { s.ctx b with held := (t.ctx b).held } ∧ t.debit b = s.debit b)
      ∧ (drains → t.mgmt.service = .outOfService
          ∧ ∀ b, t.boothLine b = lineAtDrainEnd (s.entry b).enabled (line b))
      ∧ (¬drains → t.mgmt.service = s.mgmt.service ∧ ∀ b, t.boothLine b = line b)
      ∧ t.ring =
          { s.ring with
            reserved := s.ring.reserved - allBooths.countP fun b => (s.ctx b).state.preAnswer }
      ∧ t = { s with
        now := max s.now i, ctxs := t.ctxs, debits := t.debits, line := { s.line with booths := t.line.booths },
        trunk := t.trunk, ring := t.ring, mgmt := { s.mgmt with service := t.mgmt.service }, counters := t.counters }
      ∧ t.settings = s.settings

/-- ANSWER for a context in ROUTED: the answer instant, SPEECH, P = −s, the tick charge, the first tick 100 ms on,
and the units-due check: the first CANCEL when the set-up charge is owed and a current card with units is there, none
when there is no current card, exhaustion when the card is empty. (The hundredths of the answer instant: log 4.) -/
def Obligations.AnswerStartsCharging : Prop :=
  ∀ (s : State) (ch : Channel) (b : Booth) (p : Snapshot),
    s.channelMap ch = some b → (s.ctx b).state = .routed → (s.ctx b).snap = some p →
    ((s.debit b).outstanding = .none →
      (p.setupCharged = 0 ∨ ∃ i e, s.currentCard b = some (i, e) ∧ e.lastKnown < e.face) →
      ∃ t, exec (.answer (byte ch.val)) s = .next t
        ∧ t.ctx b =
            { s.ctx b with
              state := .speech, answer := some { clock := s.tariff.clock, hundredths := s.hundredths } }
        ∧ (t.debit b).p = -(p.setupCharged : Int) ∧ (t.debit b).charged = p.setupCharged
        ∧ (t.debit b).duration = 0 ∧ (t.debit b).t = some (s.tariff.charge p)
        ∧ (t.debit b).nextTick = some (s.now + 400) ∧ (t.debit b).cards = (s.debit b).cards
        ∧ (p.setupCharged = 0 → (t.debit b).outstanding = .none)
        ∧ (∀ i e, 0 < p.setupCharged → s.currentCard b = some (i, e) →
            (t.debit b).outstanding =
              .cancel { entry := i, n := min (min (ceilDiv p.setupCharged e.unitValue) (e.face - e.lastKnown)) 8,
                        before := e.lastKnown, final := false })
        ∧ t.trunk.linkUp = true ∧ t.trunk.silence = some (s.now + 8000) ∧ t.trunk.sigQueue = s.trunk.sigQueue
        ∧ (∀ x, x ≠ b → t.ctx x = s.ctx x ∧ t.debit x = s.debit x) ∧ t.card = s.card ∧ t.ring = s.ring
        ∧ t.settings = s.settings)
    ∧ ∃ started t : State, exec (.answer (byte ch.val)) s = .next t ∧ UnitsChecked b started t
        ∧ started.ctx b =
            { s.ctx b with
              state := .speech, answer := some { clock := s.tariff.clock, hundredths := s.hundredths } }
        ∧ started.debit b =
            { s.debit b with
              p := -(p.setupCharged : Int), charged := p.setupCharged, duration := 0,
              t := some (s.tariff.charge p), nextTick := some (s.now + 400) }
        ∧ (∀ x, x ≠ b → started.ctx x = s.ctx x ∧ started.debit x = s.debit x)
        ∧ started =
            { s with
              ctxs := started.ctxs, debits := started.debits, counters := started.counters
              trunk := { s.trunk with linkUp := true, silence := some (s.now + 8000) } }

/-- ANSWER elsewhere (the silence timer's start at 2 s of the time base: log 2): HANGUP owed for an unmapped channel
and for a FREE context, an early answer ends the call, and SPEECH, SWAP and ENDING ignore it. (At the end of an
unanswered call that also ends a drain, the take-out mark is honoured first: log 41.) -/
def Obligations.AnswerOutsideRouted : Prop :=
  ∀ (s : State) (ch : Channel),
    let heard := bump Ctr.validFrames
      { s with trunk := { s.trunk with linkUp := true, silence := some (s.now + 8000) } }
    let owing := fun u : State =>
      { u with trunk := { u.trunk with hangupOwed := u.trunk.hangupOwed.set ch.val true ch.isLt } }
    (s.channelMap ch = none → exec (.answer (byte ch.val)) s = .next (owing (bump Ctr.unmappedAnswers heard)))
    ∧ ∀ b, s.channelMap ch = some b →
      ((s.ctx b).state = .free → exec (.answer (byte ch.val)) s = .next (owing (bump Ctr.answersReceived heard)))
      ∧ (((s.ctx b).state = .speech ∨ (s.ctx b).state = .swap ∨ (s.ctx b).state = .ending) →
          exec (.answer (byte ch.val)) s = .next (bump Ctr.answersReceived heard))
      ∧ (((s.ctx b).state = .dialling ∨ (s.ctx b).state = .cardWait) →
          ∃ t, exec (.answer (byte ch.val)) s = .next t
            ∧ EndedBeforeAnswer b .earlyAnswer (bump Ctr.earlyAnswers (bump Ctr.answersReceived heard)) t
            ∧ ∀ f ∈ t.trunk.sigQueue, f.channel = ch → ∃ x, x ≠ b ∧ (s.entry x).channel = ch)

/-- CLEAR by the context's state: ignored when unmapped, FREE or ENDING; an unanswered call ends EXCHANGE CLEARED with
no HANGUP owed; an answered one enters ENDING, where with no request outstanding it asks for a final CANCEL or
completes with its ticket. (The silence timer's start at 2 s of the time base: log 2.) (At the end of an unanswered
call that also ends a drain, the take-out mark is honoured first: log 41.) -/
def Obligations.ClearByState : Prop :=
  ∀ (s : State) (ch : Channel),
    let heard := bump Ctr.validFrames
      { s with trunk := { s.trunk with linkUp := true, silence := some (s.now + 8000) } }
    (s.channelMap ch = none → exec (.clear (byte ch.val)) s = .next (bump Ctr.unmappedClears heard))
    ∧ ∀ b, s.channelMap ch = some b →
      (((s.ctx b).state = .free ∨ (s.ctx b).state = .ending) →
        exec (.clear (byte ch.val)) s = .next (bump Ctr.clearsReceived heard))
      ∧ ((s.ctx b).state.preAnswer = true →
          ∃ t, exec (.clear (byte ch.val)) s = .next t
            ∧ EndedBeforeAnswer b .exchangeCleared (bump Ctr.clearsReceived heard) t
            ∧ t.trunk.hangupOwed = s.trunk.hangupOwed)
      ∧ (((s.ctx b).state = .speech ∨ (s.ctx b).state = .swap) → (s.debit b).outstanding ≠ .none →
          exec (.clear (byte ch.val)) s =
            .next (modDebit b (fun d => { d with nextTick := none, cardLeft := false, stage := .awaitingRequest })
              (modCtx b
                (fun x => { x with exchangeCleared := true, state := .ending, endCause := some .exchangeCleared,
                                   swapWindow := none })
                (bump Ctr.clearsReceived heard))))
      ∧ (((s.ctx b).state = .speech ∨ (s.ctx b).state = .swap) → (s.debit b).outstanding = .none →
          0 ≤ (s.debit b).p →
          ∃ t tk, exec (.clear (byte ch.val)) s = .next t
            ∧ t.ctx b = { Ctx.reset with hookOff := (s.ctx b).hookOff, endCause := some .exchangeCleared }
            ∧ t.ring.tickets = s.ring.tickets ++ [tk] ∧ t.ring.reserved = s.ring.reserved - 1
            ∧ t.ring.nextSeq = seqNext s.ring.nextSeq
            ∧ tk.sequence = s.ring.nextSeq ∧ tk.booth = b ∧ tk.channel = (s.entry b).channel
            ∧ tk.plan = (s.ctx b).plan ∧ tk.cls = (s.ctx b).cls ∧ tk.answer = (s.ctx b).answer
            ∧ tk.duration = (s.debit b).duration ∧ tk.digits = (s.ctx b).digits
            ∧ tk.charged = (s.debit b).charged ∧ tk.endCause = some .exchangeCleared
            ∧ t.trunk.hangupOwed = s.trunk.hangupOwed ∧ t.settings = s.settings)
      ∧ (((s.ctx b).state = .speech ∨ (s.ctx b).state = .swap) → (s.debit b).outstanding = .none →
          ∃ t, exec (.clear (byte ch.val)) s = .next t
            ∧ Settles b
                (ending b .exchangeCleared
                  (modCtx b (fun x => { x with exchangeCleared := true }) (bump Ctr.clearsReceived heard))) t)

/-- The transmitter's order of precedence, what each chosen frame leaves behind, and a completion, which chooses the
next frame as an idle transmitter does. -/
def Obligations.TransmitterPrecedence : Prop :=
  (∀ s : State, s.trunk.tx = none →
      let quiet := s.trunk.syncDue = false ∧ s.trunk.linkUp = true
      let owesNone := ∀ ch : Channel, s.trunk.hangupOwed.get ch = false
      let n := s.mgmt.notices
      (s.trunk.syncDue = true →
        exec .frameTransmitStart s =
          .next (bump Ctr.sentSync { s with trunk := { s.trunk with syncDue := false, tx := some .sync } }))
      ∧ (s.trunk.syncDue = false → s.trunk.linkUp = false → exec .frameTransmitStart s = .next s)
      ∧ (quiet → ∀ ch : Channel, s.trunk.hangupOwed.get ch = true → (∀ x < ch, s.trunk.hangupOwed.get x = false) →
          exec .frameTransmitStart s =
            .next (bump Ctr.sentHangup
              { s with
                trunk :=
                  { s.trunk with
                    hangupOwed := s.trunk.hangupOwed.set ch.val false ch.isLt, tx := some (.hangup ch) } }))
      ∧ (quiet → owesNone → ∀ f q, s.trunk.sigQueue = f :: q →
          ∃ t, exec .frameTransmitStart s = .next t ∧ t.trunk.tx = some (.sig f)
            ∧ (s.trunk.waiting = [] →
                t = bump (if f.isSeize then Ctr.sentSeize else Ctr.sentDigit)
                  { s with trunk := { s.trunk with sigQueue := q, tx := some (.sig f) } })
            ∧ (∀ b r d ds, s.trunk.waiting = b :: r → (s.ctx b).held = d :: ds → s.trunk.sigQueue.length = 64 →
                t.trunk.sigQueue = q ++ [.digit (s.entry b).channel d] ∧ (t.ctx b).held = ds
                  ∧ t.trunk.waiting = if ds = [] then r else r ++ [b]))
      ∧ (quiet → owesNone → s.trunk.sigQueue = [] → ∀ r q, s.trunk.replyQueue = r :: q →
          exec .frameTransmitStart s =
            .next (bump Ctr.sentReply { s with trunk := { s.trunk with replyQueue := q, tx := some (.reply r) } }))
      ∧ (quiet → owesNone → s.trunk.sigQueue = [] → s.trunk.replyQueue = [] →
          ((n.due = false ∨ n.hold ≠ none) → exec .frameTransmitStart s = .next s)
          ∧ (n.due = true → n.hold = none → n.waiting &&& ~~~n.mask = 0#5 →
              exec .frameTransmitStart s =
                .next { s with mgmt := { s.mgmt with notices := { n with due := false } } })
          ∧ (n.due = true → n.hold = none → n.waiting &&& ~~~n.mask ≠ 0#5 →
              exec .frameTransmitStart s =
                .next (bump Ctr.sentNotice
                  { s with
                    trunk := { s.trunk with tx := some (.notice (n.waiting &&& ~~~n.mask) s.tariff.clock) }
                    mgmt :=
                      { s.mgmt with
                        notices :=
                          { n with
                            due := false
                            hold := if n.throttle = 0 then none else some (s.now + n.throttle * 4000) } } }))))
    ∧ ∀ (s : State) (f : OutFrame), s.trunk.tx = some f →
        exec .frameTransmitStart s = .next s
          ∧ exec .frameTransmitComplete s = exec .frameTransmitStart { s with trunk := { s.trunk with tx := none } }

/-! ## The booth lines -/

/-- The arbiter: no grant while a transaction is open or a hold runs, or with no candidate; else the class by follow-on
(unless debit work is a candidate or the follow-on booth is one no longer), burst limit and class order, the booth by
ascending drop address, and the request of that class sent with its tag and window. -/
def Obligations.ArbiterGrantsInOrder : Prop :=
  ∀ (s : State) (g : Segment),
    (((s.seg g).transaction ≠ none ∨ (s.seg g).hold ≠ none) → exec (.arbiterGrant g) s = .next s)
    ∧ ((∀ k b, ¬isCandidate s g k b) → exec (.arbiterGrant g) s = .next s)
    ∧ ((s.seg g).transaction = none → (s.seg g).hold = none →
        (∀ b, 1 ≤ (s.entry b).drop ∧ (s.entry b).drop ≤ 31) → (s.seg g).lastDrop ≤ 31 →
        ∀ (k : WorkClass) (b : Booth), isCandidate s g k b →
        let any := fun k => ∃ x, isCandidate s g k x
        let follow := k = .poll ∧ (s.seg g).followOn = some b ∧ ¬any .debit
        let turn := (∀ f, (s.seg g).followOn = some f → any .debit ∨ ¬isCandidate s g .poll f)
          ∧ (match k with
              | .debit => ¬((s.seg g).burst = 4 ∧ (any .command ∨ any .poll))
              | .command => (s.seg g).burst = 4 ∨ ¬any .debit
              | .poll => ((s.seg g).burst = 4 ∨ ¬any .debit) ∧ ¬any .command)
          ∧ ∀ x, x ≠ b → isCandidate s g k x →
              dropDistance (s.seg g).lastDrop (s.entry b).drop < dropDistance (s.seg g).lastDrop (s.entry x).drop
        (follow ∨ turn) →
        ∃ t r tr, exec (.arbiterGrant g) s = .next t ∧ sends (s.boothLine b) k r
          ∧ (t.seg g).transaction = some tr
          ∧ tr = { booth := b, drop := (s.entry b).drop, tag := (s.seg g).nextTag, request := r,
                   expiry := s.now + (2 ^ max (if r.isCancel then (s.seg g).writeCode else (s.seg g).replyCode) 3 - 1),
                   probe := decide (k = .poll) && decide ((s.boothLine b).health = .lost), orphan := false }
          ∧ t.seg g =
              { s.seg g with
                transaction := some tr, nextTag := (s.seg g).nextTag + 1, lastDrop := (s.entry b).drop,
                burst := if k = .debit then min 4 ((s.seg g).burst + 1) else 0 }
          ∧ t.boothLine b =
              { s.boothLine b with
                signals :=
                  match r with
                  | .signal _ => (s.boothLine b).signals.tail
                  | _ => (s.boothLine b).signals
                probeDue := if k = .poll then false else (s.boothLine b).probeDue }
          ∧ (∀ x, x ≠ b → t.boothLine x = s.boothLine x) ∧ (∀ g', g' ≠ g → t.seg g' = s.seg g')
          ∧ t = bump (Ctr.transactions g) { s with line := t.line } ∧ t.line.map = s.line.map)

/-- A frame that answers no open transaction is counted as stale alone; a garbled frame with none open is counted as
garbled alone, in the hold of an abandoned window too (log 13); a reply that its request does not accept is taken as a
garbled frame. -/
def Obligations.StaleAndGarbledFrames : Prop :=
  ∀ (s : State) (g : Segment) (drop tag : Byte) (reply : BoothReply), reply.parses = true → tag.toNat ≤ 7 →
    ((∀ tr, (s.seg g).transaction = some tr → ¬(tr.tag.val = tag.toNat ∧ tr.drop = drop.toNat)) →
      exec (.staleBoothFrame g drop tag reply) s = .next (bump (Ctr.stale g) s)
        ∧ exec (replyRow g drop tag reply) s = .next (bump (Ctr.stale g) s))
    ∧ ((s.seg g).transaction = none → exec (.boothFrameGarbled g) s = .next (bump (Ctr.garbled g) s))
    ∧ (∀ tr, (s.seg g).transaction = some tr → tr.tag.val = tag.toNat → tr.drop = drop.toNat →
        tr.request.accepts reply = false →
        exec (replyRow g drop tag reply) s = exec (.boothFrameGarbled g) s)

/-- Misses, at a window's expiry or by a garbled frame, by request and health: nothing is lost of a POLL, STATUS,
EJECT, RETAIN or outstanding VERIFY, a SIGNAL goes back to its queue, a CANCEL or VERIFY with no request outstanding
is an unmatched outcome (MissedCancelBecomesVerify has the CANCEL that is outstanding); the booth's miss count rises
and its health follows (the first miss makes an IN SERVICE booth SUSPECT, the third of a READER or TAKEN booth clears
its work). A missed probe starts the probe timer again. A miss or a good reply on a booth disabled or moved meanwhile
closes the transaction and touches nothing of the booth, its miss count and a SUSPECT health included: the model's
reading of R125 (log 17). (The instant of an expiry, from which the probe timer runs: log 2.) -/
def Obligations.MissedPollMakesSuspect : Prop :=
  (∀ (s : State) (g : Segment) (bit : Bool) (b : Booth) (tr : Transaction), OpenTo g (.poll bit) b s tr →
      (s.boothLine b).health = .inService → (s.boothLine b).misses = 0 →
      exec (.replyWindowExpiry g) s =
          .next (modBoothLine b (fun l => { l with misses := 1, health := .suspect })
            (closedMissed g { s with now := max s.now tr.expiry }))
        ∧ exec (.boothFrameGarbled g) s =
          .next (modBoothLine b (fun l => { l with misses := 1, health := .suspect })
            (closedMissed g (bump (Ctr.garbled g) s))))
    ∧ (∀ (s : State) (g : Segment) (r : Request) (b : Booth) (tr : Transaction), OpenTo g r b s tr →
        ¬((s.boothLine b).health = .suspect ∧ 2 ≤ (s.boothLine b).misses) →
        let closes := fun after : State → State =>
          exec (.replyWindowExpiry g) s =
              .next (modBoothLine b missedLine (after (closedMissed g { s with now := max s.now tr.expiry })))
            ∧ exec (.boothFrameGarbled g) s =
              .next (modBoothLine b missedLine (after (closedMissed g (bump (Ctr.garbled g) s))))
        let missed := fun q : List Signal => closes (modBoothLine b (fun l => { l with signals := q }))
        (((∃ bit, r = .poll bit) ∨ r = .status ∨ r = .eject ∨ (∃ serial, r = .retain serial)
            ∨ ((∃ serial, r = .verify serial) ∧ ∃ a, (s.debit b).outstanding = .verify a)) →
          missed (s.boothLine b).signals)
        ∧ (∀ sig, r = .signal sig →
            (TakesWork b s → ∃ q, missed q ∧ SignalReturned sig (s.boothLine b).signals q)
              ∧ (¬TakesWork b s → missed (s.boothLine b).signals))
        ∧ ((s.debit b).outstanding = .none →
            ((∃ serial, r = .verify serial) → closes (bump Ctr.unmatchedOutcomes))
              ∧ ((∃ n serial, r = .cancel n serial) →
                  closes fun u =>
                    bump Ctr.unmatchedOutcomes (modBoothLine b (fun l => { l with debitWork := none }) u))))
    ∧ (∀ (s : State) (g : Segment) (tr : Transaction), (s.seg g).transaction = some tr → tr.probe = true →
        tr.orphan = false → (s.boothLine tr.booth).health = .lost →
        exec (.replyWindowExpiry g) s =
            .next (modBoothLine tr.booth
              (fun l => { l with probeTimer := some (max s.now tr.expiry + s.mgmt.limits.probe * 4000) })
              (closedMissed g { s with now := max s.now tr.expiry }))
          ∧ exec (.boothFrameGarbled g) s =
            .next (modBoothLine tr.booth
              (fun l => { l with probeTimer := some (s.now + s.mgmt.limits.probe * 4000) })
              (closedMissed g (bump (Ctr.garbled g) s))))
    ∧ ∀ (s : State) (g : Segment) (tr : Transaction), (s.seg g).transaction = some tr → tr.orphan = true →
        exec (.replyWindowExpiry g) s = .next (closedMissed g { s with now := max s.now tr.expiry })
          ∧ exec (.boothFrameGarbled g) s = .next (closedMissed g (bump (Ctr.garbled g) s))
          ∧ ∀ (drop tag : Byte) (reply : BoothReply), reply.parses = true → tag.toNat ≤ 7 →
              tr.drop = drop.toNat → tr.tag.val = tag.toNat → tr.request.accepts reply = true →
              exec (replyRow g drop tag reply) s =
                .next (modSeg g (fun x => { x with transaction := none, followOn := none }) s)

/-- A missed CANCEL, at its window's expiry or by a garbled frame, becomes a VERIFY of the same entry, n, count before
and final mark, posted as the booth's debit work (not to a booth that is LOST or DISABLED); then the miss is counted
on the booth by its health, and a third one of a READER or TAKEN booth clears that work too. Balance, card list and
call are as before. (ThirdMissLosesTheBooth has the third miss of a SUSPECT booth. The instant of the expiry: log 2.)
-/
def Obligations.MissedCancelBecomesVerify : Prop :=
  ∀ (s : State) (g : Segment) (n : Nat) (serial : BitVec 32) (b : Booth) (tr : Transaction) (a : Ask) (e : CardEntry),
    OpenTo g (.cancel n serial) b s tr → (s.debit b).outstanding = .cancel a →
    (s.debit b).cards[a.entry]? = some e →
    ¬((s.boothLine b).health = .suspect ∧ 2 ≤ (s.boothLine b).misses) →
    let verifies := fun (work : Option DebitWork) (u : State) =>
      modBoothLine b missedLine
        (bump Ctr.verifiesPosted
          (modBoothLine b (fun l => { l with debitWork := work })
            (modDebit b (fun d => { d with outstanding := .verify a }) (closedMissed g u))))
    let becomes := fun work : Option DebitWork =>
      exec (.replyWindowExpiry g) s = .next (verifies work { s with now := max s.now tr.expiry })
        ∧ exec (.boothFrameGarbled g) s = .next (verifies work (bump (Ctr.garbled g) s))
    (TakesWork b s → becomes (some (.verify e.serial))) ∧ (¬TakesWork b s → becomes none)

/-- The third miss in a row, of any request, at its window's expiry or by a garbled frame: the booth is LOST, its work is
cleared, its probe timer runs (from the model's time base, which an expiry moves to its instant: log 2), a BOOTH LOST
fault is reported, its call is ended and its slot emptied. A booth that carries a take-out mark and has a call becomes
TAKEN instead when the call ends, with its probe timer stopped. Other booths are as before, but for what the end of a
call does to them: a held digit forwarded, and OUT OF ORDER where it ends a drain. -/
def Obligations.ThirdMissLosesTheBooth : Prop :=
  ∀ (s : State) (g : Segment) (r : Request) (b : Booth) (tr : Transaction), OpenTo g r b s tr →
    (s.boothLine b).health = .suspect → (s.boothLine b).misses = 2 →
    let loses := fun (now : Instant) (t : State) =>
      LeavesService b .boothLost
          { kind := .boothLost, booth := b, plan := (s.entry b).plan, digits := [], card := (s.slot b).identity,
            clock := s.tariff.clock }
          { clearedLine (s.boothLine b) with
            health := .lost, misses := 3, probeTimer := some (now + s.mgmt.limits.probe * 4000), probeDue := false }
          s t
        ∧ t.now = now ∧ t.seg g = { s.seg g with transaction := none, followOn := none }
        ∧ ∀ g', g' ≠ g → t.seg g' = s.seg g'
    (∃ t, exec (.replyWindowExpiry g) s = .next t ∧ loses (max s.now tr.expiry) t)
      ∧ ∃ t, exec (.boothFrameGarbled g) s = .next t ∧ loses s.now t

/-- ACK closes a SIGNAL, an EJECT and a RETAIN. -/
def Obligations.AckServesItsRequest : Prop :=
  ∀ (s : State) (g : Segment) (drop tag : Byte) (b : Booth), tag.toNat ≤ 7 →
    (∀ sig, Answers g drop tag (.signal sig) b s → exec (.ack g drop tag) s = .next (closedGood g b none s))
    ∧ (Answers g drop tag .eject b s →
        exec (.ack g drop tag) s =
          .next (bump Ctr.ejectsAcknowledged
            (modBoothLine b (fun l => { l with cardAction := l.cardNext, cardNext := none })
              (closedGood g b none s))))
    ∧ ∀ serial r reason, Answers g drop tag (.retain serial) b s → s.slot b = .refused r reason .retain →
        exec (.ack g drop tag) s =
          .next (bump Ctr.retainsDone (setSlot b .empty
            (modBoothLine b (fun l => { l with cardAction := l.cardNext, cardNext := none })
              (closedGood g b none s))))

/-- DONE to the outstanding CANCEL, and COUNT of the entry's card to the outstanding VERIFY, confirm k = count − count
before units when k lies in 0 to n, and show the customer the units that remain when k is 1 or more. Then the call
goes on by its state: SWAP waits, in SPEECH the units-due check runs, in ENDING the settle goes on. A good reply to a
CANCEL or VERIFY that finds no request outstanding is an unmatched outcome: discarded and counted. (The units shown
for a count above the face are a free value: log 20. An uncertain record of the same entry: log 37.) -/
def Obligations.CountsConfirmUnits : Prop :=
  (∀ (s : State) (g : Segment) (drop tag : Byte) (b : Booth) (a : Ask) (e : CardEntry) (count : BitVec 16),
    tag.toNat ≤ 7 → (s.debit b).cards[a.entry]? = some e →
    a.before ≤ count.toNat → count.toNat ≤ a.before + a.n →
    let replies := fun o : Host.Outcome State Fault Refusal =>
      (((s.ctx b).state = .swap
          ∨ ((s.ctx b).state = .speech
              ∧ 0 ≤ (s.debit b).p + ((count.toNat - a.before) * e.unitValue : Nat))) →
        ∃ t, o = .next t ∧ Confirms b a.entry (count.toNat - a.before) count.toNat e s t
          ∧ (t.boothLine b).debitWork = none)
      ∧ ∃ s1 t, o = .next t ∧ Confirms b a.entry (count.toNat - a.before) count.toNat e s s1
          ∧ Shown (1 ≤ count.toNat - a.before) b a.entry count.toNat e s s1
          ∧ (s1.boothLine b).debitWork = none
          ∧ ((s.ctx b).state = .speech → UnitsChecked b s1 t)
          ∧ ((s.ctx b).state = .ending → SettlesOn b a.final s1 t)
          ∧ ((s.ctx b).state ≠ .speech → (s.ctx b).state ≠ .ending → t = s1)
    (∀ n serial, Answers g drop tag (.cancel n serial) b s → (s.debit b).outstanding = .cancel a →
      replies (exec (.done g drop tag count) s))
    ∧ (∀ serial, Answers g drop tag (.verify serial) b s → (s.debit b).outstanding = .verify a →
      replies (exec (.count g drop tag e.series e.serial count) s)))
  ∧ ∀ (s : State) (g : Segment) (drop tag : Byte) (b : Booth) (r : Request) (reply : BoothReply), tag.toNat ≤ 7 →
      ((∃ n serial, r = .cancel n serial) ∨ ∃ serial, r = .verify serial) → Answers g drop tag r b s →
      r.accepts reply = true → (∀ count, reply ≠ .fail .readerFault count) → (s.debit b).outstanding = .none →
      exec (replyRow g drop tag reply) s =
        .next (bump Ctr.unmatchedOutcomes
          (modBoothLine b (fun l => { l with debitWork := none }) (closedGood g b none s)))

/-- A count outside count before to count before + n, in DONE, in FAIL WRITE ERROR or in COUNT of the entry's card, is
a count fault: no unit is credited, the entry is flagged, a CARD COUNT fault is reported, and a call in SPEECH or SWAP
ends CARD FAULT, with its ticket at once unless another card of the call is there to ask. A count found at STATUS for
a card that stayed in its slot is taken without a request: compared with the entry's last known count, or as the late
resolution of an uncertain cancel. (The model's readings in that: an entry that the record and the request both name,
log 37; no units-due check after a late resolution, log 35; a fault that clears a request on another entry and settles
by its mark, log 14; a record whose entry has a count fault, of which nothing is said here: log 32.) -/
def Obligations.CountOutOfRangeEndsTheCall : Prop :=
  (∀ (s : State) (g : Segment) (drop tag : Byte) (b : Booth) (a : Ask) (e : CardEntry) (count : BitVec 16)
      (r : Request) (reply : BoothReply),
    tag.toNat ≤ 7 → (s.debit b).cards[a.entry]? = some e →
    (count.toNat < a.before ∨ a.before + a.n < count.toNat) →
    Answers g drop tag r b s →
    ((s.debit b).outstanding = .cancel a ∧ (∃ n serial, r = .cancel n serial)
          ∧ (reply = .done count ∨ reply = .fail .writeError count)
        ∨ (s.debit b).outstanding = .verify a ∧ (∃ serial, r = .verify serial)
          ∧ reply = .count e.series e.serial count) →
    (((s.ctx b).state = .speech ∨ (s.ctx b).state = .swap) →
      (∀ i e', s.currentCard b = some (i, e') → i = a.entry) →
      ∃ t tk, exec (replyRow g drop tag reply) s = .next t
        ∧ t.ring.tickets = s.ring.tickets ++ [tk] ∧ tk.endCause = some .cardFault
        ∧ tk.charged = (s.debit b).charged
        ∧ tk.shortfall = min 4294967295 ((s.debit b).charged - (s.debit b).covered)
        ∧ (t.ctx b).state = .free ∧ (t.ctx b).endCause = some .cardFault
        ∧ (t.debit b).p = (s.debit b).p ∧ (t.debit b).covered = (s.debit b).covered ∧ (t.debit b).cards = []
        ∧ (s.mgmt.faultHeld = none →
            t.mgmt.faultHeld =
              some { kind := .cardCount, booth := b, plan := (s.ctx b).plan,
                     digits := (s.ctx b).digits.take (s.ctx b).depth, card := some (e.series, e.serial),
                     clock := s.tariff.clock })
        ∧ t.settings = s.settings)
    ∧ ∃ t, exec (replyRow g drop tag reply) s = .next t
        ∧ CountFault b a.entry e
            (modBoothLine b (fun l => { l with debitWork := none }) (closedGood g b none s)) t)
  ∧ ∀ (s : State) (b : Booth) (r r' : CardRecord) (v w l : Nat), s.slot b = .valid r' v w l →
      r'.series = r.series → r'.serial = r.serial →
      let t := boothEvent b true (.cardIn r) s
      let heard := bump Ctr.cardsIn s
      let found := setSlot b (.valid r' v w r.cancelled.toNat) heard
      (r.cancelled.toNat = l → t = heard)
      ∧ (r.cancelled.toNat ≠ l →
          (s.ctx b).state.preAnswer = true ∧ (s.ctx b).state ≠ .routed ∨ (s.ctx b).state = .free
            ∨ ¬NeedsCard b s ∨ Unlisted b r.series r.serial s → t = found)
      ∧ ∀ i e, r.cancelled.toNat ≠ l → NeedsCard b s → Listed b r.series r.serial i e s →
          (((s.ctx b).state = .speech ∨ (s.ctx b).state = .swap ∨ (s.ctx b).state = .ending) →
            CountTaken b i r.cancelled.toNat e found t)
          ∧ ((s.ctx b).state = .routed → i = 0 →
              t = modDebit b (fun d =>
                { d with cards := d.cards.modify 0 fun x => { x with lastKnown := r.cancelled.toNat } }) found)

/-- FAIL by request and reason. To CANCEL: NO CARD or WRONG CARD credits nothing, WRITE ERROR with a count in range
confirms its units without showing them and releases the card. To VERIFY: any but READER FAULT, as a COUNT of another
identity, makes the cancel uncertain. The call goes on by its state: SPEECH enters SWAP, ENDING settles on. NO CARD to
EJECT empties a REFUSED slot; NO CARD or WRONG CARD to RETAIN is counted. READER FAULT, to any request, to a probe or as
an event of a batch, puts the booth OUT OF SERVICE (READER), or TAKEN when it carries a take-out mark, with its call
ended, its slot empty and its hook state ON (log 9); of a booth READER already only the fault is taken (log 34). -/
def Obligations.FailByRequestAndReason : Prop :=
  (∀ (s : State) (g : Segment) (drop tag : Byte) (b : Booth) (count : BitVec 16), tag.toNat ≤ 7 →
    let closed := modBoothLine b (fun l => { l with debitWork := none }) (closedGood g b none s)
    (∀ n serial a reason, (reason = .noCard ∨ reason = .wrongCard) → Answers g drop tag (.cancel n serial) b s →
      (s.debit b).outstanding = .cancel a →
      ∃ t, exec (.fail g drop tag reason count) s = .next t
        ∧ GoesOnCardless b a.final
            (bump Ctr.noCardReplies (modDebit b (fun d => { d with outstanding := .none }) closed)) t)
    ∧ (∀ n serial a e, Answers g drop tag (.cancel n serial) b s → (s.debit b).outstanding = .cancel a →
        (s.debit b).cards[a.entry]? = some e → a.before ≤ count.toNat → count.toNat ≤ a.before + a.n →
        ∃ s1 s2 t, exec (.fail g drop tag .writeError count) s = .next t
          ∧ Confirms b a.entry (count.toNat - a.before) count.toNat e s s1
          ∧ Shown False b a.entry count.toNat e s s1 ∧ (s1.boothLine b).debitWork = none
          ∧ WriteErrorReleased b e s1 s2
          ∧ ((s.ctx b).state = .speech →
              t = bump Ctr.swapEntries (modCtx b (fun c => swapped c s.now s.mgmt.limits.swapWindow .credit) s2))
          ∧ ((s.ctx b).state = .ending → SettlesOn b a.final s2 t)
          ∧ ((s.ctx b).state ≠ .speech → (s.ctx b).state ≠ .ending → t = s2))
    ∧ (∀ serial a e reply, Answers g drop tag (.verify serial) b s → (s.debit b).outstanding = .verify a →
        (s.debit b).cards[a.entry]? = some e →
        ((∃ reason, reason ≠ .readerFault ∧ reply = .fail reason count)
          ∨ ∃ series' serial', ¬(series' = e.series ∧ serial' = e.serial) ∧ reply = .count series' serial' count) →
        ∃ s1 t, exec (replyRow g drop tag reply) s = .next t ∧ MadeUncertain b a e closed s1
          ∧ GoesOnCardless b a.final s1 t)
    ∧ (∀ r x action, Answers g drop tag .eject b s → s.slot b = .refused r x action →
        exec (.fail g drop tag .noCard count) s =
          .next (setSlot b .empty
            (modBoothLine b (fun l => { l with cardAction := l.cardNext, cardNext := none })
              (closedGood g b none s))))
    ∧ (∀ serial reason, (reason = .noCard ∨ reason = .wrongCard) → Answers g drop tag (.retain serial) b s →
        exec (.fail g drop tag reason count) s =
          .next (bump Ctr.retainsFailed
            (modBoothLine b (fun l => { l with cardAction := l.cardNext, cardNext := none })
              (closedGood g b none s))))
    ∧ ∀ tr, (s.seg g).transaction = some tr → tr.drop = drop.toNat → tr.tag.val = tag.toNat → tr.booth = b →
        tr.orphan = false →
        ∃ t, exec (.fail g drop tag .readerFault count) s = .next t
          ∧ ReaderFaultTaken b (modBoothLine b (servedLine tr.request) (closedGood g b none s)) t)
  ∧ ∀ (s : State) (b : Booth) (m : Bool), ReaderFaultTaken b s (boothEvent b m .readerFault s)

/-- EVENTS: a batch under the expected bit flips it and hands its events on in order; one under the other bit is
discarded, and its MORE sets no follow-on booth (log 35); a STATUS reply clears STATUS due, hands its events on with
the marker (every event, a DIGIT and a CARD OUT too: log 26), and a CARD OUT when it reports no card; a probe's reply
brings the booth back into service without its events. -/
def Obligations.EventsByRequest : Prop :=
  ∀ (s : State) (g : Segment) (drop tag : Byte) (b : Booth) (more batch : Bool) (evs : List BoothEvent),
    tag.toNat ≤ 7 → evs.length ≤ 4 → (∀ e ∈ evs, e.parses = true) →
    (∀ bit, Answers g drop tag (.poll bit) b s →
      (batch = (s.boothLine b).expectBit →
        exec (.events g drop tag more batch false evs) s =
          .next (evs.foldl (fun u e => boothEvent b false e u) (batchTaken g b more s)))
      ∧ (batch ≠ (s.boothLine b).expectBit →
          exec (.events g drop tag more batch false evs) s = .next (closedGood g b none s)))
    ∧ (Answers g drop tag .status b s →
        let s1 := modBoothLine b
          (fun l => { l with statusDue := false, firstStatus := false,
                             expectBit := if l.firstStatus then !batch else l.expectBit })
          (closedGood g b none s)
        exec (.events g drop tag more batch true evs) s =
          .next (if evs.any BoothEvent.isCardIn then evs.foldl (fun u e => boothEvent b true e u) s1
            else boothEvent b false .cardOut (evs.foldl (fun u e => boothEvent b true e u) s1)))
    ∧ (∀ tr bit, (s.seg g).transaction = some tr → tr.drop = drop.toNat → tr.tag.val = tag.toNat →
        tr.request = .poll bit → tr.booth = b → tr.probe = true → tr.orphan = false →
        (s.boothLine b).health = .lost →
        exec (.events g drop tag more batch false evs) s =
          .next (modBoothLine b
            (fun l => { l with
              health := .inService, misses := 0, probeTimer := none, probeDue := false, statusDue := true,
              signals := joinSignal (if s.mgmt.service = .inService then .inOrder else .outOfOrder) l.signals })
            (modSeg g (fun x => { x with transaction := none, followOn := none }) s)))

/-! ## Calls: the events a batch hands on (EventsByRequest says how a batch reaches them) -/

/-- HOOK OFF in FREE: admitted when the six conditions of R3 hold, in one event; else refused with the first that fails,
signalled and counted, the context FREE. -/
def Obligations.HookOffAdmission : Prop :=
  ∀ (s : State) (b : Booth), (s.ctx b).state = .free →
    let e := s.entry b
    let l := s.boothLine b
    let plan := s.route.plans.get e.plan
    let lifted := modCtx b (fun c => { c with hookOff := true }) s
    let c1 := s.mgmt.service = .inService
    let c2 := s.trunk.linkUp = true
    let c3 := (l.health = .inService ∨ l.health = .suspect) ∧ l.mark = false
    let c4 := plan.enabled = true
    let c5 := s.ring.tickets.length + s.ring.reserved < 512
    let c6 := s.trunk.sigQueue.length < 64
    let refuse := fun (cause : RefusalCause) (sig : Signal) => bump (Ctr.refusal cause) (postSignal b sig lifted)
    (c1 → c2 → c3 → c4 → c5 → c6 →
      boothEvent b false .hookOff s =
        bump Ctr.admissions
          { lifted with
            ctxs := lifted.ctxs.set b.val
              { s.ctx b with
                state := .dialling, hookOff := true, plan := e.plan, node := plan.root, depth := 0,
                walk := .walking, cls := none, snap := none, digits := [], truncated := false, held := [],
                digitWait := some (s.now + s.mgmt.limits.digitWait * 4000), answer := none,
                exchangeCleared := false, endCause := none } b.isLt
            debits := s.debits.set b.val Debit.reset b.isLt
            ring := { s.ring with reserved := s.ring.reserved + 1 }
            trunk := { s.trunk with sigQueue := s.trunk.sigQueue ++ [.seize e.channel] } })
    ∧ (¬c1 → boothEvent b false .hookOff s = refuse .service .outOfOrder)
    ∧ (c1 → ¬c2 → boothEvent b false .hookOff s = refuse .link .outOfOrder)
    ∧ (c1 → c2 → ¬c3 → boothEvent b false .hookOff s = refuse .booth (.callRefused (.refused .booth)))
    ∧ (c1 → c2 → c3 → ¬c4 → boothEvent b false .hookOff s = refuse .plan (.callRefused (.refused .plan)))
    ∧ (c1 → c2 → c3 → c4 → ¬c5 →
        boothEvent b false .hookOff s = notePending .ringFull (refuse .ringFull (.callRefused (.refused .ringFull))))
    ∧ (c1 → c2 → c3 → c4 → c5 → ¬c6 →
        boothEvent b false .hookOff s = refuse .linkBusy (.callRefused (.refused .linkBusy)))

/-- A DIGIT in DIALLING that misses the Tariff Cache takes the tree entry: BRANCH goes on and forwards the digit,
EMPTY, BAR and a faulting BRANCH or LEAF end the call before answer, a leaf fills the cache and, when CARDLESS, routes
the call, else it makes the credit check of a VALID card, which joins the card list with LOW CREDIT where it is low, or
signals INSERT CARD and waits for one; a hit takes the cached class. A forwarded
digit is queued, or held with the booth on the waiting list when others are held or the queue is full. `*` and `#` end
the call UNOBTAINABLE. A DIGIT in CARD WAIT is held, after the leaf it is forwarded, and in FREE and ENDING it is
discarded and counted. (Card and slot in the credit check: log 33. A digit after the leaf that finds the held list
full too: log 19. The take-out mark at the end of a call that also ends a drain: log 41.) -/
def Obligations.DigitWalksOneLevel : Prop :=
  (∀ (s : State) (b : Booth) (d : Digit), (s.ctx b).state = .dialling → d.val < 10 →
    let c := s.ctx b
    let str := c.digits ++ [d]
    let tag := (s.route.plans.get c.plan).tag
    let t := boothEvent b false (.digit d) s
    let misses := ∀ x ∈ s.route.cache, ¬(x.digits = str ∧ (x.scope = .common ∨ x.scope = .tag tag))
    let read := s.route.treeEntry c.node d
    let freed := fun (cause : EndCause) (kept : State → Prop) =>
      ∃ s1, EndedBeforeAnswer b cause s1 t ∧ kept s1 ∧ (s1.ctx b).hookOff = c.hookOff
        ∧ (∀ x, x ≠ b → s1.ctx x = s.ctx x)
        ∧ s1 = { s with ctxs := s1.ctxs, route := s1.route, mgmt := s1.mgmt, counters := s1.counters }
    let quietly := fun s1 : State => s1.mgmt = s.mgmt
    let ended := fun cause => freed cause quietly ∧ t.route = s.route
    let faulted := fun kind =>
      freed .barred
        (FaultTaken
          { kind := kind, booth := b, plan := c.plan, digits := str, card := none, clock := s.tariff.clock } s)
    let leafTaken := fun (cls : Fin 256) (common : Bool) (r : ClassRecord) (cardless : Bool) =>
      let snap : Snapshot :=
        { cls := cls, setup := r.setup, base := r.base, profile := r.profile, cardless := cardless }
      let due := r.setup + s.tariff.charge snap
      let routed : Ctx :=
        { c with state := .routed, depth := c.depth + 1, walk := .leaf cls common, cls := some cls, snap := some snap,
                 digits := str, digitWait := none }
      (cardless = true →
        t.ctx b = { routed with held := (t.ctx b).held } ∧ Forwarded b d s t ∧ t.card = s.card ∧ t.line = s.line
          ∧ t.ring = s.ring)
      ∧ (cardless = false →
          (∀ x v w l, s.slot b = .valid x v w l →
            ((due : Int) ≤ ((x.face.toNat : Int) - (l : Int)) * (v : Int) →
              t.ctx b = { routed with cardWait := none, held := (t.ctx b).held }
                ∧ Forwarded b d s t ∧ t.card = s.card ∧ t.ring = s.ring
                ∧ let e : CardEntry :=
                    { series := x.series, serial := x.serial, face := x.face.toNat, unitValue := v, warn := w,
                      cancelled := 0, lastKnown := l, warned := false, countFault := false }
                  t.debit b =
                      { s.debit b with cards := (s.debit b).cards ++ [{ e with warned := warnsAt l e }] }
                    ∧ t.boothLine b = toldLine (if warnsAt l e then some .lowCredit else none) (s.boothLine b)
                    ∧ ∀ y, y ≠ b → t.debit y = s.debit y ∧ t.boothLine y = s.boothLine y)
            ∧ (((x.face.toNat : Int) - (l : Int)) * (v : Int) < (due : Int) → freed .credit quietly))
          ∧ ((∀ x v w l, s.slot b ≠ .valid x v w l) →
              t.ctx b = { routed with state := .cardWait, held := c.held ++ [d]
                                      cardWait := some (s.now + s.mgmt.limits.cardWait * 4000) }
                ∧ t.trunk = { s.trunk with waiting := s.trunk.waiting.filter fun x => !decide (x = b) }
                ∧ t.ring = s.ring ∧ t.boothLine b = toldLine (some .insertCard) (s.boothLine b)
                ∧ ∀ y, y ≠ b → t.boothLine y = s.boothLine y))
    (∀ next, misses → read = .branch next → c.depth < 7 →
      t.ctx b = { c with node := next, depth := c.depth + 1, digits := str, held := (t.ctx b).held
                         digitWait := some (s.now + s.mgmt.limits.digitWait * 4000) }
        ∧ Forwarded b d s t ∧ t.card = s.card ∧ t.line = s.line ∧ t.route = s.route ∧ t.ring = s.ring)
    ∧ (misses → read = .empty → ended .unobtainable)
    ∧ (misses → read = .bar → ended .barred)
    ∧ (∀ next, misses → read = .branch next → 7 ≤ c.depth → faulted .tree ∧ t.route = s.route)
    ∧ (∀ cls common, misses → read = .leaf cls common → (s.tariff.classRecord cls).defined = false →
        faulted .cls ∧ t.route = s.route)
    ∧ (∀ cls common r, misses → read = .leaf cls common → s.tariff.classRecord cls = r → r.defined = true →
        leafTaken cls common r r.cardless
          ∧ t.route.cache =
              ({ digits := str, scope := if common then .common else .tag tag, cls := cls, cardless := r.cardless } ::
                (if common then s.route.cache.filter (fun x => !decide (x.digits = str)) else s.route.cache)).take 32)
    ∧ (∀ x r, s.route.cache.find? (fun x => decide (x.digits = str)
            && (decide (x.scope = .common) || decide (x.scope = .tag tag))) = some x →
        s.tariff.classRecord x.cls = r →
        t.route.cache = x :: s.route.cache.erase x
        ∧ (r.defined = true →
            leafTaken x.cls (decide (x.scope = .common)) r x.cardless
              ∧ t.counter Ctr.cacheFills = s.counter Ctr.cacheFills)
        ∧ (r.defined = false → faulted .cls)))
  ∧ (∀ (s : State) (b : Booth) (d : Digit), (s.ctx b).state = .dialling → 10 ≤ d.val →
      EndedBeforeAnswer b .unobtainable s (boothEvent b false (.digit d) s))
  ∧ (∀ (s : State) (b : Booth) (d : Digit),
      let t := boothEvent b false (.digit d) s
      let c := s.ctx b
      (((c.state = .free ∨ c.state = .ending) ∨ (c.state = .cardWait ∧ 20 ≤ c.digits.length)) →
        t = bump Ctr.digitsDiscarded s)
      ∧ (c.state = .cardWait → c.digits.length < 20 →
          t = modCtx b (fun c => { c with digits := c.digits ++ [d], held := c.held ++ [d] }) s)
      ∧ ((c.state = .routed ∨ c.state = .speech ∨ c.state = .swap) →
          let stored := fun c : Ctx =>
            if c.digits.length < 20 then { c with digits := c.digits ++ [d] } else { c with truncated := true }
          (c.held = [] → s.trunk.linkUp = false → t = bump Ctr.signallingDiscarded (modCtx b stored s))
          ∧ (20 ≤ c.held.length →
              t = bump Ctr.digitsDiscarded
                (modCtx b (fun c => if c.digits.length < 20 then stored c else c) s))
          ∧ (c.held = [] → s.trunk.linkUp = true → s.trunk.sigQueue.length < 64 →
            t = { modCtx b stored s with
                  trunk := { s.trunk with sigQueue := s.trunk.sigQueue ++ [.digit (s.entry b).channel d] } })
          ∧ ((c.held ≠ [] ∨ (s.trunk.linkUp = true ∧ 64 ≤ s.trunk.sigQueue.length)) → c.held.length < 20 →
              t = { modCtx b (fun c => { stored c with held := c.held ++ [d] }) s with
                    trunk :=
                      { s.trunk with
                        waiting := if b ∈ s.trunk.waiting then s.trunk.waiting else s.trunk.waiting ++ [b] } })))

/-- CARD IN at an EMPTY slot of a booth with no call: OUT OF SERVICE refuses it unchecked; else the first of the seven
checks that it fails refuses it with its reason and action, and a card that fails none is accepted. A card accepted in
CARD WAIT makes the credit check: it routes the call and releases its held digits, or ends it CREDIT. A card accepted
in SWAP is offered to the call: a card of its list has its count taken and brings the call back to SPEECH, a new one
joins the list and does so too, a fifth is released CARD LIMIT; in ENDING a card of the list has its count taken too,
and no card joins. In any other state, and in a CARDLESS call, the acceptance moves no call. At a slot not EMPTY the old card gives way first as at a CARD OUT, and the new one is judged as at an EMPTY slot. CARD OUT
empties the slot: a pulled card ends a ROUTED call, moves SPEECH to SWAP, and marks a settle. (The model's readings:
an unsent card action of a card replaced, log 10; one sent and missed, log 38; the slot's count in the credit check,
log 33; a count taken without a request, logs 14, 32, 35 and 37.) (At the end of an unanswered call that also ends a
drain, the take-out mark is honoured first: log 41.) -/
def Obligations.CardInIsValidated : Prop :=
  (∀ (s : State) (b : Booth) (m : Bool) (r : CardRecord), s.slot b = .empty → (s.ctx b).state = .free →
    NoActionWaits b s → (s.boothLine b).health = .inService →
    let t := boothEvent b m (.cardIn r) s
    let shown := fun (sig : Signal) => (t.boothLine b).signals = joinSignal sig (s.boothLine b).signals
    let refused := fun (reason : CardReason) =>
      t.slot b = .refused r reason .eject ∧ shown (.cardRefused reason) ∧ (t.boothLine b).cardAction = some .eject
    (s.mgmt.service = .outOfService →
      t.slot b = .refused r .outOfOrder .eject ∧ shown .outOfOrder ∧ (t.boothLine b).cardAction = some .eject)
    ∧ (s.mgmt.service ≠ .outOfService → r.check ≠ crc16 r.body → refused .check)
    ∧ (s.mgmt.service ≠ .outOfService → r.check = crc16 r.body → ¬SoundRecord r → refused .check)
    ∧ (s.mgmt.service ≠ .outOfService → r.check = crc16 r.body → SoundRecord r →
        (∀ k : Fin 32, (s.card.series.get k).code = r.series → (s.card.series.get k).state = .unused) →
        refused .unknownSeries)
    ∧ (∀ k : Fin 32, s.mgmt.service ≠ .outOfService → r.check = crc16 r.body → SoundRecord r → SeriesAt k r.series s →
        ((s.card.series.get k).state = .withdrawn → refused .withdrawn)
        ∧ ((s.card.series.get k).state = .active → ¬InDate r s.tariff.clock → refused .expired)
        ∧ ((s.card.series.get k).state = .active → InDate r s.tariff.clock → r.cancelled.toNat = r.face.toNat →
            refused .empty)
        ∧ ((s.card.series.get k).state = .active → InDate r s.tariff.clock → r.cancelled.toNat < r.face.toNat →
          ((∀ x ∈ s.card.stop.chain (bucketOf r.series r.serial), ¬(x.series = r.series ∧ x.serial = r.serial)) →
            t.slot b = .valid r (s.card.series.get k).unitValue (s.card.series.get k).warn r.cancelled.toNat
              ∧ shown (.showUnits (r.face.toNat - r.cancelled.toNat))
              ∧ (t.boothLine b).cardAction = (s.boothLine b).cardAction)
          ∧ (∀ x ∈ s.card.stop.chain (bucketOf r.series r.serial), x.series = r.series → x.serial = r.serial →
              (∀ y ∈ s.card.stop.chain (bucketOf r.series r.serial), y.series = r.series → y.serial = r.serial →
                y = x) →
              t.slot b = .refused r .stopped x.action ∧ shown (.cardRefused .stopped)
                ∧ (t.boothLine b).cardAction = some (match x.action with
                    | .eject => .eject
                    | .retain => .retain r.serial)
                ∧ t.mgmt.notices.waiting.getLsbD 4 = true)))
    ∧ t.ctx b = s.ctx b ∧ (∀ x, x ≠ b → t.slot x = s.slot x ∧ t.ctx x = s.ctx x)
    ∧ t.card.series = s.card.series ∧ t.card.stop = s.card.stop ∧ t.trunk = s.trunk ∧ t.settings = s.settings)
  ∧ (∀ (s : State) (b : Booth) (m : Bool) (r : CardRecord) (v w : Nat), s.slot b = .empty → Acceptable r v w s →
      let t := boothEvent b m (.cardIn r) s
      let back := fun u : State =>
        bump Ctr.swapReturns (modCtx b (fun c => { c with state := .speech, swapWindow := none }) u)
      let low := r.face.toNat - r.cancelled.toNat ≤ w
      let entry : CardEntry :=
        { series := r.series, serial := r.serial, face := r.face.toNat, unitValue := v, warn := w, cancelled := 0,
          lastKnown := r.cancelled.toNat, warned := decide low, countFault := false }
      let warned := toldLine (if low then some .lowCredit else none)
      ∃ s0 u : State, t = bump Ctr.cardsAccepted u
        ∧ s0 = { s with card := { s.card with slots := s0.card.slots }, line := s0.line, counters := s0.counters }
        ∧ s0.slot b = .valid r v w r.cancelled.toNat
        ∧ (TakesWork b s → s0.boothLine b =
            { s.boothLine b with
              signals := joinSignal (.showUnits (r.face.toNat - r.cancelled.toNat)) (s.boothLine b).signals })
        ∧ (¬TakesWork b s → s0.boothLine b = s.boothLine b)
        ∧ (∀ x, x ≠ b → s0.slot x = s.slot x ∧ s0.boothLine x = s.boothLine x)
        ∧ (((s.ctx b).state = .free ∨ (s.ctx b).state = .dialling ∨ (s.ctx b).state = .routed ∨ (s.ctx b).state = .speech
            ∨ ¬NeedsCard b s) → u = s0)
        ∧ (∀ p, NeedsCard b s → (s.ctx b).state = .cardWait → (s.ctx b).snap = some p →
          let due := p.setup + s.tariff.charge p
          let worth := (r.face.toNat - r.cancelled.toNat) * v
          let ch := (s.entry b).channel
          let sent := if s.trunk.linkUp then min (64 - s.trunk.sigQueue.length) (s.ctx b).held.length
            else (s.ctx b).held.length
          let left := (s.ctx b).held.drop sent
          (due ≤ worth →
            u.ctx b = { s.ctx b with state := .routed, digitWait := none, cardWait := none, held := left }
              ∧ u.debit b = { s.debit b with cards := (s.debit b).cards ++ [entry] }
              ∧ u.trunk =
                  { s.trunk with
                    sigQueue := s.trunk.sigQueue
                      ++ if s.trunk.linkUp then ((s.ctx b).held.take sent).map (.digit ch) else []
                    waiting :=
                      if left = [] ∨ b ∈ s.trunk.waiting then s.trunk.waiting else s.trunk.waiting ++ [b] }
              ∧ u.boothLine b = warned (s0.boothLine b)
              ∧ (∀ x, x ≠ b → u.ctx x = s.ctx x ∧ u.debit x = s.debit x ∧ u.boothLine x = s.boothLine x)
              ∧ u = { s0 with ctxs := u.ctxs, debits := u.debits, trunk := u.trunk, line := u.line,
                              counters := u.counters })
          ∧ (worth < due →
              EndedBeforeAnswer b .credit s0 u ∧ u.slot b = .valid r v w r.cancelled.toNat))
        ∧ (NeedsCard b s → (s.ctx b).state = .swap →
          (∀ i e, Listed b r.series r.serial i e s →
            ∃ s1, CountTaken b i r.cancelled.toNat e s0 s1
              ∧ ((s1.ctx b).state = .swap → UnitsChecked b (back s1) u) ∧ ((s1.ctx b).state ≠ .swap → u = s1))
          ∧ (Unlisted b r.series r.serial s → (s.debit b).cards.length < 4 →
              ∃ joined, UnitsChecked b (back joined) u
                ∧ joined.debit b = { s.debit b with cards := (s.debit b).cards ++ [entry] }
                ∧ joined.boothLine b = warned (s0.boothLine b)
                ∧ joined = { s0 with debits := joined.debits, line := joined.line }
                ∧ ∀ x, x ≠ b → joined.debit x = s.debit x ∧ joined.boothLine x = s.boothLine x)
          ∧ (Unlisted b r.series r.serial s → 4 ≤ (s.debit b).cards.length →
              u.slot b = .refused r .cardLimit .eject ∧ u.ctx b = s.ctx b ∧ u.debit b = s.debit b))
        ∧ (NeedsCard b s → (s.ctx b).state = .ending →
          (∀ i e, Listed b r.series r.serial i e s → CountTaken b i r.cancelled.toNat e s0 u)
          ∧ (Unlisted b r.series r.serial s → u = s0)))
  ∧ (∀ (s : State) (b : Booth) (m : Bool) (r : CardRecord),
      (s.slot b = .empty → boothEvent b m (.cardIn r) s = judgeCard b r (bump Ctr.cardsIn s))
      ∧ (s.slot b ≠ .empty → boothEvent b m .cardOut s = emptySlotReported b (bump Ctr.cardsOut s))
      ∧ (emptySlotReported b s).slot b = .empty
      ∧ (s.slot b ≠ .empty →
          (m = false ∨ ∀ r' v w l, s.slot b = .valid r' v w l → ¬(r'.series = r.series ∧ r'.serial = r.serial)) →
          boothEvent b m (.cardIn r) s =
            judgeCard b r (emptySlotReported b (bump Ctr.unpairedCardsIn (bump Ctr.cardsIn s)))))
  ∧ ∀ (s : State) (b : Booth) (m : Bool),
      let t := boothEvent b m .cardOut s
      let gone := setSlot b .empty (bump Ctr.cardsOut s)
      (s.slot b = .empty → t = s)
      ∧ (∀ r reason action, s.slot b = .refused r reason action → NoActionWaits b s →
          t = modBoothLine b (fun l => { l with cardAction := none }) gone)
      ∧ (∀ r v w l, s.slot b = .valid r v w l →
          ((s.ctx b).state = .free ∨ (s.ctx b).state = .dialling ∨ (s.ctx b).state = .cardWait
              ∨ (s.ctx b).state = .swap ∨ ¬NeedsCard b s → t = gone)
          ∧ (NeedsCard b s → (s.ctx b).state = .routed →
              EndedBeforeAnswer b .cardRemoved gone t)
          ∧ (NeedsCard b s → s.currentCard b ≠ none →
              ((s.ctx b).state = .speech →
                t = bump Ctr.swapEntries
                  (modCtx b (fun c => swapped c s.now s.mgmt.limits.swapWindow .cardRemoved) gone))
              ∧ ((s.ctx b).state = .ending → t = modDebit b (fun d => { d with cardLeft := true }) gone))
          ∧ (s.currentCard b = none → ((s.ctx b).state = .speech ∨ (s.ctx b).state = .ending) → t = gone))

/-- The three call timers: the digit wait in DIALLING and the card wait in CARD WAIT end the call before answer, the
swap window in SWAP puts the call into ENDING with the cause recorded at the entry to SWAP, where it waits for an
outstanding request or settles at once. (That an expiry moves `now` to its instant is the model's time base: log 2.
That an expiry in any other state stops the timer and nothing more is the model's choice: log 1.) (At the end of an
unanswered call that also ends a drain, the take-out mark is honoured first: log 41.) -/
def Obligations.CallTimerExpiries : Prop :=
  (∀ (s : State) (b : Booth) (i : Instant), (s.ctx b).digitWait = some i →
      ((s.ctx b).state = .dialling →
        ∃ t, exec (.digitWaitExpiry b) s = .next t
          ∧ EndedBeforeAnswer b .digitTimeout { s with now := max s.now i } t)
      ∧ ((s.ctx b).state ≠ .dialling →
          exec (.digitWaitExpiry b) s =
            .next (modCtx b (fun c => { c with digitWait := none }) { s with now := max s.now i })))
    ∧ (∀ (s : State) (b : Booth) (i : Instant), (s.ctx b).cardWait = some i →
      ((s.ctx b).state = .cardWait →
        ∃ t, exec (.cardWaitExpiry b) s = .next t
          ∧ EndedBeforeAnswer b .cardWaitExpired { s with now := max s.now i } t)
      ∧ ((s.ctx b).state ≠ .cardWait →
          exec (.cardWaitExpiry b) s =
            .next (modCtx b (fun c => { c with cardWait := none }) { s with now := max s.now i })))
    ∧ ∀ (s : State) (b : Booth) (i : Instant) (cause : EndCause), (s.ctx b).swapWindow = some (i, cause) →
      ((s.ctx b).state = .swap → (s.debit b).outstanding ≠ .none →
        exec (.swapWindowExpiry b) s =
          .next (modDebit b (fun d => { d with nextTick := none, cardLeft := false, stage := .awaitingRequest })
            (modCtx b (fun c => { c with state := .ending, endCause := some cause, swapWindow := none })
              { s with now := max s.now i })))
      ∧ ((s.ctx b).state = .swap → (s.debit b).outstanding = .none → 0 ≤ (s.debit b).p →
          ∃ t tk, exec (.swapWindowExpiry b) s = .next t
            ∧ t.ctx b = { Ctx.reset with hookOff := (s.ctx b).hookOff, endCause := some cause }
            ∧ t.ring.tickets = s.ring.tickets ++ [tk] ∧ tk.endCause = some cause ∧ tk.sequence = s.ring.nextSeq
            ∧ t.settings = s.settings)
      ∧ ((s.ctx b).state = .swap → (s.debit b).outstanding = .none →
          ∃ t, exec (.swapWindowExpiry b) s = .next t
            ∧ Settles b (ending b cause { s with now := max s.now i }) t)
      ∧ ((s.ctx b).state ≠ .swap →
          exec (.swapWindowExpiry b) s =
            .next (modCtx b (fun c => { c with swapWindow := none }) { s with now := max s.now i }))

/-- A tick of a call in SPEECH or SWAP: duration and charged total rise, P falls to its floor at most, the first tick of
the call that the floor clamps reports DEBT SATURATED and no other tick reports anything, the units-due check runs (in SPEECH with a negative balance a CANCEL is posted for the current card), and the max call time puts a
call whose duration has reached it into ENDING. (That a tick moves `now` to its instant is the model's time base: log 2;
that TIME_LIMIT is the tick's own check once more: log 11.) -/
def Obligations.TickCharges : Prop :=
  (∀ (s : State) (b : Booth) (i : Instant) (t : Nat), (s.debit b).nextTick = some i → (s.debit b).t = some t →
      let d := s.debit b
      let d' : Debit :=
        { d with
          nextTick := some (i + 400), duration := min 4294967295 (d.duration + 1),
          charged := min 4294967295 (d.charged + t), p := max (-8388608) (d.p - t),
          debtSaturated := d.debtSaturated || decide (d.p - t < -8388608),
          debtReported := d.debtReported || decide (d.p - t < -8388608),
          chargeSaturated := d.chargeSaturated || decide (4294967295 ≤ d.charged + t) }
      let reports := fun u : State =>
        (d.p - t < -8388608 → d.debtReported = false →
          FaultTaken
            { kind := .debtSaturated, booth := b, plan := (s.ctx b).plan,
              digits := (s.ctx b).digits.take (s.ctx b).depth,
              card := d.cards.getLast?.map fun e => (e.series, e.serial), clock := s.tariff.clock } s u)
        ∧ (-8388608 ≤ d.p - t ∨ d.debtReported = true → u.mgmt = s.mgmt)
      let within := s.mgmt.limits.maxCall = 0 ∨ d'.duration < s.mgmt.limits.maxCall * 600
      ((s.ctx b).state = .swap → within →
        ∃ u, exec (.tick b) s = .next u ∧ u.debit b = d' ∧ u.ctx b = s.ctx b ∧ u.now = max s.now i
          ∧ (∀ x, x ≠ b → u.debit x = s.debit x ∧ u.ctx x = s.ctx x)
          ∧ u = { s with now := u.now, debits := u.debits, mgmt := u.mgmt, counters := u.counters }
          ∧ reports u ∧ u.settings = s.settings)
      ∧ ((s.ctx b).state = .speech → within → (0 ≤ d'.p ∨ d.outstanding ≠ .none) →
          ∃ u, exec (.tick b) s = .next u ∧ u.debit b = d' ∧ u.ctx b = s.ctx b ∧ u.card = s.card ∧ u.line = s.line
            ∧ reports u)
      ∧ (∀ j e, (s.ctx b).state = .speech → within → d'.p < 0 → d.outstanding = .none →
          s.currentCard b = some (j, e) → e.lastKnown < e.face →
          let n := min (min (ceilDiv d'.p.natAbs e.unitValue) (e.face - e.lastKnown)) 8
          ∃ u, exec (.tick b) s = .next u
            ∧ u.debit b =
                { d' with outstanding := .cancel { entry := j, n := n, before := e.lastKnown, final := false } }
            ∧ u.ctx b = s.ctx b ∧ reports u
            ∧ ((s.boothLine b).health = .inService → (u.boothLine b).debitWork = some (.cancel n e.serial)))
      ∧ (((s.ctx b).state = .speech ∨ (s.ctx b).state = .swap) →
          ∃ charged checked u : State, exec (.tick b) s = .next u
            ∧ charged.debit b = d' ∧ (∀ x, x ≠ b → charged.debit x = s.debit x)
            ∧ charged = { s with now := max s.now i, debits := charged.debits, mgmt := charged.mgmt,
                                 counters := charged.counters }
            ∧ reports charged ∧ charged.settings = s.settings ∧ UnitsChecked b charged checked
            ∧ (within → u = checked)
            ∧ (¬within → (checked.debit b).outstanding ≠ .none →
                u = modDebit b (fun d => { d with stage := .awaitingRequest }) (ending b .timeLimit checked))
            ∧ (¬within → (checked.debit b).outstanding = .none → Settles b (ending b .timeLimit checked) u)))
    ∧ (∀ (s : State) (b : Booth), ((s.ctx b).state = .speech ∨ (s.ctx b).state = .swap) →
        s.mgmt.limits.maxCall ≠ 0 → s.mgmt.limits.maxCall * 600 ≤ (s.debit b).duration →
        ((s.debit b).outstanding ≠ .none →
          exec (.timeLimit b) s =
            .next (modDebit b (fun d => { d with nextTick := none, cardLeft := false, stage := .awaitingRequest })
              (modCtx b (fun c => { c with state := .ending, endCause := some .timeLimit, swapWindow := none }) s)))
        ∧ ((s.debit b).outstanding = .none →
            ∃ u, exec (.timeLimit b) s = .next u ∧ Settles b (ending b .timeLimit s) u))
    ∧ ∀ (s : State) (b : Booth),
        (s.mgmt.limits.maxCall = 0 ∨ (s.debit b).duration < s.mgmt.limits.maxCall * 600
          ∨ (s.ctx b).state.metered = false) →
        exec (.timeLimit b) s = .next s

/-- The clock advances by one second by the calendar, and an advance that rolls the second to 0 evaluates the band of
every call in SPEECH or SWAP; while the clock is not valid nothing advances. (The instants: logs 2 and 4. The minute
boundary as a row of its own: log 12.) -/
def Obligations.ClockAdvancesAndEvaluates : Prop :=
  (∀ s : State, s.tariff.clock.valid = false → exec .clockSecondAdvance s = .next s)
    ∧ (∀ s : State, s.tariff.clock.valid = true → s.tariff.clock.second < 59 →
        exec .clockSecondAdvance s =
          .next { s with
                  now := max s.now (s.tariff.secondInstant + 4000)
                  tariff :=
                    { s.tariff with
                      clock := { s.tariff.clock with second := s.tariff.clock.second + 1 }
                      secondInstant := s.tariff.secondInstant + 4000 } })
    ∧ (∀ s : State, s.tariff.clock.valid = true → s.tariff.clock.second = 59 →
        exec .minuteBoundary s = exec .clockSecondAdvance s
          ∧ ∃ t, exec .minuteBoundary s = .next t
            ∧ t.tariff =
                { s.tariff with
                  clock := s.tariff.clock.advance, secondInstant := s.tariff.secondInstant + 4000 }
            ∧ t.tariff.clock.second = 0
            ∧ (∀ b, t.debit b =
                if (s.ctx b).state = .speech ∨ (s.ctx b).state = .swap then
                  match (s.ctx b).snap with
                  | some p => { s.debit b with t := some (t.tariff.charge p) }
                  | none => s.debit b
                else s.debit b)
            ∧ t = { s with now := t.now, tariff := t.tariff, debits := t.debits, counters := t.counters })
    ∧ (∀ c : Clock, c.second = 59 →
        (c.minute < 59 → c.advance = { c with second := 0, minute := c.minute + 1 })
        ∧ (c.minute = 59 → c.hour < 23 → c.advance = { c with second := 0, minute := 0, hour := c.hour + 1 })
        ∧ (c.minute = 59 → c.hour = 23 →
            (c.day < daysInMonth c.year c.month →
              c.advance = { c with second := 0, minute := 0, hour := 0, day := c.day + 1, weekday := c.weekday + 1 })
            ∧ (c.day = daysInMonth c.year c.month → c.month < 12 →
              c.advance =
                { c with second := 0, minute := 0, hour := 0, day := 1, month := c.month + 1,
                         weekday := c.weekday + 1 })
            ∧ (c.day = 31 → c.month = 12 → c.year < 2099 →
              c.advance =
                { c with second := 0, minute := 0, hour := 0, day := 1, month := 1, year := c.year + 1,
                         weekday := c.weekday + 1 })
            ∧ (c.day = 31 → c.month = 12 → c.year = 2099 →
              c.advance =
                { c with second := 0, minute := 0, hour := 0, day := 1, month := 1, year := 2000,
                         weekday := c.weekday + 1 })))
    ∧ ∀ y m, 2000 ≤ y → y ≤ 2099 → 1 ≤ m → m ≤ 12 →
        daysInMonth y m =
          if m = 2 then (if 4 ∣ y then 29 else 28) else if m ∈ [4, 6, 9, 11] then 30 else 31

/-- The tick charge: b × m / 16,384 rounded to the nearest whole quantum, half upwards; 0 for a CARDLESS snapshot. m is
the multiplier of the snapshot's profile in the band of the clock's day type and minute: HOLIDAY by date, else SATURDAY
or SUNDAY by weekday, else WEEKDAY; the band of the last boundary at or before the minute, band 0 before the first one
and for an empty list. -/
def Obligations.TickChargeRounds : Prop :=
  (∀ b m t : Nat, tickCharge b m = t ↔ 16384 * t ≤ b * m + 8192 ∧ b * m + 8192 < 16384 * (t + 1))
    ∧ (∀ b m : Nat, b ≤ 65535 → m ≤ 65535 → tickCharge b m ≤ 262136)
    ∧ (∀ (u : Tariff) (p : Snapshot), p.cardless = true → u.charge p = 0)
    ∧ (∀ (u : Tariff) (p : Snapshot), p.cardless = false →
        let list := u.bands.get (dayType u.holidays u.clock).index
        u.charge p =
          tickCharge p.base
            ((u.profiles.get p.profile).get (bandAt list (u.clock.hour * 60 + u.clock.minute))).toNat)
    ∧ (∀ (holidays : Vector (Option Date) 32) (c : Clock),
        let onHoliday := ∃ k : Fin 32, holidays.get k = some { year := c.year, month := c.month, day := c.day }
        (onHoliday → dayType holidays c = .holiday)
        ∧ (¬onHoliday → c.weekday = 5 → dayType holidays c = .saturday)
        ∧ (¬onHoliday → c.weekday = 6 → dayType holidays c = .sunday)
        ∧ (¬onHoliday → c.weekday ≠ 5 → c.weekday ≠ 6 → dayType holidays c = .weekday))
    ∧ (DayType.weekday.index = 0 ∧ DayType.saturday.index = 1 ∧ DayType.sunday.index = 2
        ∧ DayType.holiday.index = 3)
    ∧ (∀ (earlier later : List Boundary) (x : Boundary) (minute : Nat),
        x.minute ≤ minute → (∀ y ∈ later, minute < y.minute) → bandAt (earlier ++ x :: later) minute = x.band)
    ∧ ∀ (list : List Boundary) (minute : Nat), (∀ y ∈ list, minute < y.minute) → bandAt list minute = 0

/-! ## What every step keeps -/

/-- No command but the fifteen that write them changes a table, the map, the access sets, the limits, the window codes,
the high-water or the model's own queue. -/
def Obligations.SettingsChangeOnlyByTheirCommands : Prop :=
  ∀ (c : Instr) (s t : State), c.writesSettings = false → exec c s = .next t → t.settings = s.settings

/-- While the Fault Capture record is held its contents do not change; only FAULT CLEAR, RESTART and power-on release
it. -/
def Obligations.HeldFaultIsFrozen : Prop :=
  ∀ (c : Instr) (s t : State) (r : FaultReport), s.mgmt.faultHeld = some r → c.releasesFault = false →
    exec c s = .next t → t.mgmt.faultHeld = some r

/-- The permitted set of the ACCESS group is never empty, no drop address on a segment and no trunk channel serves two
enabled booths, and no segment has more than 24 enabled booths. -/
def Obligations.AccessAndMapAreKept : Prop :=
  StepKeeps AccessKept ∧ StepKeeps MapUnique ∧ StepKeeps SegmentsWithinLimit

/-- No two valid Tariff Cache entries match one lookup, and there are at most 32. -/
def Obligations.CacheStaysUnambiguous : Prop := StepKeeps CacheUnambiguous

/-- Every Stop List entry stands in its own bucket's chain, no identity twice, at most 12 a bucket, and used plus free
is 4,096. -/
def Obligations.StopListStaysSound : Prop := StepKeeps StopListSound

/-- The reserved count equals the number of contexts that are not FREE, and filled plus reserved never exceed 512. -/
def Obligations.ReservationsMatchContexts : Prop := StepKeeps ReservationsKept

/-- The queues keep their capacities, the counters their maximum, and the sparse tables their canonical form. -/
def Obligations.CapacitiesAreKept : Prop :=
  StepKeeps QueuesBounded ∧ StepKeeps CountersBounded ∧ StepKeeps TablesCanonical

/-- The balance never falls below −8,388,608, with every set-up charge in its range; and, with what `BalanceCeiling` says
it rests on, it never rises above 3,999,999. -/
def Obligations.BalanceKeepsItsFloor : Prop :=
  StepKeeps ChargesInRange ∧ StepKeeps fun s => ChargesInRange s ∧ BalanceCeiling s

/-- While neither saturation flag is set, covered less the charged total equals P. -/
def Obligations.BalanceIsCoveredLessCharged : Prop := StepKeeps BalanceExplained

/-- The state after power-on has every invariant that the statements above say each step keeps. -/
def Obligations.InvariantsHoldAtReset : Prop :=
  AccessKept State.reset ∧ MapUnique State.reset ∧ CacheUnambiguous State.reset ∧ StopListSound State.reset
    ∧ ReservationsKept State.reset ∧ QueuesBounded State.reset ∧ CountersBounded State.reset
    ∧ TablesCanonical State.reset ∧ ChargesInRange State.reset ∧ BalanceExplained State.reset
    ∧ SegmentsWithinLimit State.reset ∧ BalanceCeiling State.reset

end Commands
end

