-- ==== Sys2Proof/Laws/State.lean ====
section
/-!
SUPPORT. One lemma per field per update of the state, each true by unfolding, so that no later proof unfolds a
record update; and what reading one part of a vector gives after an update.
-/

namespace Sys2Proof.Machine

/-! ### `modCtx` -/
@[simp] theorem modCtx_now (b : Booth) (f : Ctx → Ctx) (s : State) : (modCtx b f s).now = s.now := rfl
@[simp] theorem modCtx_ctxs (b : Booth) (f : Ctx → Ctx) (s : State) : (modCtx b f s).ctxs = s.ctxs.set b.val (f (s.ctxs.get b)) b.isLt := rfl
@[simp] theorem modCtx_debits (b : Booth) (f : Ctx → Ctx) (s : State) : (modCtx b f s).debits = s.debits := rfl
@[simp] theorem modCtx_route (b : Booth) (f : Ctx → Ctx) (s : State) : (modCtx b f s).route = s.route := rfl
@[simp] theorem modCtx_tariff (b : Booth) (f : Ctx → Ctx) (s : State) : (modCtx b f s).tariff = s.tariff := rfl
@[simp] theorem modCtx_card (b : Booth) (f : Ctx → Ctx) (s : State) : (modCtx b f s).card = s.card := rfl
@[simp] theorem modCtx_line (b : Booth) (f : Ctx → Ctx) (s : State) : (modCtx b f s).line = s.line := rfl
@[simp] theorem modCtx_trunk (b : Booth) (f : Ctx → Ctx) (s : State) : (modCtx b f s).trunk = s.trunk := rfl
@[simp] theorem modCtx_ring (b : Booth) (f : Ctx → Ctx) (s : State) : (modCtx b f s).ring = s.ring := rfl
@[simp] theorem modCtx_mgmt (b : Booth) (f : Ctx → Ctx) (s : State) : (modCtx b f s).mgmt = s.mgmt := rfl
@[simp] theorem modCtx_counters (b : Booth) (f : Ctx → Ctx) (s : State) : (modCtx b f s).counters = s.counters := rfl
@[simp] theorem modCtx_pending (b : Booth) (f : Ctx → Ctx) (s : State) : (modCtx b f s).pending = s.pending := rfl

/-! ### `modDebit` -/
@[simp] theorem modDebit_now (b : Booth) (f : Debit → Debit) (s : State) : (modDebit b f s).now = s.now := rfl
@[simp] theorem modDebit_ctxs (b : Booth) (f : Debit → Debit) (s : State) : (modDebit b f s).ctxs = s.ctxs := rfl
@[simp] theorem modDebit_debits (b : Booth) (f : Debit → Debit) (s : State) : (modDebit b f s).debits = s.debits.set b.val (f (s.debits.get b)) b.isLt := rfl
@[simp] theorem modDebit_route (b : Booth) (f : Debit → Debit) (s : State) : (modDebit b f s).route = s.route := rfl
@[simp] theorem modDebit_tariff (b : Booth) (f : Debit → Debit) (s : State) : (modDebit b f s).tariff = s.tariff := rfl
@[simp] theorem modDebit_card (b : Booth) (f : Debit → Debit) (s : State) : (modDebit b f s).card = s.card := rfl
@[simp] theorem modDebit_line (b : Booth) (f : Debit → Debit) (s : State) : (modDebit b f s).line = s.line := rfl
@[simp] theorem modDebit_trunk (b : Booth) (f : Debit → Debit) (s : State) : (modDebit b f s).trunk = s.trunk := rfl
@[simp] theorem modDebit_ring (b : Booth) (f : Debit → Debit) (s : State) : (modDebit b f s).ring = s.ring := rfl
@[simp] theorem modDebit_mgmt (b : Booth) (f : Debit → Debit) (s : State) : (modDebit b f s).mgmt = s.mgmt := rfl
@[simp] theorem modDebit_counters (b : Booth) (f : Debit → Debit) (s : State) : (modDebit b f s).counters = s.counters := rfl
@[simp] theorem modDebit_pending (b : Booth) (f : Debit → Debit) (s : State) : (modDebit b f s).pending = s.pending := rfl

/-! ### `setSlot` -/
@[simp] theorem setSlot_now (b : Booth) (x : CardSlot) (s : State) : (setSlot b x s).now = s.now := rfl
@[simp] theorem setSlot_ctxs (b : Booth) (x : CardSlot) (s : State) : (setSlot b x s).ctxs = s.ctxs := rfl
@[simp] theorem setSlot_debits (b : Booth) (x : CardSlot) (s : State) : (setSlot b x s).debits = s.debits := rfl
@[simp] theorem setSlot_route (b : Booth) (x : CardSlot) (s : State) : (setSlot b x s).route = s.route := rfl
@[simp] theorem setSlot_tariff (b : Booth) (x : CardSlot) (s : State) : (setSlot b x s).tariff = s.tariff := rfl
@[simp] theorem setSlot_card (b : Booth) (x : CardSlot) (s : State) : (setSlot b x s).card = { s.card with slots := s.card.slots.set b.val x b.isLt } := rfl
@[simp] theorem setSlot_line (b : Booth) (x : CardSlot) (s : State) : (setSlot b x s).line = s.line := rfl
@[simp] theorem setSlot_trunk (b : Booth) (x : CardSlot) (s : State) : (setSlot b x s).trunk = s.trunk := rfl
@[simp] theorem setSlot_ring (b : Booth) (x : CardSlot) (s : State) : (setSlot b x s).ring = s.ring := rfl
@[simp] theorem setSlot_mgmt (b : Booth) (x : CardSlot) (s : State) : (setSlot b x s).mgmt = s.mgmt := rfl
@[simp] theorem setSlot_counters (b : Booth) (x : CardSlot) (s : State) : (setSlot b x s).counters = s.counters := rfl
@[simp] theorem setSlot_pending (b : Booth) (x : CardSlot) (s : State) : (setSlot b x s).pending = s.pending := rfl

/-! ### `modBoothLine` -/
@[simp] theorem modBoothLine_now (b : Booth) (f : BoothLine → BoothLine) (s : State) : (modBoothLine b f s).now = s.now := rfl
@[simp] theorem modBoothLine_ctxs (b : Booth) (f : BoothLine → BoothLine) (s : State) : (modBoothLine b f s).ctxs = s.ctxs := rfl
@[simp] theorem modBoothLine_debits (b : Booth) (f : BoothLine → BoothLine) (s : State) : (modBoothLine b f s).debits = s.debits := rfl
@[simp] theorem modBoothLine_route (b : Booth) (f : BoothLine → BoothLine) (s : State) : (modBoothLine b f s).route = s.route := rfl
@[simp] theorem modBoothLine_tariff (b : Booth) (f : BoothLine → BoothLine) (s : State) : (modBoothLine b f s).tariff = s.tariff := rfl
@[simp] theorem modBoothLine_card (b : Booth) (f : BoothLine → BoothLine) (s : State) : (modBoothLine b f s).card = s.card := rfl
@[simp] theorem modBoothLine_line (b : Booth) (f : BoothLine → BoothLine) (s : State) : (modBoothLine b f s).line = { s.line with booths := s.line.booths.set b.val (f (s.line.booths.get b)) b.isLt } := rfl
@[simp] theorem modBoothLine_trunk (b : Booth) (f : BoothLine → BoothLine) (s : State) : (modBoothLine b f s).trunk = s.trunk := rfl
@[simp] theorem modBoothLine_ring (b : Booth) (f : BoothLine → BoothLine) (s : State) : (modBoothLine b f s).ring = s.ring := rfl
@[simp] theorem modBoothLine_mgmt (b : Booth) (f : BoothLine → BoothLine) (s : State) : (modBoothLine b f s).mgmt = s.mgmt := rfl
@[simp] theorem modBoothLine_counters (b : Booth) (f : BoothLine → BoothLine) (s : State) : (modBoothLine b f s).counters = s.counters := rfl
@[simp] theorem modBoothLine_pending (b : Booth) (f : BoothLine → BoothLine) (s : State) : (modBoothLine b f s).pending = s.pending := rfl

/-! ### `modTrunk` -/
@[simp] theorem modTrunk_now (f : Trunk → Trunk) (s : State) : (modTrunk f s).now = s.now := rfl
@[simp] theorem modTrunk_ctxs (f : Trunk → Trunk) (s : State) : (modTrunk f s).ctxs = s.ctxs := rfl
@[simp] theorem modTrunk_debits (f : Trunk → Trunk) (s : State) : (modTrunk f s).debits = s.debits := rfl
@[simp] theorem modTrunk_route (f : Trunk → Trunk) (s : State) : (modTrunk f s).route = s.route := rfl
@[simp] theorem modTrunk_tariff (f : Trunk → Trunk) (s : State) : (modTrunk f s).tariff = s.tariff := rfl
@[simp] theorem modTrunk_card (f : Trunk → Trunk) (s : State) : (modTrunk f s).card = s.card := rfl
@[simp] theorem modTrunk_line (f : Trunk → Trunk) (s : State) : (modTrunk f s).line = s.line := rfl
@[simp] theorem modTrunk_trunk (f : Trunk → Trunk) (s : State) : (modTrunk f s).trunk = f s.trunk := rfl
@[simp] theorem modTrunk_ring (f : Trunk → Trunk) (s : State) : (modTrunk f s).ring = s.ring := rfl
@[simp] theorem modTrunk_mgmt (f : Trunk → Trunk) (s : State) : (modTrunk f s).mgmt = s.mgmt := rfl
@[simp] theorem modTrunk_counters (f : Trunk → Trunk) (s : State) : (modTrunk f s).counters = s.counters := rfl
@[simp] theorem modTrunk_pending (f : Trunk → Trunk) (s : State) : (modTrunk f s).pending = s.pending := rfl

/-! ### `modRing` -/
@[simp] theorem modRing_now (f : Ring → Ring) (s : State) : (modRing f s).now = s.now := rfl
@[simp] theorem modRing_ctxs (f : Ring → Ring) (s : State) : (modRing f s).ctxs = s.ctxs := rfl
@[simp] theorem modRing_debits (f : Ring → Ring) (s : State) : (modRing f s).debits = s.debits := rfl
@[simp] theorem modRing_route (f : Ring → Ring) (s : State) : (modRing f s).route = s.route := rfl
@[simp] theorem modRing_tariff (f : Ring → Ring) (s : State) : (modRing f s).tariff = s.tariff := rfl
@[simp] theorem modRing_card (f : Ring → Ring) (s : State) : (modRing f s).card = s.card := rfl
@[simp] theorem modRing_line (f : Ring → Ring) (s : State) : (modRing f s).line = s.line := rfl
@[simp] theorem modRing_trunk (f : Ring → Ring) (s : State) : (modRing f s).trunk = s.trunk := rfl
@[simp] theorem modRing_ring (f : Ring → Ring) (s : State) : (modRing f s).ring = f s.ring := rfl
@[simp] theorem modRing_mgmt (f : Ring → Ring) (s : State) : (modRing f s).mgmt = s.mgmt := rfl
@[simp] theorem modRing_counters (f : Ring → Ring) (s : State) : (modRing f s).counters = s.counters := rfl
@[simp] theorem modRing_pending (f : Ring → Ring) (s : State) : (modRing f s).pending = s.pending := rfl

/-! ### `modMgmt` -/
@[simp] theorem modMgmt_now (f : Mgmt → Mgmt) (s : State) : (modMgmt f s).now = s.now := rfl
@[simp] theorem modMgmt_ctxs (f : Mgmt → Mgmt) (s : State) : (modMgmt f s).ctxs = s.ctxs := rfl
@[simp] theorem modMgmt_debits (f : Mgmt → Mgmt) (s : State) : (modMgmt f s).debits = s.debits := rfl
@[simp] theorem modMgmt_route (f : Mgmt → Mgmt) (s : State) : (modMgmt f s).route = s.route := rfl
@[simp] theorem modMgmt_tariff (f : Mgmt → Mgmt) (s : State) : (modMgmt f s).tariff = s.tariff := rfl
@[simp] theorem modMgmt_card (f : Mgmt → Mgmt) (s : State) : (modMgmt f s).card = s.card := rfl
@[simp] theorem modMgmt_line (f : Mgmt → Mgmt) (s : State) : (modMgmt f s).line = s.line := rfl
@[simp] theorem modMgmt_trunk (f : Mgmt → Mgmt) (s : State) : (modMgmt f s).trunk = s.trunk := rfl
@[simp] theorem modMgmt_ring (f : Mgmt → Mgmt) (s : State) : (modMgmt f s).ring = s.ring := rfl
@[simp] theorem modMgmt_mgmt (f : Mgmt → Mgmt) (s : State) : (modMgmt f s).mgmt = f s.mgmt := rfl
@[simp] theorem modMgmt_counters (f : Mgmt → Mgmt) (s : State) : (modMgmt f s).counters = s.counters := rfl
@[simp] theorem modMgmt_pending (f : Mgmt → Mgmt) (s : State) : (modMgmt f s).pending = s.pending := rfl

/-! ### `modNotices` -/
@[simp] theorem modNotices_now (f : Notices → Notices) (s : State) : (modNotices f s).now = s.now := rfl
@[simp] theorem modNotices_ctxs (f : Notices → Notices) (s : State) : (modNotices f s).ctxs = s.ctxs := rfl
@[simp] theorem modNotices_debits (f : Notices → Notices) (s : State) : (modNotices f s).debits = s.debits := rfl
@[simp] theorem modNotices_route (f : Notices → Notices) (s : State) : (modNotices f s).route = s.route := rfl
@[simp] theorem modNotices_tariff (f : Notices → Notices) (s : State) : (modNotices f s).tariff = s.tariff := rfl
@[simp] theorem modNotices_card (f : Notices → Notices) (s : State) : (modNotices f s).card = s.card := rfl
@[simp] theorem modNotices_line (f : Notices → Notices) (s : State) : (modNotices f s).line = s.line := rfl
@[simp] theorem modNotices_trunk (f : Notices → Notices) (s : State) : (modNotices f s).trunk = s.trunk := rfl
@[simp] theorem modNotices_ring (f : Notices → Notices) (s : State) : (modNotices f s).ring = s.ring := rfl
@[simp] theorem modNotices_mgmt (f : Notices → Notices) (s : State) : (modNotices f s).mgmt = { s.mgmt with notices := f s.mgmt.notices } := rfl
@[simp] theorem modNotices_counters (f : Notices → Notices) (s : State) : (modNotices f s).counters = s.counters := rfl
@[simp] theorem modNotices_pending (f : Notices → Notices) (s : State) : (modNotices f s).pending = s.pending := rfl

/-! ### `setCache` -/
@[simp] theorem setCache_now (c : List CacheEntry) (s : State) : (setCache c s).now = s.now := rfl
@[simp] theorem setCache_ctxs (c : List CacheEntry) (s : State) : (setCache c s).ctxs = s.ctxs := rfl
@[simp] theorem setCache_debits (c : List CacheEntry) (s : State) : (setCache c s).debits = s.debits := rfl
@[simp] theorem setCache_route (c : List CacheEntry) (s : State) : (setCache c s).route = { s.route with cache := c } := rfl
@[simp] theorem setCache_tariff (c : List CacheEntry) (s : State) : (setCache c s).tariff = s.tariff := rfl
@[simp] theorem setCache_card (c : List CacheEntry) (s : State) : (setCache c s).card = s.card := rfl
@[simp] theorem setCache_line (c : List CacheEntry) (s : State) : (setCache c s).line = s.line := rfl
@[simp] theorem setCache_trunk (c : List CacheEntry) (s : State) : (setCache c s).trunk = s.trunk := rfl
@[simp] theorem setCache_ring (c : List CacheEntry) (s : State) : (setCache c s).ring = s.ring := rfl
@[simp] theorem setCache_mgmt (c : List CacheEntry) (s : State) : (setCache c s).mgmt = s.mgmt := rfl
@[simp] theorem setCache_counters (c : List CacheEntry) (s : State) : (setCache c s).counters = s.counters := rfl
@[simp] theorem setCache_pending (c : List CacheEntry) (s : State) : (setCache c s).pending = s.pending := rfl

/-! ### `reach` -/
@[simp] theorem reach_now (i : Instant) (s : State) : (reach i s).now = max s.now i := rfl
@[simp] theorem reach_ctxs (i : Instant) (s : State) : (reach i s).ctxs = s.ctxs := rfl
@[simp] theorem reach_debits (i : Instant) (s : State) : (reach i s).debits = s.debits := rfl
@[simp] theorem reach_route (i : Instant) (s : State) : (reach i s).route = s.route := rfl
@[simp] theorem reach_tariff (i : Instant) (s : State) : (reach i s).tariff = s.tariff := rfl
@[simp] theorem reach_card (i : Instant) (s : State) : (reach i s).card = s.card := rfl
@[simp] theorem reach_line (i : Instant) (s : State) : (reach i s).line = s.line := rfl
@[simp] theorem reach_trunk (i : Instant) (s : State) : (reach i s).trunk = s.trunk := rfl
@[simp] theorem reach_ring (i : Instant) (s : State) : (reach i s).ring = s.ring := rfl
@[simp] theorem reach_mgmt (i : Instant) (s : State) : (reach i s).mgmt = s.mgmt := rfl
@[simp] theorem reach_counters (i : Instant) (s : State) : (reach i s).counters = s.counters := rfl
@[simp] theorem reach_pending (i : Instant) (s : State) : (reach i s).pending = s.pending := rfl

/-! ### `bumpBy` -/
@[simp] theorem bumpBy_now (c : CounterId) (n : Nat) (s : State) : (bumpBy c n s).now = s.now := rfl
@[simp] theorem bumpBy_ctxs (c : CounterId) (n : Nat) (s : State) : (bumpBy c n s).ctxs = s.ctxs := rfl
@[simp] theorem bumpBy_debits (c : CounterId) (n : Nat) (s : State) : (bumpBy c n s).debits = s.debits := rfl
@[simp] theorem bumpBy_route (c : CounterId) (n : Nat) (s : State) : (bumpBy c n s).route = s.route := rfl
@[simp] theorem bumpBy_tariff (c : CounterId) (n : Nat) (s : State) : (bumpBy c n s).tariff = s.tariff := rfl
@[simp] theorem bumpBy_card (c : CounterId) (n : Nat) (s : State) : (bumpBy c n s).card = s.card := rfl
@[simp] theorem bumpBy_line (c : CounterId) (n : Nat) (s : State) : (bumpBy c n s).line = s.line := rfl
@[simp] theorem bumpBy_trunk (c : CounterId) (n : Nat) (s : State) : (bumpBy c n s).trunk = s.trunk := rfl
@[simp] theorem bumpBy_ring (c : CounterId) (n : Nat) (s : State) : (bumpBy c n s).ring = s.ring := rfl
@[simp] theorem bumpBy_mgmt (c : CounterId) (n : Nat) (s : State) : (bumpBy c n s).mgmt = s.mgmt := rfl
@[simp] theorem bumpBy_counters (c : CounterId) (n : Nat) (s : State) : (bumpBy c n s).counters = s.counters.set c.1.val ((s.counters.get c.1).modify c.2 (satAdd · n)) c.1.isLt := rfl
@[simp] theorem bumpBy_pending (c : CounterId) (n : Nat) (s : State) : (bumpBy c n s).pending = s.pending := rfl

/-! ### `bump` -/
@[simp] theorem bump_now (c : CounterId) (s : State) : (bump c s).now = s.now := rfl
@[simp] theorem bump_ctxs (c : CounterId) (s : State) : (bump c s).ctxs = s.ctxs := rfl
@[simp] theorem bump_debits (c : CounterId) (s : State) : (bump c s).debits = s.debits := rfl
@[simp] theorem bump_route (c : CounterId) (s : State) : (bump c s).route = s.route := rfl
@[simp] theorem bump_tariff (c : CounterId) (s : State) : (bump c s).tariff = s.tariff := rfl
@[simp] theorem bump_card (c : CounterId) (s : State) : (bump c s).card = s.card := rfl
@[simp] theorem bump_line (c : CounterId) (s : State) : (bump c s).line = s.line := rfl
@[simp] theorem bump_trunk (c : CounterId) (s : State) : (bump c s).trunk = s.trunk := rfl
@[simp] theorem bump_ring (c : CounterId) (s : State) : (bump c s).ring = s.ring := rfl
@[simp] theorem bump_mgmt (c : CounterId) (s : State) : (bump c s).mgmt = s.mgmt := rfl
@[simp] theorem bump_counters (c : CounterId) (s : State) : (bump c s).counters = (bumpBy c 1 s).counters := rfl
@[simp] theorem bump_pending (c : CounterId) (s : State) : (bump c s).pending = s.pending := rfl

/-! ### `modSeg` -/
@[simp] theorem modSeg_now (g : Segment) (f : SegLine → SegLine) (s : State) : (modSeg g f s).now = s.now := by
  cases g <;> rfl
@[simp] theorem modSeg_ctxs (g : Segment) (f : SegLine → SegLine) (s : State) : (modSeg g f s).ctxs = s.ctxs := by
  cases g <;> rfl
@[simp] theorem modSeg_debits (g : Segment) (f : SegLine → SegLine) (s : State) : (modSeg g f s).debits = s.debits := by
  cases g <;> rfl
@[simp] theorem modSeg_route (g : Segment) (f : SegLine → SegLine) (s : State) : (modSeg g f s).route = s.route := by
  cases g <;> rfl
@[simp] theorem modSeg_tariff (g : Segment) (f : SegLine → SegLine) (s : State) : (modSeg g f s).tariff = s.tariff := by
  cases g <;> rfl
@[simp] theorem modSeg_card (g : Segment) (f : SegLine → SegLine) (s : State) : (modSeg g f s).card = s.card := by
  cases g <;> rfl
@[simp] theorem modSeg_trunk (g : Segment) (f : SegLine → SegLine) (s : State) : (modSeg g f s).trunk = s.trunk := by
  cases g <;> rfl
@[simp] theorem modSeg_ring (g : Segment) (f : SegLine → SegLine) (s : State) : (modSeg g f s).ring = s.ring := by
  cases g <;> rfl
@[simp] theorem modSeg_mgmt (g : Segment) (f : SegLine → SegLine) (s : State) : (modSeg g f s).mgmt = s.mgmt := by
  cases g <;> rfl
@[simp] theorem modSeg_counters (g : Segment) (f : SegLine → SegLine) (s : State) : (modSeg g f s).counters = s.counters := by
  cases g <;> rfl
@[simp] theorem modSeg_pending (g : Segment) (f : SegLine → SegLine) (s : State) : (modSeg g f s).pending = s.pending := by
  cases g <;> rfl
@[simp] theorem modSeg_line_map (g : Segment) (f : SegLine → SegLine) (s : State) :
    (modSeg g f s).line.map = s.line.map := by
  cases g <;> rfl
@[simp] theorem modSeg_line_booths (g : Segment) (f : SegLine → SegLine) (s : State) :
    (modSeg g f s).line.booths = s.line.booths := by
  cases g <;> rfl
@[simp] theorem seg_modSeg_self (g : Segment) (f : SegLine → SegLine) (s : State) :
    (modSeg g f s).seg g = f (s.seg g) := by
  cases g <;> rfl
theorem seg_modSeg_ne {g g' : Segment} (h : g ≠ g') (f : SegLine → SegLine) (s : State) :
    (modSeg g f s).seg g' = s.seg g' := by
  cases g <;> cases g' <;> first | rfl | exact absurd rfl h

/-! ### Reading one part after an update -/

theorem get_set {α : Type} {n : Nat} (v : Vector α n) (i j : Fin n) (x : α) :
    (v.set i.val x i.isLt).get j = if i = j then x else v.get j := by
  rw [Vector.get_eq_getElem, Vector.get_eq_getElem, Vector.getElem_set]
  by_cases h : i = j
  · subst h; simp
  · have : i.val ≠ j.val := fun e => h (Fin.ext e)
    simp [h, this]

theorem ctx_modCtx (b b' : Booth) (f : Ctx → Ctx) (s : State) :
    (modCtx b f s).ctx b' = if b = b' then f (s.ctx b) else s.ctx b' := get_set _ _ _ _

@[simp] theorem ctx_modCtx_self (b : Booth) (f : Ctx → Ctx) (s : State) : (modCtx b f s).ctx b = f (s.ctx b) := by
  rw [ctx_modCtx, if_pos rfl]

theorem debit_modDebit (b b' : Booth) (f : Debit → Debit) (s : State) :
    (modDebit b f s).debit b' = if b = b' then f (s.debit b) else s.debit b' := get_set _ _ _ _

@[simp] theorem debit_modDebit_self (b : Booth) (f : Debit → Debit) (s : State) :
    (modDebit b f s).debit b = f (s.debit b) := by
  rw [debit_modDebit, if_pos rfl]

theorem slot_setSlot (b b' : Booth) (x : CardSlot) (s : State) :
    (setSlot b x s).slot b' = if b = b' then x else s.slot b' := get_set _ _ _ _

@[simp] theorem slot_setSlot_self (b : Booth) (x : CardSlot) (s : State) : (setSlot b x s).slot b = x := by
  rw [slot_setSlot, if_pos rfl]

theorem boothLine_modBoothLine (b b' : Booth) (f : BoothLine → BoothLine) (s : State) :
    (modBoothLine b f s).boothLine b' = if b = b' then f (s.boothLine b) else s.boothLine b' := get_set _ _ _ _

@[simp] theorem boothLine_modBoothLine_self (b : Booth) (f : BoothLine → BoothLine) (s : State) :
    (modBoothLine b f s).boothLine b = f (s.boothLine b) := by
  rw [boothLine_modBoothLine, if_pos rfl]

/-- A counter after it is counted up: it rises by n, stopping at its maximum; no other counter moves (R180). -/
theorem counter_bumpBy_self (c : CounterId) (n : Nat) (s : State) (h : c.2 < (s.counters.get c.1).length) :
    (bumpBy c n s).counter c = satAdd (s.counter c) n := by
  unfold State.counter
  rw [bumpBy_counters, get_set, if_pos rfl]
  simp [List.getD, h]

theorem counter_bumpBy_ne {c d : CounterId} (hne : c ≠ d) (n : Nat) (s : State) :
    (bumpBy c n s).counter d = s.counter d := by
  unfold State.counter
  rw [bumpBy_counters, get_set]
  by_cases h : c.1 = d.1
  · rw [if_pos h]
    have h2 : c.2 ≠ d.2 := fun e => hne (Prod.ext h e)
    rw [List.getD, List.getD, List.getElem?_modify_ne _ _ h2, h]
  · rw [if_neg h]

/-! ### Sparse tables -/

theorem smGet_smPut_self {α : Type} [DecidableEq α] (d : α) (k : Nat) (v : α) (m : SMap α) :
    smGet d k (smPut d k v m) = v := by
  induction m with
  | nil => by_cases hv : v = d <;> simp [smPut, smGet, hv]
  | cons e rest ih =>
    obtain ⟨k', v'⟩ := e
    simp only [smPut]
    split_ifs with h1 h2 h3
    · exact ih
    · simp [smGet]
    · simp [smGet]
    · simp only [smGet]
      rw [if_neg (Ne.symm h1)]
      exact ih

theorem smGet_smPut_ne {α : Type} [DecidableEq α] (d : α) {k j : Nat} (hjk : j ≠ k) (v : α) (m : SMap α) :
    smGet d j (smPut d k v m) = smGet d j m := by
  induction m with
  | nil => by_cases hv : v = d <;> simp [smPut, smGet, hv, Ne.symm hjk]
  | cons e rest ih =>
    obtain ⟨k', v'⟩ := e
    simp only [smPut]
    split_ifs with h1 h2 h3
    · subst h1; simp only [smGet]; rw [if_neg (Ne.symm hjk)]; exact ih
    · subst h1; simp [smGet, Ne.symm hjk]
    · simp [smGet, Ne.symm hjk]
    · simp only [smGet]; rw [ih]

theorem smPut_mem {α : Type} [DecidableEq α] (d : α) (k : Nat) (v : α) (m : SMap α) (x : Nat × α)
    (h : x ∈ smPut d k v m) : x = (k, v) ∨ x ∈ m := by
  induction m with
  | nil =>
    by_cases hv : v = d
    · simp [smPut, hv] at h
    · simp [smPut, hv] at h; exact Or.inl h
  | cons e rest ih =>
    obtain ⟨k', v'⟩ := e
    simp only [smPut] at h
    split_ifs at h with h1 h2 h3
    · exact (ih h).imp_right (List.mem_cons_of_mem _)
    · exact (List.mem_cons.mp h).imp_right (List.mem_cons_of_mem _)
    · exact List.mem_cons.mp h
    · rcases List.mem_cons.mp h with rfl | h
      · exact Or.inr (List.mem_cons_self ..)
      · exact (ih h).imp_right (List.mem_cons_of_mem _)

/-- Writing keeps the canonical form. -/
theorem smWf_smPut {α : Type} [DecidableEq α] (d : α) (k : Nat) (v : α) (m : SMap α) (h : smWf d m = true) :
    smWf d (smPut d k v m) = true := by
  induction m with
  | nil => by_cases hv : v = d <;> simp [smPut, smWf, hv]
  | cons e rest ih =>
    obtain ⟨k', v'⟩ := e
    have h0 := h
    simp only [smWf, Bool.and_eq_true, List.all_eq_true, decide_eq_true_eq, Bool.not_eq_true',
      decide_eq_false_iff_not] at h
    simp only [smPut]
    split_ifs with h1 h2 h3
    · exact ih h.2
    · simp only [smWf, Bool.and_eq_true, List.all_eq_true, decide_eq_true_eq, Bool.not_eq_true',
        decide_eq_false_iff_not]
      exact ⟨⟨h2, fun x hx => h1 ▸ h.1.2 x hx⟩, h.2⟩
    · simp only [smWf, Bool.and_eq_true, List.all_eq_true, decide_eq_true_eq, Bool.not_eq_true',
        decide_eq_false_iff_not]
      refine ⟨⟨h3.1, ?_⟩, h⟩
      intro x hx
      rcases List.mem_cons.mp hx with rfl | hx
      · exact h3.2
      · exact lt_trans h3.2 (h.1.2 x hx)
    · simp only [smWf, Bool.and_eq_true, List.all_eq_true, decide_eq_true_eq, Bool.not_eq_true',
        decide_eq_false_iff_not]
      refine ⟨⟨h.1.1, ?_⟩, ih h.2⟩
      intro x hx
      rcases smPut_mem d k v rest x hx with rfl | hx
      · by_cases hv : v = d
        · subst hv
          exfalso
          have gone : ∀ (m : SMap α), (k, v) ∉ smPut v k v m := by
            intro m
            induction m with
            | nil => simp [smPut]
            | cons e m ih =>
              obtain ⟨a, b⟩ := e
              simp only [smPut, if_true, ne_eq, not_true_eq_false, false_and, if_false]
              split_ifs with ha
              · exact ih
              · intro hm
                rcases List.mem_cons.mp hm with hm | hm
                · exact ha (Prod.ext_iff.mp hm).1
                · exact ih hm
          exact gone rest hx
        · exact lt_of_le_of_ne (Nat.le_of_not_lt fun hlt => h3 ⟨hv, hlt⟩) (Ne.symm h1)
      · exact h.1.2 x hx

end Sys2Proof.Machine
end

