-- ==== Sys2Proof/Laws/Keeps.lean ====
section
/-!
SUPPORT. What the shared operations can do, said once: a property kept by the elementary updates is kept by every
operation built from them. A frame (no setting changes, the held fault stays, counters stay bounded) is one `Closed`
proof; the lemmas here carry it through each operation.
-/

namespace Sys2Proof.Machine

/-- A property kept by every elementary update that the events of the part are built from. -/
structure Closed (P : State → Prop) : Prop where
  ctx : ∀ {b f s}, P s → P (modCtx b f s)
  debit : ∀ {b f s}, P s → P (modDebit b f s)
  slot : ∀ {b x s}, P s → P (setSlot b x s)
  line : ∀ {b f s}, P s → P (modBoothLine b f s)
  trunk : ∀ {f s}, P s → P (modTrunk f s)
  notices : ∀ {f s}, P s → P (modNotices f s)
  cache : ∀ {c s}, P s → P (setCache c s)
  reached : ∀ {i s}, P s → P (reach i s)
  counter : ∀ {c n s}, P s → P (bumpBy c n s)
  seg : ∀ {g f s}, (∀ x, (f x).replyCode = x.replyCode ∧ (f x).writeCode = x.writeCode) → P s → P (modSeg g f s)
  ring : ∀ {f s}, (∀ r, (f r).highWater = r.highWater) → P s → P (modRing f s)
  mgmt : ∀ {f s}, (∀ m, (f m).access = m.access ∧ (f m).limits = m.limits ∧ (f m).faultHeld = m.faultHeld) →
    P s → P (modMgmt f s)
  fill : ∀ {x s}, s.mgmt.faultHeld = none → P s → P (modMgmt (fun m => { m with faultHeld := some x }) s)
  clock : ∀ {c i s}, P s → P { s with tariff := { s.tariff with clock := c, secondInstant := i } }
  zero : ∀ {g s}, P s → P (clearGroup g s)

theorem foldl_closed {α β : Type} {P : α → Prop} {f : α → β → α} (h : ∀ a x, P a → P (f a x)) (l : List β) {a : α}
    (ha : P a) : P (l.foldl f a) := by
  induction l generalizing a with
  | nil => exact ha
  | cons x l ih => exact ih (h a x ha)

variable {P : State → Prop}

theorem bump_closed (C : Closed P) {c : CounterId} {s : State} (hs : P s) : P (bump c s) := C.counter hs

theorem postTo_closed (C : Closed P) {b : Booth} {f : BoothLine → BoothLine} {s : State} (hs : P s) :
    P (postTo b f s) := by
  unfold postTo
  try dsimp only
  repeat' split
  all_goals
    repeat' with_reducible
      first | exact hs | exact C | apply C.line

theorem postSignal_closed (C : Closed P) {b : Booth} {sig : Signal} {s : State} (hs : P s) :
    P (postSignal b sig s) := by
  unfold postSignal
  try dsimp only
  all_goals
    repeat' with_reducible
      first | exact hs | exact C | apply postTo_closed C

theorem postDebit_closed (C : Closed P) {b : Booth} {w : DebitWork} {s : State} (hs : P s) :
    P (postDebit b w s) := by
  unfold postDebit
  try dsimp only
  all_goals
    repeat' with_reducible
      first | exact hs | exact C | apply postTo_closed C

theorem postCardAction_closed (C : Closed P) {b : Booth} {a : CardAction} {s : State} (hs : P s) :
    P (postCardAction b a s) := by
  unfold postCardAction
  try dsimp only
  repeat' split
  all_goals
    repeat' with_reducible
      first | exact hs | exact C | apply postTo_closed C

theorem withdrawCardAction_closed (C : Closed P) {b : Booth} {s : State} (hs : P s) :
    P (withdrawCardAction b s) := by
  unfold withdrawCardAction
  try dsimp only
  repeat' split
  all_goals
    repeat' with_reducible
      first | exact hs | exact C | apply C.line

theorem clearPending_closed (C : Closed P) {b : Booth} {s : State} (hs : P s) :
    P (clearPending b s) := by
  unfold clearPending
  try dsimp only
  all_goals
    repeat' with_reducible
      first | exact hs | exact C | apply C.line

theorem notePending_closed (C : Closed P) {c : NoticeCause} {s : State} (hs : P s) :
    P (notePending c s) := by
  unfold notePending
  try dsimp only
  all_goals
    repeat' with_reducible
      first | exact hs | exact C | apply C.notices

theorem reportFault_closed (C : Closed P) {kind : FaultKind} {b : Booth} {plan : Fin 8} {digits : List Digit} {card : Option (BitVec 16 × BitVec 32)} {s : State} (hs : P s) :
    P (reportFault kind b plan digits card s) := by
  unfold reportFault; split
  · rename_i h
    exact notePending_closed C (C.fill (by simpa using h) (bump_closed C hs))
  · refine C.mgmt (fun _ => ⟨rfl, rfl, rfl⟩) (bump_closed C hs)

theorem signalBooths_closed (C : Closed P) {p : Booth → Bool} {sig : Signal} {s : State} (hs : P s) :
    P (signalBooths p sig s) := by
  unfold signalBooths
  exact foldl_closed (fun t b ht => by split; exacts [postSignal_closed C ht, ht]) _ hs

theorem releaseCard_closed (C : Closed P) {b : Booth} {reason : CardReason} {s : State} (hs : P s) :
    P (releaseCard b reason s) := by
  unfold releaseCard
  try dsimp only
  repeat' split
  all_goals
    repeat' with_reducible
      first | exact hs | exact C | apply C.slot | apply bump_closed C | apply postSignal_closed C
              | apply postCardAction_closed C

theorem queueSig_closed (C : Closed P) {f : SigFrame} {s : State} (hs : P s) :
    P (queueSig f s) := by
  unfold queueSig
  try dsimp only
  repeat' split
  all_goals
    repeat' with_reducible
      first | exact hs | exact C | apply C.trunk | apply bump_closed C

theorem oweHangup_closed (C : Closed P) {ch : Channel} {s : State} (hs : P s) :
    P (oweHangup ch s) := by
  unfold oweHangup
  try dsimp only
  repeat' split
  all_goals
    repeat' with_reducible
      first | exact hs | exact C | apply C.trunk | apply bump_closed C

theorem joinWaiting_closed (C : Closed P) {b : Booth} {s : State} (hs : P s) :
    P (joinWaiting b s) := by
  unfold joinWaiting
  try dsimp only
  all_goals
    repeat' with_reducible
      first | exact hs | exact C | apply C.trunk

theorem leaveWaiting_closed (C : Closed P) {b : Booth} {s : State} (hs : P s) :
    P (leaveWaiting b s) := by
  unfold leaveWaiting
  try dsimp only
  all_goals
    repeat' with_reducible
      first | exact hs | exact C | apply C.trunk

theorem offerSlot_closed (C : Closed P) {s : State} (hs : P s) :
    P (offerSlot s) := by
  unfold offerSlot
  try dsimp only
  repeat' split
  all_goals
    repeat' with_reducible
      first | exact hs | exact C | apply C.ctx | apply C.trunk | apply queueSig_closed C

theorem offerSlotsFuel_closed (C : Closed P) {n : Nat} {s : State} (hs : P s) :
    P (offerSlotsFuel n s) := by
  induction n generalizing s with
  | zero => exact hs
  | succ n ih =>
    unfold offerSlotsFuel; split
    · exact ih (offerSlot_closed C hs)
    · exact hs

theorem offerSlots_closed (C : Closed P) {s : State} (hs : P s) :
    P (offerSlots s) := by
  unfold offerSlots
  try dsimp only
  all_goals
    repeat' with_reducible
      first | exact hs | exact C | apply offerSlotsFuel_closed C

theorem forward_closed (C : Closed P) {b : Booth} {d : Digit} {s : State} (hs : P s) :
    P (forward b d s) := by
  unfold forward
  try dsimp only
  repeat' split
  all_goals
    repeat' with_reducible
      first | exact hs | exact C | apply C.ctx | apply bump_closed C | apply queueSig_closed C
              | apply joinWaiting_closed C

theorem releaseHeldFuel_closed (C : Closed P) {n : Nat} {b : Booth} {s : State} (hs : P s) :
    P (releaseHeldFuel n b s) := by
  induction n generalizing s with
  | zero => exact hs
  | succ n ih =>
    unfold releaseHeldFuel; split
    · exact hs
    · split
      · exact ih (queueSig_closed C (C.ctx hs))
      · exact joinWaiting_closed C hs

theorem releaseHeld_closed (C : Closed P) {b : Booth} {s : State} (hs : P s) :
    P (releaseHeld b s) := by
  unfold releaseHeld
  try dsimp only
  all_goals
    repeat' with_reducible
      first | exact hs | exact C | apply releaseHeldFuel_closed C

theorem releaseChannel_closed (C : Closed P) {b : Booth} {owe : Bool} {s : State} (hs : P s) :
    P (releaseChannel b owe s) := by
  unfold releaseChannel
  try dsimp only
  repeat' split
  all_goals
    repeat' with_reducible
      first | exact hs | exact C | apply C.trunk | apply C.counter | apply oweHangup_closed C
              | apply leaveWaiting_closed C | apply offerSlots_closed C

theorem enterTaken_closed (C : Closed P) {b : Booth} {s : State} (hs : P s) :
    P (enterTaken b s) := by
  unfold enterTaken
  try dsimp only
  all_goals
    repeat' with_reducible
      first | exact hs | exact C | apply C.line | apply postSignal_closed C

theorem honourMark_closed (C : Closed P) {b : Booth} {s : State} (hs : P s) :
    P (honourMark b s) := by
  unfold honourMark
  try dsimp only
  repeat' split
  all_goals
    repeat' with_reducible
      first | exact hs | exact C | apply enterTaken_closed C

theorem checkDrain_closed (C : Closed P) {s : State} (hs : P s) :
    P (checkDrain s) := by
  unfold checkDrain
  try dsimp only
  repeat' split
  all_goals
    repeat' with_reducible
      first | exact hs | exact C | refine C.mgmt (fun _ => ⟨rfl, rfl, rfl⟩) ?_
              | apply signalBooths_closed C

theorem writeTicket_closed (C : Closed P) {b : Booth} {s : State} (hs : P s) :
    P (writeTicket b s) := by
  unfold writeTicket
  try dsimp only
  repeat' split
  all_goals
    repeat' with_reducible
      first | exact hs | exact C | apply bump_closed C | refine C.ring (fun _ => rfl) ?_
              | apply notePending_closed C

theorem giveBackReservation_closed (C : Closed P) {s : State} (hs : P s) :
    P (giveBackReservation s) := by
  unfold giveBackReservation
  try dsimp only
  all_goals
    repeat' with_reducible
      first | exact hs | exact C | refine C.ring (fun _ => rfl) ?_

theorem evaluateBand_closed (C : Closed P) {b : Booth} {s : State} (hs : P s) :
    P (evaluateBand b s) := by
  unfold evaluateBand
  try dsimp only
  repeat' split
  all_goals
    repeat' with_reducible
      first | exact hs | exact C | apply C.debit | apply bump_closed C

theorem evaluateAll_closed (C : Closed P) {s : State} (hs : P s) :
    P (evaluateAll s) := by
  unfold evaluateAll
  exact foldl_closed (fun t b ht => by split; exacts [evaluateBand_closed C ht, ht]) _ hs

theorem freeContext_closed (C : Closed P) {b : Booth} {s : State} (hs : P s) :
    P (freeContext b s) := by
  unfold freeContext
  try dsimp only
  all_goals
    repeat' with_reducible
      first | exact hs | exact C | apply C.ctx | apply C.debit

theorem endBeforeAnswer_closed (C : Closed P) {b : Booth} {cause : EndCause} {s : State} (hs : P s) :
    P (endBeforeAnswer b cause s) := by
  unfold endBeforeAnswer
  try dsimp only
  repeat' split
  all_goals
    repeat' with_reducible
      first | exact hs | exact C | apply C.ctx | apply bump_closed C | apply postSignal_closed C
              | apply releaseChannel_closed C | apply honourMark_closed C | apply checkDrain_closed C
              | apply giveBackReservation_closed C | apply freeContext_closed C

theorem complete_closed (C : Closed P) {b : Booth} {eject : Bool} {s : State} (hs : P s) :
    P (complete b eject s) := by
  unfold complete
  try dsimp only
  repeat' split
  all_goals
    repeat' with_reducible
      first | exact hs | exact C | apply C.ctx | apply bump_closed C | apply releaseCard_closed C
              | apply releaseChannel_closed C | apply honourMark_closed C | apply checkDrain_closed C
              | apply writeTicket_closed C | apply freeContext_closed C

theorem postCancel_closed (C : Closed P) {b : Booth} {i : Nat} {e : CardEntry} {n : Nat} {final : Bool} {s : State} (hs : P s) :
    P (postCancel b i e n final s) := by
  unfold postCancel
  try dsimp only
  all_goals
    repeat' with_reducible
      first | exact hs | exact C | apply C.debit | apply bump_closed C | apply postDebit_closed C

theorem settled_closed (C : Closed P) {b : Booth} {s : State} (hs : P s) :
    P (settled b s) := by
  unfold settled
  try dsimp only
  all_goals
    repeat' with_reducible
      first | exact hs | exact C | apply C.debit | apply complete_closed C

theorem finalTest_closed (C : Closed P) {b : Booth} {s : State} (hs : P s) :
    P (finalTest b s) := by
  unfold finalTest
  try dsimp only
  repeat' split
  all_goals
    repeat' with_reducible
      first | exact hs | exact C | apply C.debit | apply bump_closed C | apply postCancel_closed C
              | apply settled_closed C

theorem beginSettle_closed (C : Closed P) {b : Booth} {s : State} (hs : P s) :
    P (beginSettle b s) := by
  unfold beginSettle
  try dsimp only
  repeat' split
  all_goals
    repeat' with_reducible
      first | exact hs | exact C | apply C.debit | apply finalTest_closed C

theorem enterEnding_closed (C : Closed P) {b : Booth} {cause : EndCause} {s : State} (hs : P s) :
    P (enterEnding b cause s) := by
  unfold enterEnding
  try dsimp only
  repeat' split
  all_goals
    repeat' with_reducible
      first | exact hs | exact C | apply C.ctx | apply C.debit | apply beginSettle_closed C

theorem settleOn_closed (C : Closed P) {b : Booth} {final : Bool} {s : State} (hs : P s) :
    P (settleOn b final s) := by
  unfold settleOn
  try dsimp only
  repeat' split
  all_goals
    repeat' with_reducible
      first | exact hs | exact C | apply settled_closed C | apply finalTest_closed C

theorem makeUncertain_closed (C : Closed P) {b : Booth} {a : Ask} {report : Bool} {s : State} (hs : P s) :
    P (makeUncertain b a report s) := by
  unfold makeUncertain
  try dsimp only
  repeat' split
  all_goals
    repeat' with_reducible
      first | exact hs | exact C | apply C.debit | apply bump_closed C | apply reportFault_closed C

theorem dropOutstanding_closed (C : Closed P) {b : Booth} {report : Bool} {s : State} (hs : P s) :
    P (dropOutstanding b report s) := by
  unfold dropOutstanding
  try dsimp only
  repeat' split
  all_goals
    repeat' with_reducible
      first | exact hs | exact C | apply makeUncertain_closed C

theorem cutShort_closed (C : Closed P) {b : Booth} {s : State} (hs : P s) :
    P (cutShort b s) := by
  unfold cutShort
  try dsimp only
  all_goals
    repeat' with_reducible
      first | exact hs | exact C | apply C.debit | apply complete_closed C | apply settled_closed C
              | apply dropOutstanding_closed C

theorem endForHealth_closed (C : Closed P) {b : Booth} {cause : EndCause} {s : State} (hs : P s) :
    P (endForHealth b cause s) := by
  unfold endForHealth
  try dsimp only
  repeat' split
  all_goals
    repeat' with_reducible
      first | exact hs | exact C | apply C.ctx | apply C.debit | apply endBeforeAnswer_closed C
              | apply cutShort_closed C

theorem endForReset_closed (C : Closed P) {cause : EndCause} {b : Booth} {s : State} (hs : P s) :
    P (endForReset cause b s) := by
  unfold endForReset
  try dsimp only
  repeat' split
  all_goals
    repeat' with_reducible
      first | exact hs | exact C | apply C.ctx | apply C.debit | apply bump_closed C
              | apply writeTicket_closed C | apply giveBackReservation_closed C
              | apply dropOutstanding_closed C

theorem enterSwap_closed (C : Closed P) {b : Booth} {cause : EndCause} {s : State} (hs : P s) :
    P (enterSwap b cause s) := by
  unfold enterSwap
  try dsimp only
  repeat' split
  all_goals
    repeat' with_reducible
      first | exact hs | exact C | apply C.ctx | apply bump_closed C

theorem exhaust_closed (C : Closed P) {b : Booth} {s : State} (hs : P s) :
    P (exhaust b s) := by
  unfold exhaust
  try dsimp only
  all_goals
    repeat' with_reducible
      first | exact hs | exact C | apply bump_closed C | apply postSignal_closed C
              | apply releaseCard_closed C | apply enterSwap_closed C

theorem unitsDue_closed (C : Closed P) {b : Booth} {s : State} (hs : P s) :
    P (unitsDue b s) := by
  unfold unitsDue
  try dsimp only
  repeat' split
  all_goals
    repeat' with_reducible
      first | exact hs | exact C | apply postCancel_closed C | apply exhaust_closed C

theorem lowCreditTest_closed (C : Closed P) {b : Booth} {i : Nat} {s : State} (hs : P s) :
    P (lowCreditTest b i s) := by
  unfold lowCreditTest
  try dsimp only
  repeat' split
  all_goals
    repeat' with_reducible
      first | exact hs | exact C | apply C.debit | apply postSignal_closed C

theorem countSignals_closed (C : Closed P) {b : Booth} {i : Nat} {s : State} (hs : P s) :
    P (countSignals b i s) := by
  unfold countSignals
  try dsimp only
  repeat' split
  all_goals
    repeat' with_reducible
      first | exact hs | exact C | apply postSignal_closed C | apply lowCreditTest_closed C

theorem setSlotCount_closed (C : Closed P) {b : Booth} {i count : Nat} {s : State} (hs : P s) :
    P (setSlotCount b i count s) := by
  unfold setSlotCount
  try dsimp only
  repeat' split
  all_goals
    repeat' with_reducible
      first | exact hs | exact C | apply C.slot

theorem dropRecord_closed (C : Closed P) {b : Booth} {i k : Nat} {s : State} (hs : P s) :
    P (dropRecord b i k s) := by
  unfold dropRecord
  try dsimp only
  repeat' split
  all_goals
    repeat' with_reducible
      first | exact hs | exact C | apply C.debit | apply bump_closed C

theorem confirm_closed (C : Closed P) {b : Booth} {i k count : Nat} {s : State} (hs : P s) :
    P (confirm b i k count s) := by
  unfold confirm
  try dsimp only
  all_goals
    repeat' with_reducible
      first | exact hs | exact C | apply C.debit | apply C.counter | apply bump_closed C
              | apply setSlotCount_closed C | apply dropRecord_closed C

theorem goOn_closed (C : Closed P) {b : Booth} {final : Bool} {s : State} (hs : P s) :
    P (goOn b final s) := by
  unfold goOn
  try dsimp only
  repeat' split
  all_goals
    repeat' with_reducible
      first | exact hs | exact C | apply settleOn_closed C | apply unitsDue_closed C

theorem clearOutstanding_closed (C : Closed P) {b : Booth} {s : State} (hs : P s) :
    P (clearOutstanding b s) := by
  unfold clearOutstanding
  try dsimp only
  all_goals
    repeat' with_reducible
      first | exact hs | exact C | apply C.debit

theorem countFault_closed (C : Closed P) {b : Booth} {i : Nat} {s : State} (hs : P s) :
    P (countFault b i s) := by
  unfold countFault
  try dsimp only
  repeat' split
  all_goals
    repeat' with_reducible
      first | exact hs | exact C | apply C.debit | apply bump_closed C | apply reportFault_closed C
              | apply enterEnding_closed C | apply settleOn_closed C

theorem countReply_closed (C : Closed P) {b : Booth} {a : Ask} {count : Nat} {s : State} (hs : P s) :
    P (countReply b a count s) := by
  unfold countReply
  try dsimp only
  repeat' split
  all_goals
    repeat' with_reducible
      first | exact hs | exact C | apply countSignals_closed C | apply confirm_closed C
              | apply goOn_closed C | apply clearOutstanding_closed C | apply countFault_closed C

theorem writeErrorReply_closed (C : Closed P) {b : Booth} {a : Ask} {count : Nat} {s : State} (hs : P s) :
    P (writeErrorReply b a count s) := by
  unfold writeErrorReply
  try dsimp only
  repeat' split
  all_goals
    repeat' with_reducible
      first | exact hs | exact C | apply bump_closed C | apply releaseCard_closed C
              | apply settleOn_closed C | apply enterSwap_closed C | apply confirm_closed C
              | apply clearOutstanding_closed C | apply countFault_closed C

theorem markCardLeft_closed (C : Closed P) {b : Booth} {s : State} (hs : P s) :
    P (markCardLeft b s) := by
  unfold markCardLeft
  try dsimp only
  all_goals
    repeat' with_reducible
      first | exact hs | exact C | apply C.debit

theorem cardGone_closed (C : Closed P) {b : Booth} {final : Bool} {s : State} (hs : P s) :
    P (cardGone b final s) := by
  unfold cardGone
  try dsimp only
  repeat' split
  all_goals
    repeat' with_reducible
      first | exact hs | exact C | apply settleOn_closed C | apply enterSwap_closed C
              | apply markCardLeft_closed C

theorem noCardReply_closed (C : Closed P) {b : Booth} {a : Ask} {s : State} (hs : P s) :
    P (noCardReply b a s) := by
  unfold noCardReply
  try dsimp only
  all_goals
    repeat' with_reducible
      first | exact hs | exact C | apply bump_closed C | apply clearOutstanding_closed C
              | apply cardGone_closed C

theorem missedCancel_closed (C : Closed P) {b : Booth} {a : Ask} {s : State} (hs : P s) :
    P (missedCancel b a s) := by
  unfold missedCancel
  try dsimp only
  all_goals
    repeat' with_reducible
      first | exact hs | exact C | apply C.debit | apply bump_closed C | apply postDebit_closed C

theorem uncertainReply_closed (C : Closed P) {b : Booth} {a : Ask} {s : State} (hs : P s) :
    P (uncertainReply b a s) := by
  unfold uncertainReply
  try dsimp only
  all_goals
    repeat' with_reducible
      first | exact hs | exact C | apply makeUncertain_closed C | apply cardGone_closed C

theorem debitOutcome_closed (C : Closed P) {b : Booth} {reply : Option BoothReply} {s : State} (hs : P s) :
    P (debitOutcome b reply s) := by
  unfold debitOutcome
  try dsimp only
  repeat' split
  all_goals
    repeat' with_reducible
      first | exact hs | exact C | apply bump_closed C | apply countReply_closed C
              | apply writeErrorReply_closed C | apply noCardReply_closed C | apply missedCancel_closed C
              | apply uncertainReply_closed C

theorem compareCount_closed (C : Closed P) {b : Booth} {i count : Nat} {s : State} (hs : P s) :
    P (compareCount b i count s) := by
  unfold compareCount
  try dsimp only
  repeat' split
  all_goals
    repeat' with_reducible
      first | exact hs | exact C | apply C.debit | apply bump_closed C | apply countSignals_closed C
              | apply countFault_closed C

theorem lateResolution_closed (C : Closed P) {b : Booth} {u : Uncertain} {count : Nat} {s : State} (hs : P s) :
    P (lateResolution b u count s) := by
  unfold lateResolution
  try dsimp only
  repeat' split
  all_goals
    repeat' with_reducible
      first | exact hs | exact C | apply C.debit | apply bump_closed C | apply countSignals_closed C
              | apply confirm_closed C | apply countFault_closed C | apply compareCount_closed C

theorem takeCount_closed (C : Closed P) {b : Booth} {i count : Nat} {s : State} (hs : P s) :
    P (takeCount b i count s) := by
  unfold takeCount
  try dsimp only
  repeat' split
  all_goals
    repeat' with_reducible
      first | exact hs | exact C | apply countFault_closed C | apply compareCount_closed C
              | apply lateResolution_closed C

theorem countAtStatus_closed (C : Closed P) {b : Booth} {identity : BitVec 16 × BitVec 32} {count : Nat} {s : State} (hs : P s) :
    P (countAtStatus b identity count s) := by
  unfold countAtStatus
  try dsimp only
  repeat' split
  all_goals
    repeat' with_reducible
      first | exact hs | exact C | apply C.debit | apply takeCount_closed C

theorem joinList_closed (C : Closed P) {b : Booth} {s : State} (hs : P s) :
    P (joinList b s) := by
  unfold joinList
  try dsimp only
  repeat' split
  all_goals
    repeat' with_reducible
      first | exact hs | exact C | apply C.debit | apply lowCreditTest_closed C

theorem returnToSpeech_closed (C : Closed P) {b : Booth} {s : State} (hs : P s) :
    P (returnToSpeech b s) := by
  unfold returnToSpeech
  try dsimp only
  all_goals
    repeat' with_reducible
      first | exact hs | exact C | apply C.ctx | apply bump_closed C | apply unitsDue_closed C

theorem swapOffer_closed (C : Closed P) {b : Booth} {s : State} (hs : P s) :
    P (swapOffer b s) := by
  unfold swapOffer
  try dsimp only
  repeat' split
  all_goals
    repeat' with_reducible
      first | exact hs | exact C | apply bump_closed C | apply releaseCard_closed C
              | apply takeCount_closed C | apply joinList_closed C | apply returnToSpeech_closed C

theorem startDebit_closed (C : Closed P) {b : Booth} {s : State} (hs : P s) :
    P (startDebit b s) := by
  unfold startDebit
  try dsimp only
  all_goals
    repeat' with_reducible
      first | exact hs | exact C | apply C.debit | apply bump_closed C | apply evaluateBand_closed C
              | apply unitsDue_closed C

theorem chargeTotal_closed (C : Closed P) {b : Booth} {s : State} (hs : P s) :
    P (chargeTotal b s) := by
  unfold chargeTotal
  try dsimp only
  repeat' split
  all_goals
    repeat' with_reducible
      first | exact hs | exact C | apply C.debit | apply bump_closed C

theorem chargeBalance_closed (C : Closed P) {b : Booth} {s : State} (hs : P s) :
    P (chargeBalance b s) := by
  unfold chargeBalance
  try dsimp only
  repeat' split
  all_goals
    repeat' with_reducible
      first | exact hs | exact C | apply C.debit | apply bump_closed C | apply reportFault_closed C

theorem timeLimitCheck_closed (C : Closed P) {b : Booth} {s : State} (hs : P s) :
    P (timeLimitCheck b s) := by
  unfold timeLimitCheck
  try dsimp only
  repeat' split
  all_goals
    repeat' with_reducible
      first | exact hs | exact C | apply enterEnding_closed C

theorem takeTick_closed (C : Closed P) {b : Booth} {s : State} (hs : P s) :
    P (takeTick b s) := by
  unfold takeTick
  try dsimp only
  all_goals
    repeat' with_reducible
      first | exact hs | exact C | apply C.debit | apply bump_closed C | apply unitsDue_closed C
              | apply chargeTotal_closed C | apply chargeBalance_closed C | apply timeLimitCheck_closed C

theorem walkFault_closed (C : Closed P) {b : Booth} {kind : FaultKind} {str : List Digit} {s : State} (hs : P s) :
    P (walkFault b kind str s) := by
  unfold walkFault
  try dsimp only
  repeat' split
  all_goals
    repeat' with_reducible
      first | exact hs | exact C | apply bump_closed C | apply reportFault_closed C

theorem walkHit_closed (C : Closed P) {b : Booth} {str : List Digit} {e : CacheEntry} {s : State} (hs : P s) :
    P (walkHit b str e s).2 := by
  unfold walkHit; dsimp only; split
  · exact bump_closed C (C.cache (bump_closed C hs))
  · show P (walkFault b .cls str _)
    exact walkFault_closed C (C.cache (bump_closed C hs))

theorem walkMiss_closed (C : Closed P) {b : Booth} {str : List Digit} {d : Digit} {tag : Fin 64} {s : State}
    (hs : P s) : P (walkMiss b str d tag s).2 := by
  unfold walkMiss; dsimp only; repeat' split
  all_goals
    repeat' with_reducible
      first | exact hs | apply bump_closed C | apply C.cache | apply walkFault_closed C

theorem walkStep_closed (C : Closed P) {b : Booth} {d : Digit} {s : State} (hs : P s) :
    P (walkStep b d s).2 := by
  unfold walkStep; dsimp only; split
  · exact walkHit_closed C (bump_closed C hs)
  · exact walkMiss_closed C (bump_closed C hs)

theorem enterRouted_closed (C : Closed P) {b : Booth} {s : State} (hs : P s) :
    P (enterRouted b s) := by
  unfold enterRouted
  try dsimp only
  all_goals
    repeat' with_reducible
      first | exact hs | exact C | apply C.ctx | apply joinList_closed C

theorem creditCheckWaiting_closed (C : Closed P) {b : Booth} {s : State} (hs : P s) :
    P (creditCheckWaiting b s) := by
  unfold creditCheckWaiting
  try dsimp only
  repeat' split
  all_goals
    repeat' with_reducible
      first | exact hs | exact C | apply releaseHeld_closed C | apply endBeforeAnswer_closed C
              | apply enterRouted_closed C

theorem admitCall_closed (C : Closed P) {b : Booth} {s : State} (hs : P s) :
    P (admitCall b s) := by
  unfold admitCall
  try dsimp only
  all_goals
    repeat' with_reducible
      first | exact hs | exact C | apply C.ctx | apply C.debit | apply bump_closed C
              | refine C.ring (fun _ => rfl) ?_ | apply queueSig_closed C

theorem refuseAdmission_closed (C : Closed P) {b : Booth} {cause : RefusalCause} {s : State} (hs : P s) :
    P (refuseAdmission b cause s) := by
  unfold refuseAdmission
  try dsimp only
  repeat' split
  all_goals
    repeat' with_reducible
      first | exact hs | exact C | apply bump_closed C | apply postSignal_closed C
              | apply notePending_closed C

theorem hookOffEvent_closed (C : Closed P) {b : Booth} {s : State} (hs : P s) :
    P (hookOffEvent b s) := by
  unfold hookOffEvent
  try dsimp only
  repeat' split
  all_goals
    repeat' with_reducible
      first | exact hs | exact C | apply C.ctx | apply admitCall_closed C | apply refuseAdmission_closed C

theorem hookOnEvent_closed (C : Closed P) {b : Booth} {s : State} (hs : P s) :
    P (hookOnEvent b s) := by
  unfold hookOnEvent
  try dsimp only
  repeat' split
  all_goals
    repeat' with_reducible
      first | exact hs | exact C | apply C.ctx | apply endBeforeAnswer_closed C
              | apply enterEnding_closed C

theorem storeLeaf_closed (C : Closed P) {b : Booth} {snap : Snapshot} {common : Bool} {s : State} (hs : P s) :
    P (storeLeaf b snap common s) := by
  unfold storeLeaf
  try dsimp only
  all_goals
    repeat' with_reducible
      first | exact hs | exact C | apply C.ctx

theorem storeDigit_closed (C : Closed P) {b : Booth} {d : Digit} {s : State} (hs : P s) :
    P (storeDigit b d s) := by
  unfold storeDigit
  try dsimp only
  all_goals
    repeat' with_reducible
      first | exact hs | exact C | apply C.ctx

theorem enterCardWait_closed (C : Closed P) {b : Booth} {d : Digit} {s : State} (hs : P s) :
    P (enterCardWait b d s) := by
  unfold enterCardWait
  try dsimp only
  all_goals
    repeat' with_reducible
      first | exact hs | exact C | apply C.ctx | apply postSignal_closed C | apply leaveWaiting_closed C
              | apply storeDigit_closed C

theorem takeWalk_closed (C : Closed P) {b : Booth} {d : Digit} {o : WalkOutcome} {s : State} (hs : P s) :
    P (takeWalk b d o s) := by
  unfold takeWalk
  try dsimp only
  repeat' split
  all_goals
    repeat' with_reducible
      first | exact hs | exact C | apply C.ctx | apply forward_closed C | apply endBeforeAnswer_closed C
              | apply enterRouted_closed C | apply storeLeaf_closed C | apply storeDigit_closed C
              | apply enterCardWait_closed C

theorem digitDialling_closed (C : Closed P) {b : Booth} {d : Digit} {s : State} (hs : P s) :
    P (digitDialling b d s) := by
  unfold digitDialling; dsimp only; split
  · exact endBeforeAnswer_closed C hs
  · exact takeWalk_closed C (walkStep_closed C hs)

theorem digitCardWait_closed (C : Closed P) {b : Booth} {d : Digit} {s : State} (hs : P s) :
    P (digitCardWait b d s) := by
  unfold digitCardWait
  try dsimp only
  repeat' split
  all_goals
    repeat' with_reducible
      first | exact hs | exact C | apply C.ctx | apply bump_closed C | apply storeDigit_closed C

theorem digitAfterLeaf_closed (C : Closed P) {b : Booth} {d : Digit} {s : State} (hs : P s) :
    P (digitAfterLeaf b d s) := by
  unfold digitAfterLeaf
  try dsimp only
  repeat' split
  all_goals
    repeat' with_reducible
      first | exact hs | exact C | apply C.ctx | apply forward_closed C | apply storeDigit_closed C

theorem digitEvent_closed (C : Closed P) {b : Booth} {d : Digit} {s : State} (hs : P s) :
    P (digitEvent b d s) := by
  unfold digitEvent
  try dsimp only
  repeat' split
  all_goals
    repeat' with_reducible
      first | exact hs | exact C | apply bump_closed C | apply digitDialling_closed C
              | apply digitCardWait_closed C | apply digitAfterLeaf_closed C

theorem answerEvent_closed (C : Closed P) {b : Booth} {s : State} (hs : P s) :
    P (answerEvent b s) := by
  unfold answerEvent
  try dsimp only
  repeat' split
  all_goals
    repeat' with_reducible
      first | exact hs | exact C | apply C.ctx | apply bump_closed C | apply oweHangup_closed C
              | apply endBeforeAnswer_closed C | apply startDebit_closed C

theorem clearEvent_closed (C : Closed P) {b : Booth} {s : State} (hs : P s) :
    P (clearEvent b s) := by
  unfold clearEvent
  try dsimp only
  repeat' split
  all_goals
    repeat' with_reducible
      first | exact hs | exact C | apply C.ctx | apply endBeforeAnswer_closed C
              | apply enterEnding_closed C

theorem forceClearEvent_closed (C : Closed P) {b : Booth} {s : State} (hs : P s) :
    P (forceClearEvent b s) := by
  unfold forceClearEvent
  try dsimp only
  repeat' split
  all_goals
    repeat' with_reducible
      first | exact hs | exact C | apply endBeforeAnswer_closed C | apply enterEnding_closed C

theorem slotBecameValid_closed (C : Closed P) {b : Booth} {s : State} (hs : P s) :
    P (slotBecameValid b s) := by
  unfold slotBecameValid
  try dsimp only
  repeat' split
  all_goals
    repeat' with_reducible
      first | exact hs | exact C | apply takeCount_closed C | apply swapOffer_closed C
              | apply creditCheckWaiting_closed C

theorem slotLeftValid_closed (C : Closed P) {b : Booth} {wasCurrent : Bool} {s : State} (hs : P s) :
    P (slotLeftValid b wasCurrent s) := by
  unfold slotLeftValid
  try dsimp only
  repeat' split
  all_goals
    repeat' with_reducible
      first | exact hs | exact C | apply endBeforeAnswer_closed C | apply enterSwap_closed C
              | apply markCardLeft_closed C

theorem emptySlotReported_closed (C : Closed P) {b : Booth} {s : State} (hs : P s) :
    P (emptySlotReported b s) := by
  unfold emptySlotReported
  try dsimp only
  repeat' split
  all_goals
    repeat' with_reducible
      first | exact hs | exact C | apply C.slot | apply withdrawCardAction_closed C
              | apply slotLeftValid_closed C

theorem countProbe_closed (C : Closed P) {r : CardRecord} {s : State} (hs : P s) :
    P (countProbe r s) := by
  unfold countProbe
  try dsimp only
  repeat' split
  all_goals
    repeat' with_reducible
      first | exact hs | exact C | apply bump_closed C

theorem acceptCard_closed (C : Closed P) {b : Booth} {r : CardRecord} {unitValue warn : Nat} {s : State} (hs : P s) :
    P (acceptCard b r unitValue warn s) := by
  unfold acceptCard
  try dsimp only
  all_goals
    repeat' with_reducible
      first | exact hs | exact C | apply C.slot | apply bump_closed C | apply postSignal_closed C
              | apply slotBecameValid_closed C

theorem refuseCard_closed (C : Closed P) {b : Booth} {r : CardRecord} {reason : CardReason} {action : StopAction} {s : State} (hs : P s) :
    P (refuseCard b r reason action s) := by
  unfold refuseCard
  try dsimp only
  repeat' split
  all_goals
    repeat' with_reducible
      first | exact hs | exact C | apply C.slot | apply bump_closed C | apply postSignal_closed C
              | apply postCardAction_closed C | apply notePending_closed C

theorem refuseOutOfOrder_closed (C : Closed P) {b : Booth} {r : CardRecord} {s : State} (hs : P s) :
    P (refuseOutOfOrder b r s) := by
  unfold refuseOutOfOrder
  try dsimp only
  all_goals
    repeat' with_reducible
      first | exact hs | exact C | apply C.slot | apply bump_closed C | apply postSignal_closed C
              | apply postCardAction_closed C

theorem judgeCard_closed (C : Closed P) {b : Booth} {r : CardRecord} {s : State} (hs : P s) :
    P (judgeCard b r s) := by
  unfold judgeCard
  try dsimp only
  repeat' split
  all_goals
    repeat' with_reducible
      first | exact hs | exact C | apply countProbe_closed C | apply acceptCard_closed C
              | apply refuseCard_closed C | apply refuseOutOfOrder_closed C

theorem replaceCard_closed (C : Closed P) {b : Booth} {r : CardRecord} {s : State} (hs : P s) :
    P (replaceCard b r s) := by
  unfold replaceCard
  try dsimp only
  all_goals
    repeat' with_reducible
      first | exact hs | exact C | apply bump_closed C | apply emptySlotReported_closed C
              | apply judgeCard_closed C

theorem cardInEvent_closed (C : Closed P) {b : Booth} {marker : Bool} {r : CardRecord} {s : State} (hs : P s) :
    P (cardInEvent b marker r s) := by
  unfold cardInEvent
  try dsimp only
  repeat' split
  all_goals
    repeat' with_reducible
      first | exact hs | exact C | apply C.slot | apply bump_closed C | apply countAtStatus_closed C
              | apply judgeCard_closed C | apply replaceCard_closed C

theorem cardOutEvent_closed (C : Closed P) {b : Booth} {s : State} (hs : P s) :
    P (cardOutEvent b s) := by
  unfold cardOutEvent
  try dsimp only
  repeat' split
  all_goals
    repeat' with_reducible
      first | exact hs | exact C | apply bump_closed C | apply emptySlotReported_closed C

theorem enterReader_closed (C : Closed P) {b : Booth} {s : State} (hs : P s) :
    P (enterReader b s) := by
  unfold enterReader
  try dsimp only
  all_goals
    repeat' with_reducible
      first | exact hs | exact C | apply C.slot | apply C.line | apply postSignal_closed C
              | apply clearPending_closed C | apply notePending_closed C | apply endForHealth_closed C

theorem readerFaultEvent_closed (C : Closed P) {b : Booth} {s : State} (hs : P s) :
    P (readerFaultEvent b s) := by
  unfold readerFaultEvent
  try dsimp only
  repeat' split
  all_goals
    repeat' with_reducible
      first | exact hs | exact C | apply reportFault_closed C | apply enterReader_closed C

theorem enterLost_closed (C : Closed P) {b : Booth} {s : State} (hs : P s) :
    P (enterLost b s) := by
  unfold enterLost
  try dsimp only
  all_goals
    repeat' with_reducible
      first | exact hs | exact C | apply C.slot | apply C.line | apply clearPending_closed C
              | apply notePending_closed C | apply reportFault_closed C | apply endForHealth_closed C

theorem emptyRefused_closed (C : Closed P) {b : Booth} {s : State} (hs : P s) :
    P (emptyRefused b s) := by
  unfold emptyRefused
  try dsimp only
  repeat' split
  all_goals
    repeat' with_reducible
      first | exact hs | exact C | apply C.slot

theorem ejectOutcome_closed (C : Closed P) {b : Booth} {reply : BoothReply} {s : State} (hs : P s) :
    P (ejectOutcome b reply s) := by
  unfold ejectOutcome
  try dsimp only
  repeat' split
  all_goals
    repeat' with_reducible
      first | exact hs | exact C | apply bump_closed C | apply emptyRefused_closed C

theorem retainOutcome_closed (C : Closed P) {b : Booth} {reply : BoothReply} {s : State} (hs : P s) :
    P (retainOutcome b reply s) := by
  unfold retainOutcome
  try dsimp only
  repeat' split
  all_goals
    repeat' with_reducible
      first | exact hs | exact C | apply C.slot | apply bump_closed C

theorem boothEvent_closed (C : Closed P) {b : Booth} {marker : Bool} {e : BoothEvent} {s : State} (hs : P s) :
    P (boothEvent b marker e s) := by
  unfold boothEvent
  try dsimp only
  repeat' split
  all_goals
    repeat' with_reducible
      first | exact hs | exact C | apply C.ctx | apply hookOffEvent_closed C | apply hookOnEvent_closed C
              | apply digitEvent_closed C | apply cardInEvent_closed C | apply cardOutEvent_closed C
              | apply readerFaultEvent_closed C

theorem boothEvents_closed (C : Closed P) {b : Booth} {marker : Bool} {evs : List BoothEvent} {s : State} (hs : P s) :
    P (boothEvents b marker evs s) := by
  unfold boothEvents
  exact foldl_closed (fun t e ht => boothEvent_closed C ht) _ hs

theorem sendGrant_closed (C : Closed P) {g : Segment} {k : WorkClass} {b : Booth} {s : State} (hs : P s) :
    P (sendGrant g k b s) := by
  unfold sendGrant
  try dsimp only
  repeat' split
  all_goals
    repeat' with_reducible
      first | exact hs | exact C | apply C.line | apply bump_closed C
              | refine C.seg (fun _ => ⟨rfl, rfl⟩) ?_

theorem arbiterTurn_closed (C : Closed P) {g : Segment} {s : State} (hs : P s) :
    P (arbiterTurn g s) := by
  unfold arbiterTurn
  try dsimp only
  repeat' split
  all_goals
    repeat' with_reducible
      first | exact hs | exact C | apply sendGrant_closed C

theorem handMiss_closed (C : Closed P) {t : Transaction} {s : State} (hs : P s) :
    P (handMiss t s) := by
  unfold handMiss
  try dsimp only
  repeat' split
  all_goals
    repeat' with_reducible
      first | exact hs | exact C | apply C.line | apply postTo_closed C | apply debitOutcome_closed C

theorem missHealth_closed (C : Closed P) {b : Booth} {s : State} (hs : P s) :
    P (missHealth b s) := by
  unfold missHealth
  try dsimp only
  repeat' split
  all_goals
    repeat' with_reducible
      first | exact hs | exact C | apply C.line | apply enterLost_closed C

theorem missProbe_closed (C : Closed P) {b : Booth} {s : State} (hs : P s) :
    P (missProbe b s) := by
  unfold missProbe
  try dsimp only
  repeat' split
  all_goals
    repeat' with_reducible
      first | exact hs | exact C | apply C.line | apply missHealth_closed C

theorem closeMiss_closed (C : Closed P) {g : Segment} {t : Transaction} {s : State} (hs : P s) :
    P (closeMiss g t s) := by
  unfold closeMiss
  try dsimp only
  repeat' split
  all_goals
    repeat' with_reducible
      first | exact hs | exact C | apply bump_closed C | refine C.seg (fun _ => ⟨rfl, rfl⟩) ?_
              | apply handMiss_closed C | apply missHealth_closed C | apply missProbe_closed C

theorem garbledFrame_closed (C : Closed P) {g : Segment} {s : State} (hs : P s) :
    P (garbledFrame g s) := by
  unfold garbledFrame
  try dsimp only
  repeat' split
  all_goals
    repeat' with_reducible
      first | exact hs | exact C | apply bump_closed C | apply closeMiss_closed C

theorem takeBatch_closed (C : Closed P) {b : Booth} {batch : Bool} {evs : List BoothEvent} {s : State} (hs : P s) :
    P (takeBatch b batch evs s) := by
  unfold takeBatch
  try dsimp only
  repeat' split
  all_goals
    repeat' with_reducible
      first | exact hs | exact C | apply C.line | apply boothEvents_closed C

theorem statusIntake_closed (C : Closed P) {b : Booth} {batch : Bool} {evs : List BoothEvent} {s : State} (hs : P s) :
    P (statusIntake b batch evs s) := by
  unfold statusIntake
  try dsimp only
  repeat' split
  all_goals
    repeat' with_reducible
      first | exact hs | exact C | apply C.line | apply cardOutEvent_closed C | apply boothEvents_closed C

theorem probeReturn_closed (C : Closed P) {b : Booth} {s : State} (hs : P s) :
    P (probeReturn b s) := by
  unfold probeReturn
  try dsimp only
  repeat' split
  all_goals
    repeat' with_reducible
      first | exact hs | exact C | apply C.line | apply postSignal_closed C

theorem clearCardAction_closed (C : Closed P) {b : Booth} {s : State} (hs : P s) :
    P (clearCardAction b s) := by
  unfold clearCardAction
  try dsimp only
  all_goals
    repeat' with_reducible
      first | exact hs | exact C | apply C.line

theorem clearServed_closed (C : Closed P) {t : Transaction} {s : State} (hs : P s) :
    P (clearServed t s) := by
  unfold clearServed
  cases t.request <;> dsimp only
  all_goals first | exact hs | exact C.line hs

theorem handGood_closed (C : Closed P) {t : Transaction} {reply : BoothReply} {s : State} (hs : P s) :
    P (handGood t reply s) := by
  have h1 := clearServed_closed C (t := t) hs
  unfold handGood
  cases reply with
  | events more batch status evs =>
    dsimp only
    cases t.request with
    | poll bit =>
      dsimp only; split
      · exact probeReturn_closed C h1
      · exact takeBatch_closed C h1
    | _ => exact statusIntake_closed C h1
  | fail reason count =>
    cases reason with
    | readerFault => exact readerFaultEvent_closed C h1
    | _ =>
      dsimp only
      cases t.request <;> dsimp only <;>
        first | exact h1 | exact debitOutcome_closed C h1 | exact ejectOutcome_closed C h1
              | exact retainOutcome_closed C h1
  | _ =>
    dsimp only
    cases t.request <;> dsimp only <;>
      first | exact h1 | exact debitOutcome_closed C h1 | exact ejectOutcome_closed C h1
            | exact retainOutcome_closed C h1

theorem goodReply_closed (C : Closed P) {g : Segment} {t : Transaction} {reply : BoothReply} {s : State} (hs : P s) :
    P (goodReply g t reply s) := by
  unfold goodReply
  try dsimp only
  repeat' split
  all_goals
    repeat' with_reducible
      first | exact hs | exact C | apply C.line | refine C.seg (fun _ => ⟨rfl, rfl⟩) ?_
              | apply handGood_closed C

theorem receiveReply_closed (C : Closed P) {g : Segment} {drop tag : Byte} {reply : BoothReply} {s : State} (hs : P s) :
    P (receiveReply g drop tag reply s) := by
  unfold receiveReply
  try dsimp only
  repeat' split
  all_goals
    repeat' with_reducible
      first | exact hs | exact C | apply bump_closed C | apply garbledFrame_closed C
              | apply goodReply_closed C

theorem windowExpiry_closed (C : Closed P) {g : Segment} {s : State} (hs : P s) :
    P (windowExpiry g s) := by
  unfold windowExpiry
  try dsimp only
  repeat' split
  all_goals
    repeat' with_reducible
      first | exact hs | exact C | apply C.reached | apply closeMiss_closed C

theorem windowHoldExpiry_closed (C : Closed P) {g : Segment} {s : State} (hs : P s) :
    P (windowHoldExpiry g s) := by
  unfold windowHoldExpiry
  try dsimp only
  repeat' split
  all_goals
    repeat' with_reducible
      first | exact hs | exact C | apply C.reached | refine C.seg (fun _ => ⟨rfl, rfl⟩) ?_

theorem probeExpiry_closed (C : Closed P) {b : Booth} {s : State} (hs : P s) :
    P (probeExpiry b s) := by
  unfold probeExpiry
  try dsimp only
  repeat' split
  all_goals
    repeat' with_reducible
      first | exact hs | exact C | apply C.line | apply C.reached

theorem digitWaitExpires_closed (C : Closed P) {b : Booth} {s : State} (hs : P s) :
    P (digitWaitExpires b s) := by
  unfold digitWaitExpires
  try dsimp only
  repeat' split
  all_goals
    repeat' with_reducible
      first | exact hs | exact C | apply C.ctx | apply C.reached | apply endBeforeAnswer_closed C

theorem cardWaitExpires_closed (C : Closed P) {b : Booth} {s : State} (hs : P s) :
    P (cardWaitExpires b s) := by
  unfold cardWaitExpires
  try dsimp only
  repeat' split
  all_goals
    repeat' with_reducible
      first | exact hs | exact C | apply C.ctx | apply C.reached | apply endBeforeAnswer_closed C

theorem swapWindowExpires_closed (C : Closed P) {b : Booth} {s : State} (hs : P s) :
    P (swapWindowExpires b s) := by
  unfold swapWindowExpires
  try dsimp only
  repeat' split
  all_goals
    repeat' with_reducible
      first | exact hs | exact C | apply C.ctx | apply C.reached | apply enterEnding_closed C

theorem tickEvent_closed (C : Closed P) {b : Booth} {s : State} (hs : P s) :
    P (tickEvent b s) := by
  unfold tickEvent
  try dsimp only
  repeat' split
  all_goals
    repeat' with_reducible
      first | exact hs | exact C | apply C.reached | apply takeTick_closed C

theorem clockAdvance_closed (C : Closed P) {s : State} (hs : P s) :
    P (clockAdvance s) := by
  unfold clockAdvance; dsimp only; split
  · split
    · exact evaluateAll_closed C (C.clock (C.reached hs))
    · exact C.clock (C.reached hs)
  · exact hs

theorem minuteTurn_closed (C : Closed P) {s : State} (hs : P s) :
    P (minuteTurn s) := by
  unfold minuteTurn
  try dsimp only
  repeat' split
  all_goals
    repeat' with_reducible
      first | exact hs | exact C | apply clockAdvance_closed C

theorem validFrame_closed (C : Closed P) {s : State} (hs : P s) :
    P (validFrame s) := by
  unfold validFrame
  try dsimp only
  all_goals
    repeat' with_reducible
      first | exact hs | exact C | apply C.trunk | apply bump_closed C

theorem discardFrame_closed (C : Closed P) {reason : TrunkDiscard} {s : State} (hs : P s) :
    P (discardFrame reason s) := by
  unfold discardFrame
  try dsimp only
  all_goals
    repeat' with_reducible
      first | exact hs | exact C | apply bump_closed C

theorem answerFrame_closed (C : Closed P) {ch : Channel} {s : State} (hs : P s) :
    P (answerFrame ch s) := by
  unfold answerFrame
  try dsimp only
  repeat' split
  all_goals
    repeat' with_reducible
      first | exact hs | exact C | apply bump_closed C | apply oweHangup_closed C
              | apply answerEvent_closed C | apply validFrame_closed C

theorem clearFrame_closed (C : Closed P) {ch : Channel} {s : State} (hs : P s) :
    P (clearFrame ch s) := by
  unfold clearFrame
  try dsimp only
  repeat' split
  all_goals
    repeat' with_reducible
      first | exact hs | exact C | apply bump_closed C | apply clearEvent_closed C
              | apply validFrame_closed C

theorem commandFrame_closed (C : Closed P) {c : Cmd} {s : State} (hs : P s) :
    P (commandFrame c s) := by
  unfold commandFrame
  try dsimp only
  repeat' split
  all_goals
    repeat' with_reducible
      first | exact hs | exact C | apply bump_closed C | refine C.mgmt (fun _ => ⟨rfl, rfl, rfl⟩) ?_
              | apply validFrame_closed C

theorem dropLink_closed (C : Closed P) {s : State} (hs : P s) :
    P (dropLink s) := by
  unfold dropLink
  try dsimp only
  all_goals
    repeat' with_reducible
      first | exact hs | exact C | apply C.trunk | apply C.counter | apply bump_closed C
              | apply offerSlots_closed C

theorem endUnanswered_closed (C : Closed P) {s : State} (hs : P s) :
    P (endUnanswered s) := by
  unfold endUnanswered
  exact foldl_closed (fun t b ht => by split; exacts [endBeforeAnswer_closed C ht, ht]) _ hs

theorem silenceExpiry_closed (C : Closed P) {s : State} (hs : P s) :
    P (silenceExpiry s) := by
  unfold silenceExpiry
  try dsimp only
  repeat' split
  all_goals
    repeat' with_reducible
      first | exact hs | exact C | apply C.reached | apply dropLink_closed C
              | apply endUnanswered_closed C

theorem syncExpiry_closed (C : Closed P) {s : State} (hs : P s) :
    P (syncExpiry s) := by
  unfold syncExpiry
  try dsimp only
  all_goals
    repeat' with_reducible
      first | exact hs | exact C | apply C.trunk | apply C.reached

theorem transmit_closed (C : Closed P) {f : OutFrame} {s : State} (hs : P s) :
    P (transmit f s) := by
  unfold transmit
  try dsimp only
  all_goals
    repeat' with_reducible
      first | exact hs | exact C | apply C.trunk

theorem sendSync_closed (C : Closed P) {s : State} (hs : P s) :
    P (sendSync s) := by
  unfold sendSync
  try dsimp only
  all_goals
    repeat' with_reducible
      first | exact hs | exact C | apply C.trunk | apply bump_closed C | apply transmit_closed C

theorem sendHangup_closed (C : Closed P) {ch : Channel} {s : State} (hs : P s) :
    P (sendHangup ch s) := by
  unfold sendHangup
  try dsimp only
  all_goals
    repeat' with_reducible
      first | exact hs | exact C | apply C.trunk | apply bump_closed C | apply transmit_closed C

theorem sendSig_closed (C : Closed P) {f : SigFrame} {s : State} (hs : P s) :
    P (sendSig f s) := by
  unfold sendSig
  try dsimp only
  repeat' split
  all_goals
    repeat' with_reducible
      first | exact hs | exact C | apply C.trunk | apply bump_closed C | apply offerSlots_closed C
              | apply transmit_closed C

theorem sendReply_closed (C : Closed P) {r : Reply} {s : State} (hs : P s) :
    P (sendReply r s) := by
  unfold sendReply
  try dsimp only
  all_goals
    repeat' with_reducible
      first | exact hs | exact C | apply C.trunk | apply bump_closed C | apply transmit_closed C

theorem sendNotice_closed (C : Closed P) {s : State} (hs : P s) :
    P (sendNotice s) := by
  unfold sendNotice
  try dsimp only
  repeat' split
  all_goals
    repeat' with_reducible
      first | exact hs | exact C | apply C.notices | apply bump_closed C | apply transmit_closed C

theorem chooseFrame_closed (C : Closed P) {s : State} (hs : P s) :
    P (chooseFrame s) := by
  unfold chooseFrame
  try dsimp only
  repeat' split
  all_goals
    repeat' with_reducible
      first | exact hs | exact C | apply sendSync_closed C | apply sendHangup_closed C
              | apply sendSig_closed C | apply sendReply_closed C | apply sendNotice_closed C

theorem transmitStart_closed (C : Closed P) {s : State} (hs : P s) :
    P (transmitStart s) := by
  unfold transmitStart
  try dsimp only
  repeat' split
  all_goals
    repeat' with_reducible
      first | exact hs | exact C | apply chooseFrame_closed C

theorem transmitComplete_closed (C : Closed P) {s : State} (hs : P s) :
    P (transmitComplete s) := by
  unfold transmitComplete
  try dsimp only
  repeat' split
  all_goals
    repeat' with_reducible
      first | exact hs | exact C | apply C.trunk | apply chooseFrame_closed C

theorem noticeHoldExpiry_closed (C : Closed P) {s : State} (hs : P s) :
    P (noticeHoldExpiry s) := by
  unfold noticeHoldExpiry
  try dsimp only
  repeat' split
  all_goals
    repeat' with_reducible
      first | exact hs | exact C | apply C.notices | apply C.reached

theorem offerReply_closed (C : Closed P) {r : Reply} {s : State} (hs : P s) :
    P (offerReply r s) := by
  unfold offerReply
  try dsimp only
  repeat' split
  all_goals
    repeat' with_reducible
      first | exact hs | exact C | apply C.trunk | apply bump_closed C

end Sys2Proof.Machine
end

