-- ==== Sys2Proof/Laws/Receive.lean ====
section
/-!
SUPPORT. The receivers in one equation each: the row of the first frame, then what the receiver makes of the bytes
behind it, whatever bound `receiveFrames` was given.
-/

namespace Sys2Proof

theorem afterFlag_length {bytes rest : List Byte} (h : afterFlag bytes = some rest) : rest.length < bytes.length := by
  induction bytes with
  | nil => cases h
  | cons b bs ih =>
    simp only [afterFlag] at h
    split at h
    · injection h with h; subst h; simp
    · have := ih h; simp only [List.length_cons]; omega

theorem takePayload_length {len : Nat} {bytes payload behind : List Byte} {c1 c0 : Byte}
    (h : takePayload len bytes = some (payload, c1, c0, behind)) : behind.length ≤ bytes.length := by
  unfold takePayload at h
  split at h
  · rename_i x1 x0 xs hx
    simp only [Option.some.injEq, Prod.mk.injEq] at h
    obtain ⟨_, _, _, rfl⟩ := h
    have := congrArg List.length hx
    simp only [List.length_drop, List.length_cons] at this
    omega
  · cases h

theorem takeTrunk_length {bytes behind : List Byte} {row : Instr} (h : takeTrunk bytes = some (row, behind)) :
    behind.length ≤ bytes.length := by
  unfold takeTrunk at h
  split at h
  · split at h
    · rename_i ht
      have := takePayload_length ht
      split at h <;>
        (simp only [Option.some.injEq, Prod.mk.injEq] at h
         obtain ⟨_, rfl⟩ := h
         simp only [List.length_cons]; omega)
    · cases h
  · cases h

theorem takeBooth_length {g : Segment} {bytes behind : List Byte} {row : Instr}
    (h : takeBooth g bytes = some (row, behind)) : behind.length ≤ bytes.length := by
  unfold takeBooth at h
  split at h
  · split at h
    · rename_i ht
      have := takePayload_length ht
      split at h
      · split at h <;>
          (simp only [Option.some.injEq, Prod.mk.injEq] at h
           obtain ⟨_, rfl⟩ := h
           simp only [List.length_cons]; omega)
      · simp only [Option.some.injEq, Prod.mk.injEq] at h
        obtain ⟨_, rfl⟩ := h
        simp only [List.length_cons]; omega
    · cases h
  · cases h

/-- Each frame leaves fewer bytes than it found. -/
theorem nextFrame_length {take : List Byte → Option (Instr × List Byte)}
    (ht : ∀ {bytes row behind}, take bytes = some (row, behind) → behind.length ≤ bytes.length)
    {bytes behind : List Byte} {row : Instr} (h : (afterFlag bytes).bind take = some (row, behind)) :
    behind.length < bytes.length := by
  obtain ⟨rest, hr, h⟩ := Option.bind_eq_some_iff.mp h
  exact Nat.lt_of_le_of_lt (ht h) (afterFlag_length hr)

/-- Any bound at least the number of bytes gives the same rows. -/
theorem receiveFrames_bound {take : List Byte → Option (Instr × List Byte)}
    (ht : ∀ {bytes row behind}, take bytes = some (row, behind) → behind.length ≤ bytes.length) :
    ∀ (n m : Nat) (bytes : List Byte), bytes.length ≤ n → bytes.length ≤ m →
      receiveFrames take n bytes = receiveFrames take m bytes
  | 0, 0, _, _, _ => rfl
  | 0, m + 1, bytes, hn, _ => by
    obtain rfl := List.length_eq_zero_iff.mp (Nat.le_zero.mp hn)
    rfl
  | n + 1, 0, bytes, _, hm => by
    obtain rfl := List.length_eq_zero_iff.mp (Nat.le_zero.mp hm)
    rfl
  | n + 1, m + 1, bytes, hn, hm => by
    simp only [receiveFrames]
    split
    · rename_i row behind h
      have := nextFrame_length ht h
      rw [receiveFrames_bound ht n m behind (by omega) (by omega)]
    · rfl

/-- A receiver takes the next frame and goes on behind it. -/
theorem receiveFrames_next {take : List Byte → Option (Instr × List Byte)}
    (ht : ∀ {bytes row behind}, take bytes = some (row, behind) → behind.length ≤ bytes.length) (bytes : List Byte) :
    receiveFrames take bytes.length bytes =
      match (afterFlag bytes).bind take with
      | some (row, behind) => row :: receiveFrames take behind.length behind
      | none => [] := by
  cases bytes with
  | nil => rfl
  | cons b bs =>
    change (match (afterFlag (b :: bs)).bind take with
      | some (row, behind) => row :: receiveFrames take bs.length behind
      | none => []) = _
    cases h : (afterFlag (b :: bs)).bind take with
    | none => rfl
    | some x =>
      have hx := nextFrame_length ht h
      simp only [List.length_cons] at hx
      exact congrArg (x.1 :: ·) (receiveFrames_bound ht bs.length x.2.length x.2 (by omega) (Nat.le_refl _))

theorem receiveTrunk_next (bytes : List Byte) :
    receiveTrunk bytes =
      match (afterFlag bytes).bind takeTrunk with
      | some (row, behind) => row :: receiveTrunk behind
      | none => [] := receiveFrames_next takeTrunk_length bytes

theorem receiveBooth_next (g : Segment) (bytes : List Byte) :
    receiveBooth g bytes =
      match (afterFlag bytes).bind (takeBooth g) with
      | some (row, behind) => row :: receiveBooth g behind
      | none => [] := receiveFrames_next takeBooth_length bytes

end Sys2Proof
end

