-- ==== Sys2Proof/Laws/Rows.lean ====
section
/-!
SUPPORT. The command intake said once (what a take answers when the command stands in front, is permitted and the
reply queue has room), and the rows of the table that keep every `Closed` property.
-/

namespace Sys2Proof.Machine

variable {P : State → Prop}

/-! ## The intake -/

/-- The state with the front command taken from the queue. -/
theorem takeFront_next {c : Cmd} {rest : List Cmd} {carry : State → Carried} {s : State}
    (hq : s.mgmt.cmdQueue = c :: rest) (hr : s.trunk.replyQueue.length < 16) :
    takeFront c carry s = answerCommand c (carry { s with mgmt := { s.mgmt with cmdQueue := rest } }) := by
  unfold takeFront
  rw [if_pos (by simp [hq])]
  simp only [modMgmt, hq, List.tail_cons]
  rw [if_neg (by simpa [Config.replyQueueMax] using hr)]

/-- A take that finds another command, or none, in front changes nothing. -/
theorem takeFront_other {c : Cmd} {carry : State → Carried} {s : State} (hq : s.mgmt.cmdQueue.head? ≠ some c) :
    takeFront c carry s = s := by
  unfold takeFront
  rw [if_neg hq]

/-- A permitted command of the right length is its owner's to carry out. -/
theorem checked_owner {g : Group} {o : Byte} {owner : State → Carried} {s : State}
    (hp : s.permits g o = true) : checked g o true owner s = owner s := by
  unfold checked
  rw [hp, if_neg (by simp), if_neg (by simp)]

/-- While the link is UP a REPLY joins the reply queue. -/
theorem offerReply_up {r : Reply} {s : State} (h : s.trunk.linkUp = true) :
    offerReply r s = { s with trunk := { s.trunk with replyQueue := s.trunk.replyQueue ++ [r] } } := by
  unfold offerReply
  rw [if_pos h]
  rfl

theorem answerCommand_closed (C : Closed P) {c : Cmd} {r : Carried} (hs : P r.state) : P (answerCommand c r) := by
  unfold answerCommand
  dsimp only
  apply offerReply_closed C
  split <;> exact bump_closed C hs

theorem takeFront_closed (C : Closed P) {c : Cmd} {carry : State → Carried}
    (ho : ∀ s, P s → P (carry s).state) {s : State} (hs : P s) : P (takeFront c carry s) := by
  unfold takeFront
  have h1 : P (modMgmt (fun m => { m with cmdQueue := m.cmdQueue.tail }) s) :=
    C.mgmt (fun _ => ⟨rfl, rfl, rfl⟩) hs
  split
  · dsimp only
    split
    · exact bump_closed C h1
    · exact answerCommand_closed C (ho _ h1)
  · exact hs

theorem checked_closed (C : Closed P) {g : Group} {o : Byte} {good : Bool} {owner : State → Carried}
    (ho : ∀ s, P s → P (owner s).state) {s : State} (hs : P s) : P (checked g o good owner s).state := by
  unfold checked
  split
  · exact bump_closed C hs
  · split
    · exact bump_closed C hs
    · exact ho _ hs

theorem takeCommand_closed (C : Closed P) {g : Group} {c : Cmd} {good : Bool} {owner : State → Carried}
    (ho : ∀ s, P s → P (owner s).state) {s : State} (hs : P s) : P (takeCommand g c good owner s) :=
  takeFront_closed C (fun _ h => checked_closed C ho h) hs

theorem carriedOut_closed (_ : Closed P) {d : ReplyData} {s : State} (hs : P s) : P (carriedOut d s).state := hs

theorem inRange_closed (_ : Closed P) {α : Type} {x : Option α} {f : α → State → Carried}
    (ho : ∀ a s, P s → P (f a s).state) {s : State} (hs : P s) : P (inRange x f s).state := by
  unfold inRange
  split
  · exact ho _ _ hs
  · exact hs

theorem controlRow_closed (C : Closed P) {w : Option BoothAction} {c : Cmd} {owner : State → Carried}
    (ho : ∀ s, P s → P (owner s).state) {s : State} (hs : P s) : P (controlRow w c owner s) := by
  unfold controlRow
  split
  · exact takeCommand_closed C ho hs
  · exact hs

theorem onEnabled_closed (C : Closed P) {args : List Byte} {f : Booth → State → Carried}
    (ho : ∀ b s, P s → P (f b s).state) {s : State} (hs : P s) : P (onEnabled args f s).state := by
  unfold onEnabled
  refine inRange_closed C (fun b s hs => ?_) hs
  split
  · exact ho _ _ hs
  · exact hs

/-! ## Resets -/

theorem forBooths_closed {p : Booth → Bool} {f : Booth → State → State} (h : ∀ b s, P s → P (f b s)) {s : State}
    (hs : P s) : P (forBooths p f s) := by
  unfold forBooths
  exact foldl_closed (fun t b ht => by split; exacts [h _ _ ht, ht]) _ hs

theorem oweAll_closed (C : Closed P) {chs : List Channel} {s : State} (hs : P s) : P (oweAll chs s) := by
  unfold oweAll
  exact foldl_closed (fun t ch ht => oweHangup_closed C ht) _ hs

theorem resetBooths_closed (C : Closed P) {p : Booth → Bool} {s : State} (hs : P s) : P (resetBooths p s) := by
  unfold resetBooths
  exact forBooths_closed (fun b t ht => C.line (C.slot ht)) hs

theorem segmentResetPart_closed (C : Closed P) {g : Segment} {s : State} (hs : P s) :
    P (segmentResetPart g s) := by
  unfold segmentResetPart withdrawSegment
  dsimp only
  refine forBooths_closed (fun b t ht => postSignal_closed C ht) (oweAll_closed C (offerSlots_closed C
    (C.trunk (C.seg (fun _ => ⟨rfl, rfl⟩) (resetBooths_closed C (checkDrain_closed C
      (forBooths_closed (fun b t ht => endForReset_closed C ht) hs)))))))

/-- RESTART keeps what its release of the fault record keeps. -/
theorem restartPart_closed (C : Closed P) (hm : ∀ s, P s → P (restartManagement s)) {s : State} (hs : P s) :
    P (restartPart s) := by
  unfold restartPart restartTrunk
  dsimp only
  refine signalBooths_closed C (oweAll_closed C (C.trunk (C.seg (fun _ => ⟨rfl, rfl⟩)
    (C.seg (fun _ => ⟨rfl, rfl⟩) (resetBooths_closed C (C.cache (forBooths_closed
      (fun b t ht => endForReset_closed C ht) (hm _ hs))))))))

/-! ## The owners of commands that write no setting -/

/-- An owner that reads and changes nothing. -/
theorem read_closed (C : Closed P) {α : Type} {x : Option α} {f : α → State → ReplyData} {s : State} (hs : P s) :
    P (inRange x (fun a s => carriedOut (f a s) s) s).state := inRange_closed C (fun _ _ h => h) hs

theorem cacheFenceOwner_closed (C : Closed P) {args : List Byte} {s : State} (hs : P s) :
    P (cacheFenceOwner args s).state := by
  unfold cacheFenceOwner
  exact inRange_closed C (fun a s h => carriedOut_closed C (bump_closed C (C.cache h))) hs

theorem takeOutBooth_closed (C : Closed P) {b : Booth} {s : State} (hs : P s) : P (takeOutBooth b s).state := by
  unfold takeOutBooth
  dsimp only
  repeat' split
  exacts [hs, carriedOut_closed C (enterTaken_closed C hs), carriedOut_closed C (C.line hs)]

theorem bringBack_closed (C : Closed P) {b : Booth} {s : State} (hs : P s) : P (bringBack b s).state := by
  unfold bringBack
  dsimp only
  repeat' split
  exacts [carriedOut_closed C (C.line hs), carriedOut_closed C (postSignal_closed C (C.line hs)), hs]

theorem forceClearBooth_closed (C : Closed P) {b : Booth} {s : State} (hs : P s) :
    P (forceClearBooth b s).state := by
  unfold forceClearBooth
  split
  exacts [hs, carriedOut_closed C (forceClearEvent_closed C hs)]

theorem segmentResetOwner_closed (C : Closed P) {args : List Byte} {s : State} (hs : P s) :
    P (segmentResetOwner args s).state := by
  unfold segmentResetOwner
  refine inRange_closed C (fun g s h => ?_) hs
  split
  exacts [h, carriedOut_closed C (segmentResetPart_closed C h)]

theorem ticketFetchOwner_closed (C : Closed P) {args : List Byte} {s : State} (hs : P s) :
    P (ticketFetchOwner args s).state := by
  unfold ticketFetchOwner
  exact inRange_closed C (fun a s h => carriedOut_closed C (bump_closed C h)) hs

theorem ticketReleaseOwner_closed (C : Closed P) {args : List Byte} {s : State} (hs : P s) :
    P (ticketReleaseOwner args s).state := by
  unfold ticketReleaseOwner
  refine inRange_closed C (fun a s h => ?_) hs
  dsimp only
  generalize s.ring.releaseCount a = k
  have h1 : P (bumpBy Ctr.ticketsReleased k (bump Ctr.releaseCommands (modRing (fun r => r.release k) s))) :=
    C.counter (bump_closed C (C.ring (fun r => by rw [Ring.release]) h))
  refine carriedOut_closed C ?_
  split
  exacts [bump_closed C h1, h1]

theorem serviceStartOwner_closed (C : Closed P) {s : State} (hs : P s) : P (serviceStartOwner s).state := by
  unfold serviceStartOwner setService
  repeat' split
  · exact hs
  · exact carriedOut_closed C (C.mgmt (fun _ => ⟨rfl, rfl, rfl⟩) hs)
  · exact carriedOut_closed C (signalBooths_closed C (C.mgmt (fun _ => ⟨rfl, rfl, rfl⟩) hs))
  · exact hs

theorem serviceStopOwner_closed (C : Closed P) {s : State} (hs : P s) : P (serviceStopOwner s).state := by
  unfold serviceStopOwner setService
  split
  · exact carriedOut_closed C (checkDrain_closed C (C.mgmt (fun _ => ⟨rfl, rfl, rfl⟩) hs))
  · exact hs

theorem clockSetOwner_closed (C : Closed P) {args : List Byte} {s : State} (hs : P s) :
    P (clockSetOwner args s).state := by
  unfold clockSetOwner setClock
  exact inRange_closed C (fun a s h => carriedOut_closed C (evaluateAll_closed C (bump_closed C (C.clock h)))) hs

theorem noticeSetupOwner_closed (C : Closed P) {args : List Byte} {s : State} (hs : P s) :
    P (noticeSetupOwner args s).state := by
  unfold noticeSetupOwner
  exact inRange_closed C (fun a s h => carriedOut_closed C (bump_closed C (C.notices h))) hs

theorem noticeClearOwner_closed (C : Closed P) {args : List Byte} {s : State} (hs : P s) :
    P (noticeClearOwner args s).state := by
  unfold noticeClearOwner
  exact inRange_closed C (fun a s h => carriedOut_closed C (bump_closed C (C.notices h))) hs

theorem counterReadOwner_closed (C : Closed P) {args : List Byte} {s : State} (hs : P s) :
    P (counterReadOwner args s).state := by
  unfold counterReadOwner
  refine inRange_closed C (fun a s h => ?_) hs
  refine carriedOut_closed C ?_
  split
  exacts [C.zero h, h]

/-! ## Every row that writes no setting and releases no fault -/

theorem exec_closed (C : Closed P) {i : Instr} {s t : State} (hw : i.writesSettings = false)
    (hf : i.releasesFault = false) (hs : P s) (he : exec i s = .next t) : P t := by
  cases i <;> simp only [exec] at he <;> 
    first | (simp [Instr.writesSettings] at hw; done) | (simp [Instr.releasesFault] at hf; done) | skip
  case sync =>
    injection he with he; subst he; exact validFrame_closed C hs
  case answer ch =>
    unfold execAnswer at he; split at he <;> injection he with he <;> subst he
    exacts [answerFrame_closed C hs, discardFrame_closed C hs]
  case clear ch =>
    unfold execClear at he; split at he <;> injection he with he <;> subst he
    exacts [clearFrame_closed C hs, discardFrame_closed C hs]
  case command =>
    unfold execCommand at he; split at he <;> injection he with he <;> subst he
    exacts [commandFrame_closed C hs, discardFrame_closed C hs]
  case trunkFrameDiscarded => injection he with he; subst he; exact discardFrame_closed C hs
  case silenceTimerExpiry => injection he with he; subst he; exact silenceExpiry_closed C hs
  case syncTimerExpiry => injection he with he; subst he; exact syncExpiry_closed C hs
  case frameTransmitStart => injection he with he; subst he; exact transmitStart_closed C hs
  case frameTransmitComplete => injection he with he; subst he; exact transmitComplete_closed C hs
  case holdTimerExpiry => injection he with he; subst he; exact noticeHoldExpiry_closed C hs
  case arbiterGrant => injection he with he; subst he; exact arbiterTurn_closed C hs
  case events => injection he with he; subst he; exact receiveReply_closed C hs
  case done => injection he with he; subst he; exact receiveReply_closed C hs
  case count => injection he with he; subst he; exact receiveReply_closed C hs
  case ack => injection he with he; subst he; exact receiveReply_closed C hs
  case fail => injection he with he; subst he; exact receiveReply_closed C hs
  case staleBoothFrame => injection he with he; subst he; exact receiveReply_closed C hs
  case boothFrameGarbled => injection he with he; subst he; exact garbledFrame_closed C hs
  case replyWindowExpiry => injection he with he; subst he; exact windowExpiry_closed C hs
  case abandonedWindowHoldExpiry => injection he with he; subst he; exact windowHoldExpiry_closed C hs
  case probeTimerExpiry => injection he with he; subst he; exact probeExpiry_closed C hs
  case digitWaitExpiry => injection he with he; subst he; exact digitWaitExpires_closed C hs
  case cardWaitExpiry => injection he with he; subst he; exact cardWaitExpires_closed C hs
  case swapWindowExpiry => injection he with he; subst he; exact swapWindowExpires_closed C hs
  case tick => injection he with he; subst he; exact tickEvent_closed C hs
  case timeLimit => injection he with he; subst he; exact timeLimitCheck_closed C hs
  case clockSecondAdvance => injection he with he; subst he; exact clockAdvance_closed C hs
  case minuteBoundary => injection he with he; subst he; exact minuteTurn_closed C hs
  case cacheFence =>
    injection he with he; subst he
    exact takeCommand_closed C (fun _ h => cacheFenceOwner_closed C h) hs
  case segmentReset =>
    injection he with he; subst he
    exact takeCommand_closed C (fun _ h => segmentResetOwner_closed C h) hs
  case ticketFetch =>
    injection he with he; subst he
    exact takeCommand_closed C (fun _ h => ticketFetchOwner_closed C h) hs
  case ticketRelease =>
    injection he with he; subst he
    exact takeCommand_closed C (fun _ h => ticketReleaseOwner_closed C h) hs
  case serviceStart =>
    injection he with he; subst he
    exact takeCommand_closed C (fun _ h => serviceStartOwner_closed C h) hs
  case serviceStop =>
    injection he with he; subst he
    exact takeCommand_closed C (fun _ h => serviceStopOwner_closed C h) hs
  case clockSet =>
    injection he with he; subst he
    exact takeCommand_closed C (fun _ h => clockSetOwner_closed C h) hs
  case noticeSetup =>
    injection he with he; subst he
    exact takeCommand_closed C (fun _ h => noticeSetupOwner_closed C h) hs
  case noticeClear =>
    injection he with he; subst he
    exact takeCommand_closed C (fun _ h => noticeClearOwner_closed C h) hs
  case counterRead =>
    injection he with he; subst he
    exact takeCommand_closed C (fun _ h => counterReadOwner_closed C h) hs
  case takeOut =>
    injection he with he; subst he
    exact controlRow_closed C (fun _ h => onEnabled_closed C (fun _ _ h => takeOutBooth_closed C h) h) hs
  case returnBooth =>
    injection he with he; subst he
    exact controlRow_closed C (fun _ h => onEnabled_closed C (fun _ _ h => bringBack_closed C h) h) hs
  case forceClear =>
    injection he with he; subst he
    exact controlRow_closed C (fun _ h => onEnabled_closed C (fun _ _ h => forceClearBooth_closed C h) h) hs
  case boothControl => injection he with he; subst he; exact controlRow_closed C (fun _ h => h) hs
  case treeRead => injection he with he; subst he; exact takeCommand_closed C (fun _ h => read_closed C h) hs
  case planRead => injection he with he; subst he; exact takeCommand_closed C (fun _ h => read_closed C h) hs
  case classRead => injection he with he; subst he; exact takeCommand_closed C (fun _ h => read_closed C h) hs
  case seriesRead => injection he with he; subst he; exact takeCommand_closed C (fun _ h => read_closed C h) hs
  case stopProbe => injection he with he; subst he; exact takeCommand_closed C (fun _ h => read_closed C h) hs
  case boothRead => injection he with he; subst he; exact takeCommand_closed C (fun _ h => read_closed C h) hs
  case stopStatus => injection he with he; subst he; exact takeCommand_closed C (fun _ h => h) hs
  case statusRead => injection he with he; subst he; exact takeCommand_closed C (fun _ h => h) hs
  case faultRead => injection he with he; subst he; exact takeCommand_closed C (fun _ h => h) hs
  case unknownCommandCode =>
    injection he with he; subst he
    split
    · exact hs
    · exact takeFront_closed C (fun _ h => bump_closed C h) hs

end Sys2Proof.Machine
end

