-- ==== Sys2Proof/Laws/Takes.lean ====
section
/-!
SUPPORT. The take of a command in the words of the statements: what a takeable command answers, done or refused, and
when an argument field is in range.
-/

namespace Sys2Proof.Machine

/-- A command that can be taken is its owner's to carry out, on the state without it. -/
theorem takeCommand_canTake {g : Group} {c : Cmd} {rest : List Cmd} {s : State} {owner : State → Carried}
    (h : CanTake g c rest s) : takeCommand g c true owner s = answerCommand c (owner (popped rest s)) := by
  obtain ⟨front, room, originator, permitted⟩ := h
  unfold takeCommand
  rw [takeFront_next front room]
  congr 1
  apply checked_owner
  simp [State.permits, originator]
  exact permitted

theorem answerCommand_carriedOut (c : Cmd) (d : ReplyData) (s : State) :
    answerCommand c (carriedOut d s) = doneWith c d s := by
  simp [answerCommand, carriedOut, doneWith, replied, offerReply, modTrunk]
  rfl

theorem answerCommand_refusedWith (c : Cmd) {o : CmdOutcome} (ho : o ≠ .done) (s : State) :
    answerCommand c (refusedWith o s) = refusal c o s := by
  simp [answerCommand, refusedWith, refusal, replied, offerReply, modTrunk, ho]
  rfl

theorem inRange_some {α : Type} (a : α) (f : α → State → Carried) (s : State) : inRange (some a) f s = f a s := rfl

theorem inRange_none {α : Type} (f : α → State → Carried) (s : State) :
    inRange (none : Option α) f s = refusedWith .range s := rfl

theorem finOf_of_lt {n v : Nat} (h : v < n) : finOf n v = some ⟨v, h⟩ := by simp [finOf, h]

theorem finOf_of_le {n v : Nat} (h : n ≤ v) : finOf n v = none := by simp [finOf, Nat.not_lt.mpr h]

theorem flagOf_of_le {b : Byte} (h : b.toNat ≤ 1) : flagOf b = some (decide (b = 1#8)) := by
  have hb : b = 0#8 ∨ b = 1#8 := by
    rcases (by omega : b.toNat = 0 ∨ b.toNat = 1) with h | h
    · left; exact BitVec.eq_of_toNat_eq (by simpa using h)
    · right; exact BitVec.eq_of_toNat_eq (by simpa using h)
  rcases hb with rfl | rfl <;> decide

theorem flagOf_of_ge {b : Byte} (h : 2 ≤ b.toNat) : flagOf b = none := by
  unfold flagOf
  rw [if_neg, if_neg] <;> rintro rfl <;> simp at h

end Sys2Proof.Machine
end

