-- ==== Sys2Proof/Tests/Slice0.lean ====
section
/-!
SUPPORT. Tests: an ill-formed term for each check of `Instr.wf`, the manual's worked figures, the two receivers on
bytes written out from R186 and R189, small steps of exec, and for every obligation with hypotheses a state and
operands that meet them.
-/

namespace Sys2Proof.Tests

open Sys2Proof Sys2Proof.Machine

/-! ## Well-formedness -/

theorem test_wf_answer_channel_64 : (Instr.answer 64#8).wf = false := by decide
theorem test_wf_clear_channel_255 : (Instr.clear 255#8).wf = false := by decide
theorem test_wf_command_21_arguments : (Instr.command 0 0 0x10 (List.replicate 21 0#8)).wf = false := by decide
theorem test_wf_write_21_arguments : (Instr.treeWrite 0 0 (List.replicate 21 0#8)).wf = false := by decide
theorem test_wf_drop_0 : (Instr.ack .west 0 0).wf = false := by decide
theorem test_wf_drop_32 : (Instr.done .west 32 0 0).wf = false := by decide
theorem test_wf_tag_8 : (Instr.fail .east 1 8 .noCard 0).wf = false := by decide
theorem test_wf_five_events : (Instr.events .west 1 0 false false false (List.replicate 5 .hookOn)).wf = false := by
  decide
theorem test_wf_card_month_16 :
    (Instr.staleBoothFrame .west 1 0
      (.events false false false
        [.cardIn { series := 0, serial := 0, face := 1, cancelled := 0, expiryYear := 0, expiryMonth := 16,
                   check := 0 }])).wf = false := by decide
theorem test_wf_takeOut_action : (Instr.takeOut 0 0 [0, 1]).wf = false := by decide
theorem test_wf_return_action : (Instr.returnBooth 0 0 [0, 2]).wf = false := by decide
theorem test_wf_forceClear_length : (Instr.forceClear 0 0 [0]).wf = false := by decide
theorem test_wf_boothControl_known_action : (Instr.boothControl 0 0 [0, 0]).wf = false := by decide
theorem test_wf_unknown_code_known : (Instr.unknownCommandCode 0 0 0x10 []).wf = false := by decide
theorem test_wf_good_command : (Instr.command 0 0 0x10 (List.replicate 20 0#8)).wf = true := by decide

/-! ## Figures of the manual -/

/-- R185: the check value of the nine ASCII digits. -/
theorem test_crc_check_value :
    crc16 [0x31, 0x32, 0x33, 0x34, 0x35, 0x36, 0x37, 0x38, 0x39] = 0x29B1#16 := by decide +kernel
/-- R67's table. -/
theorem test_tick_charge_table :
    [tickCharge 125 16384, tickCharge 125 9830, tickCharge 125 8192, tickCharge 125 4096, tickCharge 1 8192,
      tickCharge 1 8191, tickCharge 65535 65535, tickCharge 7 0] = [125, 75, 63, 31, 1, 0, 262136, 0] := by decide
/-- R76's table, V = 50,000. -/
theorem test_units_table :
    [unitsFor (-125) 50000 28, unitsFor (-50000) 50000 28, unitsFor (-50001) 50000 28, unitsFor (-262136) 50000 3,
      unitsFor (-8388608) 50000 28] = [1, 1, 2, 3, 8] := by decide
/-- R94's example. -/
theorem test_stop_bucket : bucketOf 310#16 1000123#32 = 309 := by decide
/-- R128's table, in units of 0.25 ms. -/
theorem test_window_table :
    [windowLength 0, windowLength 3, windowLength 4, windowLength 6, windowLength 11, windowLength 15] =
      [7, 7, 15, 63, 2047, 32767] := by decide
/-- R159's example. -/
theorem test_forward_distance : forwardDistance 4294967290 3 = 8 := by decide
/-- R63: the calendar's last second. -/
theorem test_clock_wraps :
    (Clock.advance { year := 2099, month := 12, day := 31, weekday := 3, hour := 23, minute := 59, second := 59,
                     valid := true }).date = { year := 2000, month := 1, day := 1 } := by decide

/-! ## The receivers, on bytes written out from R186 and R189 -/

def syncBytes : List Byte := [0x7E, 0x01, 0x00, 0x00] ++ crcBytes [0x01, 0x00, 0x00]
def ackBytes : List Byte := [0x7E, 0x01, 0x84, 0x07, 0x00] ++ crcBytes [0x01, 0x84, 0x07, 0x00]

/-- A SYNC frame: flag, kind 0x01, channel 0, length 0, CRC over the three. -/
theorem test_receive_sync : receiveTrunk syncBytes = [.sync] := by decide +kernel
/-- An ANSWER on channel 5 behind a stray byte. -/
theorem test_receive_answer :
    receiveTrunk ([0x00, 0x7E, 0x02, 0x05, 0x00] ++ crcBytes [0x02, 0x05, 0x00]) = [.answer 5#8] := by
  decide +kernel
/-- PLAN READ of plan 7 from originator 1 with tag 9. -/
theorem test_receive_command :
    receiveTrunk ([0x7E, 0x04, 0x00, 0x04, 0x01, 0x09, 0x71, 0x07] ++ crcBytes [0x04, 0x00, 0x04, 0x01, 0x09, 0x71, 0x07])
      = [.command 1 9 0x71 [7]] := by decide +kernel
/-- A frame with a bad CRC, then a good one: the receiver goes on. -/
theorem test_receive_bad_crc :
    receiveTrunk ([0x7E, 0x01, 0x00, 0x00, 0x00, 0x00] ++ syncBytes) = [.trunkFrameDiscarded .badCrc, .sync] := by
  decide +kernel
theorem test_receive_unknown_kind :
    receiveTrunk ([0x7E, 0x11, 0x00, 0x00] ++ crcBytes [0x11, 0x00, 0x00]) =
      [.trunkFrameDiscarded .unknownKind] := by decide +kernel
/-- A SYNC that lost its two CRC bytes borrows two of the frame behind it, whose rest is skipped; the frame after that
is taken. -/
theorem test_receive_borrowed_bytes :
    receiveTrunk (syncBytes.take 4 ++ syncBytes ++ syncBytes) = [.trunkFrameDiscarded .badCrc, .sync] := by
  decide +kernel
/-- A frame that has not all arrived is no row yet. -/
theorem test_receive_unfinished : receiveTrunk (syncBytes ++ syncBytes.take 5) = [.sync] := by decide +kernel
/-- EVENTS from drop 3 under tag 2: batch bit set, HOOK OFF then DIGIT 5. -/
theorem test_receive_events :
    receiveBooth .east
      ([0x7E, 0x03, 0x81, 0x02, 0x05, 0x02, 0x02, 0x01, 0x03, 0x05]
        ++ crcBytes [0x03, 0x81, 0x02, 0x05, 0x02, 0x02, 0x01, 0x03, 0x05])
      = [.events .east 3 2 false true false [.hookOff, .digit 5]] := by decide +kernel
/-- FAIL WRITE ERROR with count 258. -/
theorem test_receive_fail :
    receiveBooth .west ([0x7E, 0x01, 0x85, 0x07, 0x03, 0x03, 0x01, 0x02] ++ crcBytes [0x01, 0x85, 0x07, 0x03, 0x03, 0x01, 0x02])
      = [.fail .west 1 7 .writeError 258#16] := by decide +kernel
/-- Two ACKs with a stray byte between them and a garbled frame behind. -/
theorem test_receive_booth_frames :
    receiveBooth .west (ackBytes ++ [0x00] ++ ackBytes ++ [0x7E, 0x01, 0x84, 0x07, 0x00, 0x00, 0x00])
      = [.ack .west 1 7, .ack .west 1 7, .boothFrameGarbled .west] := by decide +kernel
/-- A VERIFY request as the line carries it. -/
theorem test_verify_request_bytes :
    (Request.verify 0x01020304#32).payload = (4, [0x01, 0x02, 0x03, 0x04]) := by decide
theorem test_no_word_spells_a_command : decodeTableWord 16 0x1234 = none := rfl

/-! ## Small states -/

/-- Power-on with one command in the command queue. -/
def queued (c : Cmd) : State := modMgmt (fun m => { m with cmdQueue := [c] }) State.reset

/-- Booth 0 enabled on WEST, drop 1, channel 0, plan 0, with a health. -/
def mapped (h : Health) (s : State) : State :=
  s |> setEntry 0 { segment := .west, drop := 1, channel := 0, plan := 0, enabled := true }
    |> modBoothLine 0 fun l => { l with health := h }

def calling (st : CtxState) (s : State) : State := modCtx 0 (fun c => { c with state := st }) s

/-- A card entry with one unit cancelled of ten. -/
def someEntry : CardEntry :=
  { series := 1, serial := 2, face := 10, unitValue := 100, warn := 0, cancelled := 0, lastKnown := 1,
    warned := false, countFault := false }

def someRecord : CardRecord :=
  { series := 1, serial := 2, face := 10, cancelled := 1, expiryYear := 30, expiryMonth := 12, check := 0 }

/-- Someone's debit record with an outstanding request of 8 units. -/
def asking (o : Ask → Outstanding) (s : State) : State :=
  modDebit 0 (fun d => { d with cards := [someEntry],
                                outstanding := o { entry := 0, n := 8, before := 1, final := false } }) s

def openTx (r : Request) : Transaction :=
  { booth := 0, drop := 1, tag := 7, request := r, expiry := 63, probe := false, orphan := false }

/-- A transaction open to booth 0 on WEST under tag 7. -/
def onLine (r : Request) (s : State) : State := modSeg .west (fun x => { x with transaction := some (openTx r) }) s

/-- The state a command answers, where it answers one. -/
def afterStep (o : Host.Outcome State Fault Refusal) : Option State :=
  match o with
  | .next t => some t
  | _ => none

theorem canTake_queued (g : Group) (c : Cmd) (s : State) (ho : c.originator = 0#8)
    (hm : s.mgmt = (queued c).mgmt) (ht : s.trunk = State.reset.trunk) : CanTake g c [] s := by
  refine ⟨by rw [hm]; rfl, by rw [ht]; decide, by rw [ho]; decide, ?_⟩
  rw [hm, ho]
  change (State.reset.mgmt.access.get g.index).getLsbD 0 = true
  cases g <;> decide

theorem canTake_plain (g : Group) (c : Cmd) (ho : c.originator = 0#8) : CanTake g c [] (queued c) :=
  canTake_queued g c _ ho rfl rfl

theorem answers_onLine (r : Request) (s : State) : Answers .west 1 7 r 0 (onLine r s) :=
  ⟨openTx r, rfl, rfl, rfl, rfl, rfl, rfl, rfl⟩

theorem openTo_onLine (r : Request) (s : State) : OpenTo .west r 0 (onLine r s) (openTx r) := ⟨rfl, rfl, rfl, rfl, rfl⟩

/-! ## Witnesses: commands of the management centre

`canTake_plain` and `canTake_queued` meet `CanTake` for every group; what follows meets the other premises, at the ends
of their ranges. -/

theorem test_witness_StepRunsTheFrontCommand :
    ({ State.reset with pending := [.sync] } : State).pending = .sync :: [] ∧ State.reset.pending = [] := ⟨rfl, rfl⟩

theorem test_witness_IntakeChecksComeFirst :
    (let c : Cmd := ⟨0, 0, 0x10, []⟩;
      (queued c).mgmt.cmdQueue = c :: []
        ∧ 16 ≤ (modTrunk (fun t => { t with replyQueue := List.replicate 16 ⟨0, 0, 0, .done, 0, .none⟩ })
            (queued c)).trunk.replyQueue.length
        ∧ (queued c).trunk.replyQueue.length < 16 ∧ groupOfCode 0x10 = some .tariff ∧ lengthOfCode 0x10 = some 9
        ∧ ([] : List Byte).length ≠ 9)
      ∧ knownCode 0x17 = false ∧ 15 < (16 : Byte).toNat
      ∧ (State.reset.mgmt.access.get Group.access.index).getLsbD 1 = false
      ∧ ([] : List Byte).length ≠ 3 * (1 : Byte).toNat ∧ ([3] : List Byte).length < 2
      ∧ State.reset.mgmt.cmdQueue.head? ≠ some ⟨0, 0, 0x10, []⟩ := by decide

theorem test_witness_TreeWriteAndRead :
    (num2 3 255 < 1024 ∧ (9 : Byte).toNat < 10 ∧ NamesEntry 2 0 0 0 255 1 (.leaf 255 true)
        ∧ NamesEntry 1 3 255 0 0 0 (.branch 1023))
      ∧ 1024 ≤ num2 4 0 ∧ 10 ≤ (10 : Byte).toNat ∧ ∀ e, ¬NamesEntry 4 0 0 0 0 0 e := by
  refine ⟨⟨by decide, by decide, ?_, ?_⟩, by decide, by decide, ?_⟩
  · exact Or.inr (Or.inr (Or.inr ⟨rfl, by decide, by decide, rfl⟩))
  · exact Or.inr (Or.inr (Or.inl ⟨rfl, by decide, rfl⟩))
  · rintro e (⟨h, _⟩ | ⟨h, _⟩ | ⟨h, _⟩ | ⟨h, _⟩) <;> exact absurd h (by decide)

theorem test_witness_PlanWriteAndRead :
    ((7 : Byte).toNat < 8 ∧ num2 3 255 < 1024 ∧ (63 : Byte).toNat < 64 ∧ (1 : Byte).toNat ≤ 1)
      ∧ 8 ≤ (8 : Byte).toNat ∧ 1024 ≤ num2 4 0 ∧ 64 ≤ (64 : Byte).toNat ∧ 2 ≤ (2 : Byte).toNat := by decide

theorem test_witness_CacheFenceInvalidates :
    (let ds : List Byte := [1, 2, 255, 0, 0, 0, 0, 0];
      ds.length = 8 ∧ (2 : Byte).toNat ≤ 8 ∧ (ds.take 2).map BitVec.toNat = ([1, 2] : List Digit).map Fin.val
        ∧ (∀ d ∈ ([1, 2] : List Digit), d.val < 10) ∧ (1 : Byte).toNat ≤ 1 ∧ (63 : Byte).toNat < 64)
      ∧ (∀ e, fenceSelects none [] e = true ↔ ([] : List Digit) <+: e.digits
          ∧ ((0 : Byte) = 1#8 → ∃ h : (0 : Byte).toNat < 64, e.scope = .tag ⟨(0 : Byte).toNat, h⟩))
      ∧ 8 < (9 : Byte).toNat ∧ 64 ≤ (64 : Byte).toNat ∧ 2 ≤ (2 : Byte).toNat
      ∧ ∃ d ∈ ([10, 0, 0, 0, 0, 0, 0, 0] : List Byte).take 1, 10 ≤ d.toNat := by
  refine ⟨by decide, fun e => ?_, by decide, by decide, by decide, by decide⟩
  simp [fenceSelects]

theorem test_witness_ClassWriteAndRead :
    (num2 0 255 < 256 ∧ (3 : Byte).toNat < 4 ∧ num4 0 0x3D 0x09 0x00 ≤ 4000000 ∧ num4 0 0 255 255 ≤ 65535)
      ∧ 256 ≤ num2 1 0 ∧ 4000000 < num4 0 0x3D 0x09 0x01 ∧ 65535 < num4 0 1 0 0 ∧ 4 ≤ (4 : Byte).toNat := by decide

theorem test_witness_ProfileBandHolidayWrites :
    ((3 : Byte).toNat < 4 ∧ 4 ≤ (4 : Byte).toNat)
      ∧ (let l : List Boundary := [⟨0, 0⟩, ⟨1439, 5⟩];
          l.length ≤ 6 ∧ (∀ x ∈ l, x.minute < 65536) ∧ (∀ x ∈ l, x.minute ≤ 1439)
            ∧ (l.map Boundary.minute).Pairwise (· < ·))
      ∧ (6 < (List.replicate 7 (0, 5) : List (Nat × Nat)).length ∧ ∃ x ∈ ([(5, 6)] : List (Nat × Nat)), 5 < x.2)
      ∧ (∃ x ∈ ([⟨1440, 0⟩] : List Boundary), 1439 < x.minute) ∧ ¬([5, 5] : List Nat).Pairwise (· < ·)
      ∧ ((31 : Byte).toNat < 32 ∧ 2000 ≤ num2 7 208 ∧ num2 7 208 ≤ 2099 ∧ 29 ≤ daysInMonth (num2 7 208) 2)
      ∧ 32 ≤ (32 : Byte).toNat ∧ num2 7 207 < 2000 ∧ 2099 < num2 8 52 ∧ daysInMonth 2001 2 < 29 := by decide

theorem test_witness_ClockSetAndEvaluates :
    ((7 : Byte).toNat - 1 < 7 ∧ num2 8 51 ≤ 2099 ∧ (31 : Byte).toNat ≤ daysInMonth (num2 8 51) 12)
      ∧ (7 < (8 : Byte).toNat ∧ 23 < (24 : Byte).toNat ∧ 59 < (60 : Byte).toNat) := by decide

theorem test_witness_SeriesWriteAndRead :
    ((31 : Byte).toNat < 32 ∧ SeriesState.withdrawn.code = (2 : Byte).toNat ∧ 100 ≤ num4 0 0 0 100
        ∧ (15 : Byte).toNat ≤ 15)
      ∧ (let s := setSeries 0 { code := 5, state := .active, unitValue := 100, warn := 0 } State.reset;
          ∃ j : Fin 32, j.val ≠ 31 ∧ (s.card.series.get j).code = seriesOf 0 5 ∧ (s.card.series.get j).state ≠ .unused)
      ∧ (∀ j : Fin 32, j.val ≠ 31 → (State.reset.card.series.get j).code = seriesOf 0 5 →
          (State.reset.card.series.get j).state = .unused)
      ∧ 32 ≤ (32 : Byte).toNat ∧ 3 ≤ (3 : Byte).toNat ∧ num4 0 0 0 99 < 100 ∧ 15 < (16 : Byte).toNat := by decide

/-- One stopped card, series 0 serial 5, with a free count. -/
def stopped (free : Nat) (chain : List StopEntry) (s : State) : State :=
  setStop { chains := smPut [] 5 chain [], free := free } s

theorem test_witness_StopAddAndRemove :
    let e : StopEntry := ⟨0, 5, .eject⟩
    let full := List.replicate 12 (⟨0, 517, .eject⟩ : StopEntry)
    (bucketOf (seriesOf 0 0) (serialOf 0 0 0 5) = 5 ∧ StopAction.retain.code = (1 : Byte).toNat
        ∧ ∃ x ∈ (stopped 1 [e] State.reset).card.stop.chain 5, x.series = seriesOf 0 0 ∧ x.serial = serialOf 0 0 0 5)
      ∧ (∀ x ∈ (stopped 0 full State.reset).card.stop.chain 5,
          ¬(x.series = seriesOf 0 0 ∧ x.serial = serialOf 0 0 0 5))
      ∧ (stopped 0 full State.reset).card.stop.free = 0
      ∧ (0 < (stopped 1 full State.reset).card.stop.free
          ∧ 12 ≤ ((stopped 1 full State.reset).card.stop.chain 5).length)
      ∧ ((State.reset.card.stop.chain 5).length < 12 ∧ 0 < State.reset.card.stop.free)
      ∧ 2 ≤ (2 : Byte).toNat := by decide

theorem test_witness_StopProbeAndStatusRead :
    let chain := (stopped 1 [⟨0, 517, .eject⟩, ⟨0, 5, .retain⟩] State.reset).card.stop.chain 5
    chain[1]? = some ⟨0, 5, .retain⟩
      ∧ ∀ j < 1, ∀ e', chain[j]? = some e' → ¬(e'.series = seriesOf 0 0 ∧ e'.serial = serialOf 0 0 0 5) := by
  refine ⟨by decide, fun j hj e' he => ?_⟩
  obtain rfl : j = 0 := by omega
  have he : some (⟨0, 517, .eject⟩ : StopEntry) = some e' := he
  injection he with he
  subst he
  decide

theorem test_witness_BoothMapWriteChecksAndEffect :
    ((47 : Byte).toNat < 48 ∧ Segment.east.code = (1 : Byte).toNat ∧ (63 : Byte).toNat < 64 ∧ (7 : Byte).toNat < 8
        ∧ (31 : Byte).toNat ≤ 31)
      ∧ ((calling .ending State.reset).ctx 0).state ≠ .free
      ∧ (∃ x, x ≠ (1 : Booth) ∧ ((mapped .inService State.reset).entry x).enabled = true
          ∧ ((mapped .inService State.reset).entry x).channel.val = (0 : Byte).toNat)
      ∧ (¬∃ x, x ≠ (0 : Booth) ∧ ((mapped .inService State.reset).entry x).enabled = true)
      ∧ ((mapped .lost State.reset).entry 0).enabled = true ∧ (State.reset.entry 0).enabled = false
      ∧ 48 ≤ (48 : Byte).toNat ∧ 31 < (32 : Byte).toNat ∧ 64 ≤ (64 : Byte).toNat := by decide

/-- Twenty-four other booths enabled on WEST with drop addresses 2 to 25 and their own channels. -/
theorem test_witness_BoothMapWrite_full :
    let entryAt := fun i : Fin 24 =>
      ({ segment := .west, drop := i.val + 2, channel := ⟨i.val, by omega⟩, plan := 0, enabled := true } : MapEntry)
    let s := (List.finRange 24).foldl (fun s i => setEntry ⟨i.val, by omega⟩ (entryAt i) s) State.reset
    24 ≤ allBooths.countP (fun x =>
        !decide (x = (47 : Booth)) && (s.entry x).enabled && decide ((s.entry x).segment = .west))
      ∧ ∀ x, (s.entry x).enabled = true → (s.entry x).drop ≠ 31 ∧ (s.entry x).channel ≠ 63 := by decide +kernel

theorem test_witness_BoothControlByCondition :
    (((mapped .taken State.reset).boothLine 0).health = .taken
        ∧ ((mapped .inService State.reset).boothLine 0).mark = false
        ∧ ((mapped .inService State.reset).ctx 0).state = .free
        ∧ ((calling .speech (mapped .inService State.reset)).ctx 0).state ≠ .free
        ∧ ((modBoothLine 0 (fun l => { l with mark := true }) (mapped .inService State.reset)).boothLine 0).mark = true
        ∧ ((mapped .reader State.reset).boothLine 0).health = .reader
        ∧ ((mapped .lost State.reset).boothLine 0).health ≠ .taken)
      ∧ 3 ≤ (3 : Byte).toNat ∧ 48 ≤ (48 : Byte).toNat := by decide

/-- FORCE CLEAR's premises in each of its four cases. -/
theorem test_witness_ForceClearByState (c : Cmd) (ho : c.originator = 0#8) :
    CanTake .booths c [] (asking .cancel (calling .speech (mapped .inService (queued c))))
      ∧ ((asking .cancel (calling .speech (mapped .inService (queued c)))).entry 0).enabled = true
      ∧ ((asking .cancel (calling .speech (mapped .inService (queued c)))).ctx 0).state = .speech
      ∧ ((asking .cancel (calling .speech (mapped .inService (queued c)))).debit 0).outstanding ≠ .none
      ∧ CtxState.preAnswer .routed = true := by
  refine ⟨canTake_queued _ _ _ ho rfl rfl, rfl, rfl, ?_, rfl⟩
  intro h
  injection h

/-- Owing 150 with a card of 100 a unit in its slot, which is the newest of the list. -/
def owing (st : CtxState) (s : State) : State :=
  s |> mapped .inService |> calling st |> modDebit 0 (fun d => { d with p := -150, cards := [someEntry] })
    |> setSlot 0 (.valid someRecord 100 0 1)

/-- Both sides of the final test of R118. -/
theorem test_witness_Settles :
    FinalTestPasses 0 0 someEntry (ending 0 .forced (owing .speech State.reset))
      ∧ ∀ i e, ¬FinalTestPasses 0 i e (ending 0 .forced (calling .swap State.reset)) := by
  refine ⟨⟨by decide, rfl, by decide, by decide, Or.inl rfl⟩, fun i e h => ?_⟩
  exact absurd h.debt (by decide)

theorem noActionWaits_owing (st : CtxState) : NoActionWaits 0 (owing st State.reset) :=
  ⟨rfl, fun _ h => by cases h⟩

theorem takesWork_owing (st : CtxState) : TakesWork 0 (owing st State.reset) :=
  ⟨show Health.inService ≠ .lost by decide, show Health.inService ≠ .disabled by decide⟩

/-- The cases of a completion: a HANGUP owed, and not for the flag, the link or a queued SEIZE; a take-out mark; the
last busy context of a drain and one of two; a ring that is high; a VALID card whose EJECT can be posted
(`noActionWaits_owing`, `takesWork_owing`). -/
theorem test_witness_Completed :
    let s := validFrame (owing .ending State.reset)
    ((s.ctx 0).exchangeCleared = false ∧ s.trunk.linkUp = true ∧ .seize (s.entry 0).channel ∉ s.trunk.sigQueue)
      ∧ ((modCtx 0 (fun c => { c with exchangeCleared := true }) s).ctx 0).exchangeCleared = true
      ∧ .seize (s.entry 0).channel ∈ (queueSig (.seize 0) s).trunk.sigQueue ∧ State.reset.trunk.linkUp = false
      ∧ ((s.boothLine 0).mark = false ∧ ((modBoothLine 0 (fun l => { l with mark := true }) s).boothLine 0).mark = true)
      ∧ (LastBusy 0 (setService .draining s) ∧ ¬LastBusy 1 (setService .draining s) ∧ ¬LastBusy 0 s)
      ∧ (modRing (fun r => { r with highWater := 1 }) s).ring.highWater ≤ s.ring.tickets.length + 1
      ∧ s.slot 0 = .valid someRecord 100 0 1 := by
  refine ⟨by decide, by decide, by decide, rfl, by decide, ⟨⟨rfl, by decide⟩, ?_, ?_⟩, by decide, rfl⟩
  · exact fun h => absurd (h.2 0 (by decide)) (by decide)
  · exact fun h => absurd h.1 (by decide)

theorem test_completion_owes_hangup_and_ends_the_drain :
    let s := setService .draining (validFrame (modDebit 0 (fun d => { d with p := 0 }) (owing .speech State.reset)))
    let t := boothEvent 0 false .hookOn s
    (t.trunk.hangupOwed.get 0, t.mgmt.service, (t.boothLine 0).cardAction, (t.boothLine 0).signals)
      = (true, .outOfService, some .eject, [.outOfOrder]) := by decide +kernel

/-- The cases of what a count shows: the entry's card in the slot or not, a booth that takes work or not, a count at the
warn threshold and one at the face. -/
theorem test_witness_Shown :
    CardInSlot 0 someEntry (owing .speech State.reset) ∧ ¬CardInSlot 0 someEntry State.reset
      ∧ ¬TakesWork 0 (mapped .lost State.reset)
      ∧ warnsAt 9 { someEntry with warn := 1 } = true ∧ warnsAt 10 { someEntry with warn := 1 } = false := by
  refine ⟨⟨_, _, _, _, rfl, rfl, rfl⟩, ?_, fun h => h.1 rfl, rfl, rfl⟩
  rintro ⟨_, _, _, _, h, _⟩
  cases h

/-- HOOK ON with 150 owed asks for a final CANCEL of two units. -/
theorem test_hook_on_asks_a_final_cancel :
    let t := boothEvent 0 false .hookOn (owing .speech State.reset)
    (t.ctx 0).state = .ending ∧ (t.debit 0).stage = .awaitingFinal
      ∧ (t.boothLine 0).debitWork = some (.cancel 2 2) := by decide +kernel

/-- The cases of an end before answer: an unanswered call, of a booth with a take-out mark or none, that takes work or
not, as the last busy context of a drain or not (`test_witness_Completed` has the channel's cases); counters in their
groups; causes with each signal. -/
theorem test_witness_EndedBeforeAnswer :
    let s := validFrame (calling .routed (mapped .inService State.reset))
    (s.ctx 0).state.preAnswer = true ∧ (s.counters.get 0).length = 44
      ∧ ((s.boothLine 0).mark = false ∧ ((modBoothLine 0 (fun l => { l with mark := true }) s).boothLine 0).mark = true)
      ∧ (TakesWork 0 s ∧ ¬TakesWork 0 (mapped .lost s))
      ∧ (LastBusy 0 (setService .draining s) ∧ ¬LastBusy 1 (setService .draining s) ∧ ¬LastBusy 0 s)
      ∧ (lineAtDrainEnd true (s.boothLine 0)).signals = [.outOfOrder]
      ∧ (endSignal .forced = some (.callRefused (.ended .forced)) ∧ endSignal .link = some .outOfOrder
          ∧ endSignal .boothHungUp = none) := by
  refine ⟨rfl, rfl, ⟨rfl, rfl⟩, ⟨⟨by decide, by decide⟩, fun h => h.1 rfl⟩, ⟨⟨rfl, by decide⟩, ?_, ?_⟩, rfl, rfl, rfl, rfl⟩
  · exact fun h => absurd (h.2 0 (by decide)) (by decide)
  · exact fun h => absurd h.1 (by decide)

/-- HOOK ON in ROUTED owes HANGUP and tells the booth nothing; `*` in DIALLING owes it and posts CALL REFUSED. -/
theorem test_ends_before_answer :
    let s := validFrame (calling .dialling (mapped .inService State.reset))
    let told := fun t : State => ((t.ctx 0).endCause, t.trunk.hangupOwed.get 0, (t.boothLine 0).signals)
    told (boothEvent 0 false .hookOn s) = (some .boothHungUp, true, [])
      ∧ told (boothEvent 0 false (.digit 10) s)
        = (some .unobtainable, true, [.callRefused (.ended .unobtainable)]) := by decide +kernel

theorem test_witness_SetupWrites :
    (Segment.west.code = (0 : Byte).toNat ∧ (15 : Byte).toNat ≤ 15 ∧ num2 2 0 ≤ 512 ∧ 1 ≤ num2 0 1
        ∧ (1 ≤ (60 : Byte).toNat ∧ (60 : Byte).toNat ≤ 60))
      ∧ 2 ≤ (2 : Byte).toNat ∧ 15 < (16 : Byte).toNat ∧ 512 < num2 2 1 ∧ num2 0 0 = 0
      ∧ ¬(1 ≤ (61 : Byte).toNat ∧ (61 : Byte).toNat ≤ 60) := by decide

theorem test_witness_resets :
    (State.reset.seg .west).hold = none ∧ (State.reset.seg .east).hold = none
      ∧ ((modSeg .west (fun x => { x with hold := some 1 }) State.reset).seg .west).hold ≠ none
      ∧ Segment.east.code = (1 : Byte).toNat ∧ 2 ≤ (2 : Byte).toNat := by decide

/-- A marked booth with a call on WEST while DRAINING, and the command that resets its segment. -/
def draining (c : Cmd) : State :=
  queued c |> mapped .suspect |> calling .routed |> modBoothLine 0 (fun l => { l with mark := true })
    |> setService .draining

theorem test_witness_DrainEnds :
    DrainEnds .west (draining ⟨0, 0, 0x33, [0]⟩) ∧ ¬DrainEnds .east (draining ⟨0, 0, 0x33, [1]⟩)
      ∧ ¬DrainEnds .west State.reset := by
  refine ⟨⟨rfl, by decide⟩, fun h => absurd (h.2 0 (by decide)) (by decide), fun h => absurd h.1 (by decide)⟩

/-- Two answered calls on WEST, the second in ENDING with its cause and a request outstanding: the reset writes both
tickets in booth order, numbered on, and counts the request as uncertain. -/
theorem test_segment_reset_writes_the_tickets :
    let s := queued ⟨0, 0, 0x33, [0]⟩ |> mapped .inService |> calling .speech
      |> modCtx 1 (fun c => { c with state := .ending, endCause := some .forced })
      |> modDebit 1 (fun d => { d with outstanding := .verify ⟨0, 8, 1, false⟩ })
    ((s.entry 1).segment, (s.debit 1).outstanding.ask.isSome) = (.west, true)
      ∧ (afterStep (exec (.segmentReset 0 0 [0]) s)).map
          (fun t => t.ring.tickets.map fun k => (k.booth, k.sequence, k.endCause, k.uncertainCount))
        = some [(0, 1, some .segmentReset, 0), (1, 2, some .forced, 1)] := by decide +kernel

theorem test_segment_reset_ends_the_drain :
    (afterStep (exec (.segmentReset 0 0 [0]) (draining ⟨0, 0, 0x33, [0]⟩))).map
        (fun t => (t.mgmt.service, (t.boothLine 0).health, (t.boothLine 0).signals, (t.ctx 0).endCause))
      = some (.outOfService, .taken, [.outOfOrder], some .segmentReset) := by decide +kernel

/-- A marked booth whose unanswered call ends the drain is TAKEN and told OUT OF ORDER once (log 41). -/
theorem test_mark_is_honoured_before_the_drain_ends :
    let t := boothEvent 0 false .hookOn (draining ⟨0, 0, 0, []⟩)
    (t.mgmt.service, (t.boothLine 0).health, (t.boothLine 0).signals) = (.outOfService, .taken, [.outOfOrder]) := by
  decide +kernel

theorem test_witness_TicketFetchAndRelease :
    num4 0 0 0 0 = 0 ∧ num4 255 255 255 255 ≠ 0 ∧ num4 0 0 0 1 ≠ 0 := by decide

theorem test_witness_ServiceStartAndStop :
    State.reset.mgmt.service = .outOfService ∧ ¬(State.reset.tariff.clock.valid = true)
      ∧ (setService .draining State.reset).mgmt.service = .draining
      ∧ (setService .inService State.reset).mgmt.service = .inService
      ∧ (∀ b, (State.reset.ctx b).state = .free) ∧ (∃ b, ((calling .speech State.reset).ctx b).state ≠ .free)
      ∧ (let s := mapped .inService (setPlan 7 ⟨0, 0, true⟩ (setClock { Clock.reset with valid := true } State.reset));
          s.tariff.clock.valid = true ∧ (∃ p : Fin 8, (s.route.plans.get p).enabled = true)
            ∧ ∃ b, (s.entry b).enabled = true) := by decide

theorem test_witness_NoticeSetupAndClear :
    num2 0 255 ≤ 255 ∧ 255 < num2 1 0
      ∧ (true = true ↔ false = true ∨ ∃ i : Fin 5, (1#5).getLsbD i = true ∧ (1#5).getLsbD i = true
          ∧ (0#8).getLsbD i = false) := by decide

theorem test_witness_AccessWriteReplacesSet :
    ((6 : Byte).toNat < 7 ∧ ¬(groupAt ⟨6, by decide⟩ = .access ∧ num2 0 0 = 0)) ∧ 7 ≤ (7 : Byte).toNat
      ∧ (groupAt ⟨5, by decide⟩ = .access ∧ num2 0 0 = 0) := by decide

theorem test_witness_CounterReadAndClear : (11 : Byte).toNat < 12 ∧ 12 ≤ (12 : Byte).toNat ∧ 2 ≤ (2 : Byte).toNat := by
  decide

/-! ## Witnesses: the trunk -/

theorem test_witness_SyncAndTimerExpiries :
    (modNotices (fun n => { n with hold := some 1 }) State.reset).mgmt.notices.hold = some 1
      ∧ ((modSeg .east (fun x => { x with hold := some 1 }) State.reset).seg .east).hold = some 1
      ∧ ((modBoothLine 47 (fun l => { l with probeTimer := some 1 }) State.reset).boothLine 47).probeTimer = some 1 := by
  decide

theorem test_witness_FramesQueuedOrDiscarded :
    ([] : List Byte).length ≤ 20 ∧ State.reset.mgmt.cmdQueue.length < 8
      ∧ 8 ≤ (modMgmt (fun m => { m with cmdQueue := List.replicate 8 ⟨0, 0, 0, []⟩ }) State.reset).mgmt.cmdQueue.length
      ∧ 20 < (List.replicate 21 (0 : Byte)).length ∧ 63 < (64 : Byte).toNat := by decide

theorem test_witness_LinkLossDiscardsAndEnds :
    (validFrame (calling .dialling State.reset)).trunk.silence = some 8000
      ∧ ((validFrame (calling .dialling State.reset)).ctx 0).state.preAnswer = true
      ∧ ((validFrame (calling .speech State.reset)).ctx 0).state.preAnswer = false := by decide

/-- The link is lost in a drain that has one unanswered call left, and in one that has an answered call too. -/
theorem test_witness_LinkLoss_drains :
    let s := setService .draining (validFrame (calling .dialling State.reset))
    (s.mgmt.service = .draining ∧ (s.ctx 0).state.preAnswer = true
        ∧ ∀ b, (s.ctx b).state = .free ∨ (s.ctx b).state.preAnswer = true)
      ∧ (let t := modCtx 1 (fun c => { c with state := .speech }) s;
          ¬((t.ctx 1).state = .free ∨ (t.ctx 1).state.preAnswer = true)) := by decide

/-- A routed call whose class has a set-up charge of one unit, with a card that is its first entry. -/
def routedCall : State :=
  State.reset |> mapped .inService
    |> modCtx 0 (fun c => { c with state := .routed, snap := some ⟨1, 100, 125, 0, false⟩ })
    |> modDebit 0 (fun d => { d with cards := [someEntry] })
    |> setSlot 0 (.valid someRecord 100 0 1)

theorem test_witness_AnswerStartsCharging :
    routedCall.channelMap 0 = some 0 ∧ (routedCall.ctx 0).state = .routed
      ∧ (routedCall.ctx 0).snap = some ⟨1, 100, 125, 0, false⟩ ∧ (routedCall.debit 0).outstanding = .none
      ∧ routedCall.currentCard 0 = some (0, someEntry) ∧ someEntry.lastKnown < someEntry.face := by decide

theorem test_answer_posts_the_setup_cancel :
    (afterStep (exec (.answer 0) routedCall)).map (fun t => ((t.debit 0).p, (t.boothLine 0).debitWork))
      = some (-100, some (.cancel 1 2)) := by decide +kernel

theorem test_witness_AnswerOutsideRouted_ClearByState :
    State.reset.channelMap 63 = none ∧ (mapped .inService State.reset).channelMap 0 = some 0
      ∧ ((calling .swap (mapped .inService State.reset)).ctx 0).state = .swap
      ∧ (calling .swap (mapped .inService State.reset)).channelMap 0 = some 0
      ∧ ((calling .cardWait (mapped .inService State.reset)).ctx 0).state = .cardWait
      ∧ (∀ f ∈ State.reset.trunk.sigQueue, f ≠ .seize 0)
      ∧ ((asking .verify (calling .speech (mapped .inService State.reset))).debit 0).outstanding ≠ .none
      ∧ ((calling .speech State.reset).debit 0).outstanding = .none ∧ 0 ≤ ((calling .speech State.reset).debit 0).p := by
  decide

theorem test_witness_TransmitterPrecedence :
    let up := validFrame State.reset
    (State.reset.trunk.tx = none ∧ State.reset.trunk.syncDue = false ∧ State.reset.trunk.linkUp = false)
      ∧ (modTrunk (fun t => { t with syncDue := true }) State.reset).trunk.syncDue = true
      ∧ (up.trunk.syncDue = false ∧ up.trunk.linkUp = true ∧ ∀ ch : Channel, up.trunk.hangupOwed.get ch = false)
      ∧ ((oweHangup 63 up).trunk.hangupOwed.get 63 = true
          ∧ ∀ x : Channel, x < 63 → (oweHangup 63 up).trunk.hangupOwed.get x = false)
      ∧ (queueSig (.seize 0) up).trunk.sigQueue = .seize 0 :: []
      ∧ (up.trunk.sigQueue = [] ∧ up.trunk.replyQueue = []
          ∧ (offerReply ⟨0, 0, 0, .done, 0, .none⟩ up).trunk.replyQueue = ⟨0, 0, 0, .done, 0, .none⟩ :: [])
      ∧ (let n := (notePending .ringHigh up).mgmt.notices;
          n.due = true ∧ n.hold = none ∧ n.waiting &&& ~~~n.mask ≠ 0#5)
      ∧ (let n := (modNotices (fun n => { n with due := true }) up).mgmt.notices;
          n.due = true ∧ n.hold = none ∧ n.waiting &&& ~~~n.mask = 0#5)
      ∧ (transmit .sync up).trunk.tx = some .sync := by decide

theorem test_witness_TransmitterPrecedence_waiting :
    let s := State.reset |> validFrame |> modCtx 0 (fun c => { c with held := [5, 6] })
      |> modTrunk (fun t => { t with waiting := [0], sigQueue := List.replicate 64 (.seize 1) })
    s.trunk.waiting = 0 :: [] ∧ (s.ctx 0).held = 5 :: [6] ∧ s.trunk.sigQueue.length = 64 := by decide

/-! ## Witnesses: the booth lines -/

theorem test_witness_ArbiterGrantsInOrder :
    let s := mapped .inService State.reset
    isCandidate s .west .poll 0 ∧ (∀ b, 1 ≤ (s.entry b).drop ∧ (s.entry b).drop ≤ 31)
      ∧ (s.seg .west).lastDrop ≤ 31 ∧ (s.seg .west).followOn = none ∧ (s.seg .west).transaction = none
      ∧ (∀ x, ¬isCandidate s .west .debit x) ∧ (∀ x, ¬isCandidate s .west .command x)
      ∧ (∀ x, x ≠ 0 → ¬isCandidate s .west .poll x) ∧ (∀ k b, ¬isCandidate State.reset .east k b)
      ∧ ((onLine .status s).seg .west).transaction ≠ none := by
  refine ⟨⟨rfl, rfl, Or.inl rfl⟩, by decide, by decide, rfl, rfl, ?_, ?_, ?_, ?_, by decide⟩
  · rintro x ⟨_, _, h, _⟩; revert x; decide
  · rintro x ⟨_, _, h, _⟩; revert x; decide
  · rintro x hx ⟨h, _⟩; revert x; decide
  · rintro k b ⟨h, _⟩
    have off : ∀ b, (State.reset.entry b).enabled = false := by decide
    exact absurd h (by rw [off b]; decide)

theorem test_witness_ArbiterGrants_followOn :
    ((modSeg .west (fun x => { x with followOn := some 0 }) (mapped .inService State.reset)).seg .west).followOn
      = some 0 := by decide

/-- A follow-on booth that is no candidate, and one that debit work overrides. -/
theorem test_witness_ArbiterGrants_overridden :
    let s := State.reset |> mapped .lost
      |> setEntry 1 { segment := .west, drop := 2, channel := 1, plan := 0, enabled := true }
      |> modBoothLine 1 (fun l => { l with health := .inService })
      |> modSeg .west (fun x => { x with followOn := some 0 })
    ¬isCandidate s .west .poll 0 ∧ isCandidate s .west .poll 1
      ∧ isCandidate (modBoothLine 1 (fun l => { l with debitWork := some (.verify 2) }) s) .west .debit 1 := by
  refine ⟨?_, ⟨rfl, rfl, Or.inl rfl⟩, ⟨rfl, rfl, ?_, Or.inl rfl⟩⟩
  · rintro ⟨_, _, h⟩; revert h; decide
  · intro h; injection h

theorem test_witness_StaleAndGarbledFrames :
    BoothReply.parses .ack = true ∧ (7 : Byte).toNat ≤ 7 ∧ (State.reset.seg .west).transaction = none
      ∧ ((onLine .status State.reset).seg .west).transaction = some (openTx .status)
      ∧ (openTx .status).tag.val = (7 : Byte).toNat ∧ (openTx .status).drop = (1 : Byte).toNat
      ∧ (openTx .status).request.accepts .ack = false := by decide

theorem test_witness_misses :
    ((mapped .inService State.reset).boothLine 0).health = .inService
      ∧ ((mapped .inService State.reset).boothLine 0).misses = 0
      ∧ ((asking .cancel (mapped .inService State.reset)).debit 0).outstanding = .cancel ⟨0, 8, 1, false⟩
      ∧ ((asking .cancel (mapped .inService State.reset)).debit 0).cards[0]? = some someEntry
      ∧ (let s := modBoothLine 0 (fun l => { l with misses := 2 }) (mapped .suspect State.reset);
          (s.boothLine 0).health = .suspect ∧ (s.boothLine 0).misses = 2 ∧ (s.boothLine 0).mark = false)
      ∧ ({ openTx .status with orphan := true } : Transaction).orphan = true := by decide

/-- Misses by health and request: a SUSPECT booth at its first miss, READER and TAKEN booths at their third, a probe, the
three ways of a returned SIGNAL, an orphaned transaction that a good reply answers, an outstanding VERIFY. -/
theorem test_witness_misses_by_health :
    ¬((mapped .suspect State.reset).boothLine 0).health = .inService
      ∧ ¬(((mapped .suspect State.reset).boothLine 0).health = .suspect
          ∧ 2 ≤ ((mapped .suspect State.reset).boothLine 0).misses)
      ∧ (missedLine { BoothLine.reset with health := .reader, misses := 2, statusDue := true }).statusDue = false
      ∧ (missedLine { BoothLine.reset with health := .taken, misses := 1 }).misses = 2
      ∧ ({ openTx (.poll true) with probe := true } : Transaction).orphan = false
      ∧ SignalReturned .lowCredit [.inOrder] [.lowCredit, .inOrder]
      ∧ SignalReturned (.showUnits 3) [.showUnits 2] [.showUnits 2]
      ∧ SignalReturned .lowCredit (List.replicate 4 .inOrder) (List.replicate 4 .inOrder)
      ∧ ({ openTx .eject with orphan := true } : Transaction).request.accepts (.fail .noCard 0) = true
      ∧ ((asking .verify State.reset).debit 0).outstanding = .verify ⟨0, 8, 1, false⟩ := by
  refine ⟨by decide, by decide, rfl, rfl, rfl, ⟨?_, by decide, fun _ _ => rfl⟩, ⟨fun _ _ _ _ => rfl, fun _ => rfl, ?_⟩,
    ⟨fun _ _ _ _ => rfl, fun _ => rfl, fun h => absurd h (by decide)⟩, rfl, rfl⟩
  · intro n m h
    cases h
  · exact fun _ h => absurd (List.mem_singleton.mpr rfl) (h 3 2 rfl)

/-- A CANCEL that is outstanding on a READER booth at its third miss and on a LOST booth (by the same state, unmatched
when nothing is outstanding). -/
theorem test_witness_missed_cancel :
    let s := fun h => modBoothLine 0 (fun l => { l with misses := 2 }) (asking .cancel (mapped h State.reset))
    (((s .reader).debit 0).outstanding = .cancel ⟨0, 8, 1, false⟩ ∧ ((s .reader).debit 0).cards[0]? = some someEntry
        ∧ ((s .reader).boothLine 0).health ≠ .suspect ∧ TakesWork 0 (s .reader) ∧ ¬TakesWork 0 (s .lost))
      ∧ ((mapped .reader State.reset).debit 0).outstanding = .none := by
  refine ⟨⟨rfl, rfl, by decide, ⟨by decide, by decide⟩, fun h => h.1 rfl⟩, rfl⟩

/-- A missed CANCEL on a TAKEN booth asks a VERIFY; at its third miss the VERIFY goes with the rest of the work. -/
theorem test_missed_cancel_by_misses :
    let missed := fun n => (afterStep (exec (.replyWindowExpiry .west) (onLine (.cancel 8 2)
      (modBoothLine 0 (fun l => { l with misses := n }) (asking .cancel (mapped .taken State.reset)))))).map
        fun t => ((t.boothLine 0).debitWork, (t.boothLine 0).misses)
    missed 1 = some (some (.verify 2), 2) ∧ missed 2 = some (none, 0) := by decide +kernel

theorem test_missed_signal_goes_back :
    let s := modBoothLine 0 (fun l => { l with signals := [.outOfOrder] }) (mapped .suspect State.reset)
    (afterStep (exec (.replyWindowExpiry .west) (onLine (.signal .lowCredit) s))).map
        (fun t => ((t.boothLine 0).signals, (t.boothLine 0).misses)) = some ([.lowCredit, .outOfOrder], 1) := by
  decide +kernel

/-- `answers_onLine` and `openTo_onLine` meet `Answers` and `OpenTo` for every request; here the other premises of
the statements about replies, with the count at both ends of its range and beyond each. -/
theorem test_witness_replies :
    let s := asking .cancel (calling .swap (mapped .inService State.reset))
    (s.debit 0).cards[0]? = some someEntry ∧ (s.ctx 0).state = .swap
      ∧ (1 ≤ (1 : BitVec 16).toNat ∧ (1 : BitVec 16).toNat ≤ 1 + 8)
      ∧ (1 ≤ (9 : BitVec 16).toNat ∧ (9 : BitVec 16).toNat ≤ 1 + 8)
      ∧ ((0 : BitVec 16).toNat < 1 ∧ 1 + 8 < (10 : BitVec 16).toNat)
      ∧ s.currentCard 0 = none
      ∧ ((asking .cancel (calling .speech (mapped .inService State.reset))).ctx 0).state = .speech
      ∧ (0 ≤ ((asking .cancel (calling .speech (mapped .inService State.reset))).debit 0).p
            + (((1 : BitVec 16).toNat - 1) * someEntry.unitValue : Nat))
      ∧ ((setSlot 0 (.refused someRecord .stopped .retain) s).slot 0 = .refused someRecord .stopped .retain)
      ∧ (asking .verify s).debit 0 = { s.debit 0 with outstanding := .verify ⟨0, 8, 1, false⟩ } := by decide

/-- Replies that a CANCEL and a VERIFY accept, to a booth with no request outstanding. -/
theorem test_witness_unmatched :
    (State.reset.debit 0).outstanding = .none ∧ (7 : Byte).toNat ≤ 7
      ∧ (Request.cancel 8 2).accepts (.done 9) = true ∧ (Request.verify 2).accepts (.fail .noCard 0) = true := by decide

theorem test_unmatched_outcome_is_counted :
    (afterStep (exec (.done .west 1 7 9) (onLine (.cancel 8 2) (mapped .inService State.reset)))).map
        (fun t => (t.counter Ctr.unmatchedOutcomes, (t.seg .west).transaction.isSome)) = some (1, false) := by
  decide +kernel

/-- An uncertain record of another entry and one of the same, and a count that confirms units or none. -/
theorem test_witness_Confirms_uncertain :
    let s := fun i => modDebit 0 (fun d => { d with uncertain := some ⟨i, 1, 8⟩ }) (asking .cancel State.reset)
    ((s 1).debit 0).uncertain = some ⟨1, 1, 8⟩ ∧ ((s 0).debit 0).uncertain = some ⟨0, 1, 8⟩
      ∧ ((s 1).debit 0).outstanding = .cancel ⟨0, 8, 1, false⟩ ∧ 1 ≤ (2 : BitVec 16).toNat - 1
      ∧ (1 : BitVec 16).toNat - 1 = 0 := by decide

/-- DONE with one unit confirmed makes the doubt about another card final. -/
theorem test_confirmed_units_drop_the_record :
    let s := modDebit 0 (fun d => { d with uncertain := some ⟨1, 1, 8⟩ }) (asking .cancel (mapped .inService State.reset))
    (afterStep (exec (.done .west 1 7 2) (onLine (.cancel 8 2) s))).map
        (fun t => ((t.debit 0).uncertain, t.counter Ctr.uncertainFinals)) = some (none, 1) := by decide +kernel

/-- A reply to a call in SPEECH that still owes, to one in ENDING, and to a booth that carries a take-out mark. -/
theorem test_witness_replies_by_state :
    let s := asking .cancel (owing .speech State.reset)
    ¬(0 ≤ (s.debit 0).p + (((1 : BitVec 16).toNat - 1) * someEntry.unitValue : Nat))
      ∧ ((asking .cancel (owing .ending State.reset)).ctx 0).state = .ending
      ∧ s.currentCard 0 = some (0, someEntry) ∧ s.mgmt.faultHeld = none
      ∧ (let m := modBoothLine 0 (fun l => { l with mark := true, health := .suspect, misses := 2 }) s;
          (m.boothLine 0).mark = true ∧ (m.ctx 0).state ≠ .free ∧ (m.boothLine 0).misses = 2
            ∧ (m.boothLine 0).health = .suspect)
      ∧ ((modBoothLine 0 (fun l => { l with mark := true }) s).boothLine 0).health = .inService := by decide

theorem test_write_error_out_of_range_is_a_count_fault :
    (afterStep (exec (.fail .west 1 7 .writeError 10) (onLine (.cancel 8 2) (asking .cancel (owing .swap State.reset))))).map
        (fun t => ((t.ctx 0).state, (t.ctx 0).endCause)) = some (.free, some .cardFault) := by decide +kernel

theorem test_write_error_in_range_releases_the_card :
    (afterStep (exec (.fail .west 1 7 .writeError 4)
        (onLine (.cancel 8 2) (asking .cancel (owing .speech State.reset))))).map
      (fun t => ((t.debit 0).p, (t.ctx 0).state, t.slot 0, (t.boothLine 0).signals))
        = some (150, .swap, .refused someRecord .writeError .eject, []) := by decide +kernel

/-- A VERIFY whose outcome leaves the cancel uncertain, in SPEECH and in ENDING, with the Fault Capture record free and
held; a booth that is READER already, and one that is not. -/
theorem test_witness_uncertain_and_reader :
    let s := asking .verify (owing .speech State.reset)
    (s.debit 0).outstanding = .verify ⟨0, 8, 1, false⟩ ∧ (s.debit 0).cards[0]? = some someEntry
      ∧ FailReason.writeError ≠ .readerFault ∧ ¬((5 : BitVec 16) = someEntry.series ∧ (2 : BitVec 32) = someEntry.serial)
      ∧ ((asking .verify (owing .ending State.reset)).ctx 0).state = .ending
      ∧ (s.mgmt.faultHeld = none ∧ (reportFault .boothLost 0 0 [] none s).mgmt.faultHeld ≠ none)
      ∧ (s.boothLine 0).health ≠ .reader ∧ ((mapped .reader s).boothLine 0).health = .reader := by decide

theorem test_other_card_makes_the_cancel_uncertain :
    (afterStep (exec (.count .west 1 7 5 2 4)
        (onLine (.verify 2) (asking .verify (owing .speech State.reset))))).map
      (fun t => ((t.debit 0).uncertain, (t.debit 0).p, (t.ctx 0).swapWindow.map Prod.snd))
        = some (some ⟨0, 1, 8⟩, -150, some .cardRemoved) := by decide +kernel

theorem test_reader_fault_of_a_probe :
    (afterStep (exec (.fail .west 1 7 .readerFault 0)
        (modSeg .west (fun x => { x with transaction := some { openTx (.poll true) with probe := true } })
          (mapped .lost State.reset)))).map (fun t => ((t.boothLine 0).health, (t.boothLine 0).statusDue))
      = some (.reader, false) := by decide +kernel

/-- Counts found at STATUS for the card that stayed in its slot: on the list, not on it, and in each state. -/
theorem test_witness_counts_at_status :
    let s := owing .speech State.reset
    let r : CardRecord := { someRecord with cancelled := 3 }
    (s.slot 0 = .valid someRecord 100 0 1 ∧ r.cancelled.toNat ≠ 1 ∧ someRecord.cancelled.toNat = 1)
      ∧ NeedsCard 0 s ∧ Listed 0 r.series r.serial 0 someEntry s
      ∧ Unlisted 0 5 5 s ∧ (routedCall.ctx 0).state = .routed
      ∧ ¬NeedsCard 0 (modCtx 0 (fun c => { c with snap := some ⟨1, 1, 1, 0, true⟩ }) s) := by
  refine ⟨by decide, ?_, ⟨rfl, rfl, rfl, ?_⟩, ?_, rfl, ?_⟩
  · intro p h
    cases h
  · exact fun j hj => absurd hj (Nat.not_lt_zero j)
  · intro e he
    have he : e ∈ [someEntry] := he
    rw [List.mem_singleton] at he
    subst he
    decide
  · intro h
    have := h ⟨1, 1, 1, 0, true⟩ rfl
    cases this

/-- The cases of `CountTaken`: a record of this entry with nothing outstanding, and with a request on another one. -/
theorem test_witness_CountTaken :
    let s := modDebit 0 (fun d => { d with uncertain := some { entry := 0, before := 1, n := 8 } })
      (owing .swap State.reset)
    ((s.debit 0).outstanding = .none ∧ (s.debit 0).uncertain = some { entry := 0, before := 1, n := 8 }
        ∧ someEntry.countFault = false ∧ 1 ≤ 9 ∧ 9 ≤ 1 + 8 ∧ 1 + 8 < 10)
      ∧ ((asking .cancel s).debit 0).outstanding.ask = some ⟨0, 8, 1, false⟩
      ∧ ((modDebit 0 (fun d => { d with outstanding := .verify ⟨1, 8, 1, true⟩ }) s).debit 0).outstanding.ask
          = some ⟨1, 8, 1, true⟩ := by decide

theorem test_late_resolution_at_swap_credits_units :
    let s := modDebit 0 (fun d => { d with uncertain := some { entry := 0, before := 1, n := 8 } })
      (owing .swap State.reset)
    let t := takeCount 0 0 3 s
    ((t.debit 0).p, (t.debit 0).covered, (t.debit 0).uncertain) = (50, 200, none) := by decide +kernel

theorem test_done_confirms_three_units :
    (afterStep (exec (.done .west 1 7 4)
        (onLine (.cancel 8 2) (asking .cancel (calling .swap (mapped .inService State.reset)))))).map
      (fun t => ((t.debit 0).p, (t.debit 0).covered)) = some (300, 300) := by decide +kernel

theorem test_witness_EventsByRequest :
    ([.hookOff, .digit 5, .cardOut, .hookOn] : List BoothEvent).length ≤ 4
      ∧ (∀ e ∈ ([.hookOff, .digit 5, .cardOut, .hookOn] : List BoothEvent), e.parses = true)
      ∧ ((mapped .inService State.reset).boothLine 0).expectBit = false
      ∧ ({ openTx (.poll false) with probe := true } : Transaction).probe = true
      ∧ ((mapped .lost State.reset).boothLine 0).health = .lost := by decide

/-! ## Witnesses: calls -/

/-- A part ready to let a call in at booth 0. -/
def ready : State :=
  State.reset |> mapped .inService |> setPlan 0 ⟨0, 0, true⟩ |> setService .inService |> validFrame

theorem test_witness_HookOffAdmission :
    (ready.ctx 0).state = .free ∧ ready.mgmt.service = .inService ∧ ready.trunk.linkUp = true
      ∧ (ready.boothLine 0).health = .inService ∧ (ready.boothLine 0).mark = false
      ∧ (ready.route.plans.get (ready.entry 0).plan).enabled = true
      ∧ ready.ring.tickets.length + ready.ring.reserved < 512 ∧ ready.trunk.sigQueue.length < 64
      ∧ ¬(State.reset.mgmt.service = .inService)
      ∧ ¬((modRing (fun r => { r with reserved := 512 }) ready).ring.tickets.length
            + (modRing (fun r => { r with reserved := 512 }) ready).ring.reserved < 512)
      ∧ ¬((modTrunk (fun t => { t with sigQueue := List.replicate 64 (.seize 1) }) ready).trunk.sigQueue.length < 64) := by
  decide

/-- A call in DIALLING at the root, with entries for digits 0 to 4: BRANCH, EMPTY, BAR, a CARDLESS leaf. -/
def dialling : State :=
  ready |> calling .dialling |> setTreeEntry 0 0 (.branch 1023) |> setTreeEntry 0 2 .bar
    |> setTreeEntry 0 3 (.leaf 255 true) |> setClass 255 ⟨true, 1, 1, 0, true⟩

theorem test_witness_DigitWalksOneLevel :
    (dialling.ctx 0).state = .dialling ∧ (dialling.ctx 0).held = [] ∧ dialling.trunk.linkUp = true
      ∧ dialling.trunk.sigQueue.length < 64 ∧ dialling.route.cache = [] ∧ (dialling.ctx 0).depth < 7
      ∧ dialling.route.treeEntry 0 0 = .branch 1023 ∧ dialling.route.treeEntry 0 1 = .empty
      ∧ dialling.route.treeEntry 0 2 = .bar ∧ dialling.route.treeEntry 0 3 = .leaf 255 true
      ∧ (dialling.tariff.classRecord 255).defined = true ∧ (dialling.tariff.classRecord 255).cardless = true
      ∧ 7 ≤ ((modCtx 0 (fun c => { c with depth := 7 }) dialling).ctx 0).depth
      ∧ (let s := setCache [⟨[9], .common, 255, true⟩] dialling;
          s.route.cache.find? (fun x => decide (x.digits = [9])
            && (decide (x.scope = .common) || decide (x.scope = .tag 0))) = some ⟨[9], .common, 255, true⟩) := by
  decide

theorem test_cardless_leaf_is_routed_and_cached :
    let t := boothEvent 0 false (.digit 3) dialling
    (t.ctx 0).state = .routed ∧ t.route.cache = [⟨[3], .common, 255, true⟩]
      ∧ t.trunk.sigQueue = [.digit 0 3] := by decide +kernel

/-- A digit in DIALLING that waits: with the queue full, with digits held, with 20 held; and one lost with the link. -/
theorem test_witness_Forwarded :
    let full := modTrunk (fun t => { t with sigQueue := List.replicate 64 (.seize 1) }) dialling
    let holding := fun n => modCtx 0 (fun c => { c with held := List.replicate n 5 }) dialling
    ((full.ctx 0).held = [] ∧ full.trunk.linkUp = true ∧ 64 ≤ full.trunk.sigQueue.length)
      ∧ (((holding 1).ctx 0).held ≠ [] ∧ ((holding 19).ctx 0).held.length < 20 ∧ 20 ≤ ((holding 20).ctx 0).held.length)
      ∧ (modTrunk (fun t => { t with linkUp := false }) dialling).trunk.linkUp = false := by decide

theorem test_branch_digit_waits_for_room :
    let full := modTrunk (fun t => { t with sigQueue := List.replicate 64 (.seize 1) }) dialling
    let t := boothEvent 0 false (.digit 0) full
    ((t.ctx 0).state, (t.ctx 0).node, (t.ctx 0).held, t.trunk.waiting, t.trunk.sigQueue.length)
      = (.dialling, 1023, [0], [0], 64) := by decide +kernel

/-- Leaves that need a card, with the due amount on both sides of the card's value, and a leaf whose class is not
defined; `*`; a digit in CARD WAIT on both sides of 20; a digit after the leaf with the held list full, the link DOWN
and the queue full. -/
theorem test_witness_DigitWalksOneLevel_cards :
    let leaf := fun setup : Nat => dialling |> setTreeEntry 0 4 (.leaf 7 false) |> setClass 7 ⟨true, setup, 0, 0, false⟩
      |> setSlot 0 (.valid someRecord 100 0 1)
    let due := fun s : State => 900 - ((s.tariff.classRecord 7).setup + s.tariff.charge ⟨7, 0, 0, 0, false⟩ : Int)
    (due (leaf 900) = 0 ∧ due (leaf 901) < 0 ∧ (leaf 900).slot 0 = .valid someRecord 100 0 1
        ∧ (leaf 900).route.treeEntry 0 4 = .leaf 7 false)
      ∧ dialling.slot 0 = .empty ∧ (dialling.boothLine 0).health = .inService ∧ dialling.mgmt.faultHeld = none
      ∧ ((setTreeEntry 0 5 (.leaf 8 true) dialling).route.treeEntry 0 5 = .leaf 8 true
          ∧ (dialling.tariff.classRecord 8).defined = false)
      ∧ 10 ≤ (10 : Digit).val
      ∧ ((calling .cardWait ready).ctx 0).digits.length < 20
      ∧ 20 ≤ ((modCtx 0 (fun c => { c with digits := List.replicate 20 5 }) (calling .cardWait ready)).ctx 0).digits.length
      ∧ 20 ≤ ((modCtx 0 (fun c => { c with held := List.replicate 20 5 }) (calling .routed ready)).ctx 0).held.length
      ∧ (((calling .routed State.reset).ctx 0).held = [] ∧ State.reset.trunk.linkUp = false)
      ∧ (((calling .routed ready).ctx 0).held = [] ∧ ready.trunk.linkUp = true)
      ∧ 64 ≤ (modTrunk (fun t => { t with sigQueue := List.replicate 64 (.seize 1) }) ready).trunk.sigQueue.length := by
  decide

/-- A card that joins at the leaf digit with its warn threshold reached is told LOW CREDIT once; a SUSPECT booth without
a card is told INSERT CARD. -/
theorem test_leaf_signals :
    let leaf := dialling |> setTreeEntry 0 4 (.leaf 7 false) |> setClass 7 ⟨true, 1, 0, 0, false⟩
    let low := boothEvent 0 false (.digit 4) (setSlot 0 (.valid someRecord 100 9 1) leaf)
    let high := boothEvent 0 false (.digit 4) (setSlot 0 (.valid someRecord 100 8 1) leaf)
    let suspect := boothEvent 0 false (.digit 4) (modBoothLine 0 (fun l => { l with health := .suspect }) leaf)
    ((low.boothLine 0).signals, (low.debit 0).cards.map CardEntry.warned) = ([.lowCredit], [true])
      ∧ ((high.boothLine 0).signals, (high.debit 0).cards.map CardEntry.warned) = ([], [false])
      ∧ (suspect.boothLine 0).signals = [.insertCard] := by decide +kernel

theorem test_leaf_without_a_card_waits :
    let s := dialling |> setTreeEntry 0 4 (.leaf 7 false) |> setClass 7 ⟨true, 900, 0, 0, false⟩
    let t := boothEvent 0 false (.digit 4) s
    (t.ctx 0).state = .cardWait ∧ (t.ctx 0).held = [4] ∧ (t.boothLine 0).signals = [.insertCard] := by decide +kernel

def goodRecord : CardRecord := { someRecord with check := crc16 someRecord.body }

theorem test_witness_CardInIsValidated :
    let s := ready |> setSeries 31 { code := 1, state := .active, unitValue := 100, warn := 15 }
    s.slot 0 = .empty ∧ (s.ctx 0).state = .free ∧ (s.boothLine 0).cardNext = none
      ∧ s.line.west.transaction = none ∧ s.line.east.transaction = none ∧ (s.boothLine 0).health = .inService
      ∧ goodRecord.check = crc16 goodRecord.body ∧ someRecord.check ≠ crc16 someRecord.body
      ∧ (goodRecord.face ≠ 0 ∧ goodRecord.cancelled.toNat ≤ goodRecord.face.toNat
          ∧ 1 ≤ goodRecord.expiryMonth.toNat ∧ goodRecord.expiryMonth.toNat ≤ 12)
      ∧ s.tariff.clock.year < 2000 + goodRecord.expiryYear.toNat
      ∧ (s.card.series.get 31).code = goodRecord.series ∧ (s.card.series.get 31).state = .active
      ∧ (∀ j : Fin 32, j < 31 → (s.card.series.get j).code = goodRecord.series →
          (s.card.series.get j).state = .unused)
      ∧ goodRecord.cancelled.toNat < goodRecord.face.toNat
      ∧ (∀ k : Fin 32, (ready.card.series.get k).code = goodRecord.series → (ready.card.series.get k).state = .unused)
      ∧ s.card.stop.chain (bucketOf goodRecord.series goodRecord.serial) = []
      ∧ ((setStop { chains := [(9, [⟨1, 2, .retain⟩])], free := 4095 } s).card.stop.chain
          (bucketOf goodRecord.series goodRecord.serial)) = [⟨1, 2, .retain⟩] := by decide +kernel

/-- The checks between the third and the seventh, and a transaction open to another booth and on the other segment. -/
theorem test_witness_CardInIsValidated_checks :
    let s := ready |> setSeries 31 { code := 1, state := .withdrawn, unitValue := 100, warn := 15 }
      |> modSeg .west (fun x => { x with transaction := some { openTx .eject with booth := 1 } })
      |> modSeg .east (fun x => { x with transaction := some (openTx .eject) })
    NoActionWaits 0 s ∧ SeriesAt 31 1 s ∧ (s.card.series.get 31).state = .withdrawn
      ∧ SoundRecord someRecord ∧ ¬SoundRecord { someRecord with face := 0 } ∧ ¬SoundRecord { someRecord with cancelled := 11 }
      ∧ ¬SoundRecord { someRecord with expiryMonth := 13 }
      ∧ InDate someRecord s.tariff.clock ∧ InDate { someRecord with expiryYear := 0, expiryMonth := 1 } Clock.reset
      ∧ ¬InDate { someRecord with expiryYear := 0, expiryMonth := 1 } { Clock.reset with month := 2 }
      ∧ ({ someRecord with cancelled := 10 } : CardRecord).cancelled.toNat = someRecord.face.toNat := by
  refine ⟨⟨rfl, ?_⟩, ⟨rfl, by decide, by decide⟩, rfl, ?_⟩
  · intro tr h hb
    have h : some { openTx .eject with booth := 1 } = some tr := h
    injection h with h
    subst h
    exact absurd hb (by decide)
  · unfold SoundRecord InDate
    decide

/-- A card that a call in SWAP or ENDING can take: on its list and not, with room in the list and without. -/
theorem test_witness_CardInIsValidated_swap :
    let s := ready |> setSeries 31 { code := 1, state := .active, unitValue := 100, warn := 15 } |> calling .swap
    Acceptable goodRecord 100 15 s ∧ NeedsCard 0 s ∧ Unlisted 0 1 2 s ∧ (s.debit 0).cards.length < 4
      ∧ Listed 0 1 2 0 someEntry (modDebit 0 (fun d => { d with cards := List.replicate 4 someEntry }) s)
      ∧ ((calling .ending s).ctx 0).state = .ending := by
  refine ⟨⟨by decide, by decide +kernel, ?_, ?_, by decide, ⟨31, ?_, rfl, rfl, rfl⟩, ?_⟩, ?_, ?_, by decide,
    ⟨rfl, rfl, rfl, ?_⟩, rfl⟩
  · unfold SoundRecord; decide
  · unfold InDate; decide
  · exact ⟨rfl, by decide, by decide⟩
  · intro x hx
    cases hx
  · intro p h
    cases h
  · intro e he
    cases he
  · exact fun j hj => absurd hj (Nat.not_lt_zero j)

/-- A card of the list in ENDING with no uncertain record, one that is not of the list, and a CARDLESS call. -/
theorem test_witness_CardInIsValidated_ending :
    let s := setSlot 0 .empty (owing .ending ready)
    Listed 0 1 2 0 someEntry s ∧ (s.debit 0).uncertain = none ∧ NeedsCard 0 s ∧ Unlisted 0 1 3 s
      ∧ ¬NeedsCard 0 (modCtx 0 (fun c => { c with snap := some ⟨0, 0, 0, 0, true⟩ }) s) := by
  refine ⟨⟨rfl, rfl, rfl, fun j h => absurd h (Nat.not_lt_zero j)⟩, rfl, fun _ h => (by cases h), ?_, fun h => ?_⟩
  · intro e he
    cases List.mem_singleton.mp he
    decide
  · exact absurd (h _ rfl) (by decide)

/-- In ENDING a card of the list whose count has risen has it adopted. -/
theorem test_listed_card_in_ending_is_compared :
    let s := setSlot 0 .empty (owing .ending ready) |> setSeries 0 { code := 1, state := .active, unitValue := 100, warn := 0 }
    let r := { goodRecord with cancelled := 3 }
    let t := boothEvent 0 false (.cardIn { r with check := crc16 r.body }) s
    (t.debit 0).cards.map CardEntry.lastKnown = [3] ∧ (t.ctx 0).state = .ending := by decide +kernel

theorem test_new_card_brings_the_call_back :
    let s := ready |> setSeries 31 { code := 1, state := .active, unitValue := 100, warn := 15 } |> calling .swap
    let t := boothEvent 0 false (.cardIn goodRecord) s
    (t.ctx 0).state = .speech ∧ (t.debit 0).cards.length = 1 := by decide +kernel

/-- A card accepted in CARD WAIT, with the due amount at its worth of 900 and above it, held digits, the link UP and
DOWN; a fresh card at a slot not EMPTY, and one of another identity under the STATUS marker. -/
theorem test_witness_CardInIsValidated_wait :
    let snap := fun setup : Nat => ({ cls := 7, setup := setup, base := 0, profile := 0, cardless := false } : Snapshot)
    let s := fun setup : Nat => modCtx 0 (fun c => { c with snap := some (snap setup), held := [4, 5] })
      (calling .cardWait (setSeries 31 { code := 1, state := .active, unitValue := 100, warn := 15 } ready))
    (NeedsCard 0 (s 900) ∧ Acceptable goodRecord 100 15 (s 900) ∧ ((s 900).ctx 0).state = .cardWait
        ∧ ((s 900).ctx 0).snap = some (snap 900))
      ∧ (snap 900).setup + (s 900).tariff.charge (snap 900) = (10 - 1) * 100
      ∧ (snap 901).setup + (s 901).tariff.charge (snap 901) = (10 - 1) * 100 + 1
      ∧ (s 900).trunk.linkUp = true ∧ (modTrunk (fun x => { x with linkUp := false }) (s 900)).trunk.linkUp = false
      ∧ (owing .speech State.reset).slot 0 ≠ .empty
      ∧ ∀ r' v w l, (owing .speech State.reset).slot 0 = .valid r' v w l →
          ¬(r'.series = 5 ∧ r'.serial = goodRecord.serial) := by
  refine ⟨⟨?_, ⟨by decide, by decide +kernel, ?_, ?_, by decide, ⟨31, ?_, rfl, rfl, rfl⟩, ?_⟩, rfl, rfl⟩, by decide,
    by decide, rfl, rfl, by decide, ?_⟩
  · intro p h
    injection h with h
    subst h
    rfl
  · unfold SoundRecord; decide
  · unfold InDate; decide
  · exact ⟨rfl, by decide, by decide⟩
  · intro x hx
    cases hx
  · rintro _ _ _ _ h
    injection h with h
    subst h
    decide

theorem test_card_in_card_wait_releases_the_digits :
    let s := modCtx 0 (fun c => { c with snap := some ⟨7, 900, 0, 0, false⟩, held := [4, 5] })
      (calling .cardWait (setSeries 31 { code := 1, state := .active, unitValue := 100, warn := 15 } ready))
    let t := boothEvent 0 false (.cardIn goodRecord) s
    ((t.ctx 0).state, (t.ctx 0).held, t.trunk.sigQueue) = (.routed, [], [.digit 0 4, .digit 0 5]) := by
  decide +kernel

/-- CARD OUT: a REFUSED slot, a routed call's card, the current card in SPEECH and ENDING. -/
theorem test_witness_CardOut :
    ((setSlot 0 (.refused someRecord .check .eject) State.reset).slot 0 = .refused someRecord .check .eject)
      ∧ (routedCall.slot 0 = .valid someRecord 100 0 1 ∧ (routedCall.ctx 0).state = .routed)
      ∧ (owing .speech State.reset).currentCard 0 ≠ none ∧ ((owing .ending State.reset).ctx 0).state = .ending
      ∧ (modDebit 0 (fun d => { d with cards := [] }) (owing .speech State.reset)).currentCard 0 = none := by decide

theorem test_good_card_is_accepted :
    let s := ready |> setSeries 31 { code := 1, state := .active, unitValue := 100, warn := 15 }
    (boothEvent 0 false (.cardIn goodRecord) s).slot 0 = .valid goodRecord 100 15 1 := by decide +kernel

theorem test_witness_CallTimerExpiries :
    ((modCtx 0 (fun c => { c with state := .dialling, digitWait := some 1 }) State.reset).ctx 0).digitWait = some 1
      ∧ ((modCtx 0 (fun c => { c with state := .cardWait, cardWait := some 1 }) State.reset).ctx 0).cardWait = some 1
      ∧ (let s := modCtx 0 (fun c => { c with state := .swap, swapWindow := some (1, .credit) }) State.reset;
          (s.ctx 0).swapWindow = some (1, .credit) ∧ (s.debit 0).outstanding = .none ∧ 0 ≤ (s.debit 0).p
            ∧ ((asking .cancel s).debit 0).outstanding ≠ .none)
      ∧ ((calling .free State.reset).ctx 0).state ≠ .swap := by decide

theorem test_witness_TickCharges :
    let ticking := fun (p : Int) (s : State) => modDebit 0
      (fun d => { d with p := p, t := some 262136, nextTick := some 400 }) s
    ((ticking (-8388608) State.reset).debit 0).nextTick = some 400
      ∧ ((ticking 0 State.reset).debit 0).t = some 262136 ∧ State.reset.mgmt.limits.maxCall = 0
      ∧ ((ticking 0 (calling .swap State.reset)).ctx 0).state = .swap
      ∧ 0 ≤ max (-8388608) ((262136 : Int) - (262136 : Nat))
      ∧ ((ticking 0 { routedCall with ctxs := (calling .speech State.reset).ctxs }).currentCard 0
          = some (0, someEntry))
      ∧ ((ticking 0 routedCall).debit 0).outstanding = .none
      ∧ (let s := modDebit 0 (fun d => { d with duration := 600 })
            (modMgmt (fun m => { m with limits := { m.limits with maxCall := 1 } })
              (asking .cancel (calling .speech State.reset)));
          s.mgmt.limits.maxCall ≠ 0 ∧ s.mgmt.limits.maxCall * 600 ≤ (s.debit 0).duration
            ∧ (s.debit 0).outstanding ≠ .none)
      ∧ (let s := modDebit 0 (fun d => { d with duration := 599, t := some 0, nextTick := some 400 })
            (modMgmt (fun m => { m with limits := { m.limits with maxCall := 1 } }) (owing .speech State.reset));
          ¬(s.mgmt.limits.maxCall = 0 ∨ min 4294967295 ((s.debit 0).duration + 1) < s.mgmt.limits.maxCall * 600)
            ∧ (s.debit 0).outstanding = .none) := by decide

/-- The first clamp of a call and a later one. -/
theorem test_witness_TickCharges_reports :
    let s := fun old : Bool => modDebit 0
      (fun d => { d with p := -8388608, t := some 1, nextTick := some 400, debtReported := old }) (calling .swap State.reset)
    ((s false).debit 0).p - 1 < -8388608 ∧ ((s false).debit 0).debtReported = false
      ∧ ((s true).debit 0).debtReported = true ∧ (s false).mgmt.faultHeld = none := by decide

theorem test_first_clamp_is_reported :
    let s := fun old : Bool => modDebit 0
      (fun d => { d with p := -8388608, t := some 1, nextTick := some 400, debtReported := old }) (calling .swap State.reset)
    let kind := fun old => (afterStep (exec (.tick 0) (s old))).map fun t => t.mgmt.faultHeld.map FaultReport.kind
    kind false = some (some .debtSaturated) ∧ kind true = some none := by decide +kernel

theorem test_tick_at_the_limit_ends_the_call :
    let s := modDebit 0 (fun d => { d with p := 0, duration := 599, t := some 0, nextTick := some 400 })
      (modMgmt (fun m => { m with limits := { m.limits with maxCall := 1 } }) (owing .speech State.reset))
    (afterStep (exec (.tick 0) s)).map (fun t => ((t.ctx 0).endCause, t.ring.tickets.length))
      = some (some .timeLimit, 1) := by decide +kernel

/-- The ends of a boundary list, and the day types with a holiday on a Saturday. -/
theorem test_witness_TickChargeRounds :
    let list : List Boundary := [⟨480, 3⟩, ⟨1080, 1⟩]
    (bandAt [] 0, bandAt list 479, bandAt list 480, bandAt list 1079, bandAt list 1080, bandAt list 1439)
        = (0, 0, 3, 3, 1, 1)
      ∧ (let c := fun w : Fin 7 => { State.reset.tariff.clock with weekday := w }
        let today := some (c 5).date
        let holidays := State.reset.tariff.holidays
        (dayType holidays (c 4), dayType holidays (c 5), dayType holidays (c 6), dayType (holidays.set 31 today) (c 5))
          = (.weekday, .saturday, .sunday, .holiday)) := by decide

theorem test_witness_ClockAdvancesAndEvaluates :
    let at' := fun sec => setClock { Clock.reset with valid := true, second := sec } State.reset
    State.reset.tariff.clock.valid = false ∧ (at' 58).tariff.clock.second < 59 ∧ (at' 59).tariff.clock.second = 59
      ∧ (at' 59).tariff.clock.valid = true ∧ 31 = daysInMonth 2000 1 := by decide

theorem test_witness_SettingsChangeOnlyByTheirCommands :
    Instr.sync.writesSettings = false ∧ (Instr.restart 0 0 []).writesSettings = false
      ∧ exec .sync State.reset = .next (validFrame State.reset) := ⟨rfl, rfl, rfl⟩

theorem test_witness_HeldFaultIsFrozen :
    (reportFault .boothLost 0 0 [] none State.reset).mgmt.faultHeld = some ⟨.boothLost, 0, 0, [], none, Clock.reset⟩
      ∧ (Instr.faultRead 0 0 []).releasesFault = false := by decide

/-- The premise of every `StepKeeps` statement is met by the state after power-on (InvariantsHoldAtReset states it for
the provers); here some that are cheap to see. -/
theorem test_witness_StepKeeps :
    AccessKept State.reset ∧ SegmentsWithinLimit State.reset ∧ step State.reset = .next (idle State.reset) := by
  refine ⟨by unfold AccessKept; decide, fun g => ?_, rfl⟩
  cases g <;> decide

/-- The premise of BalanceKeepsItsFloor is met by a call with units asked for, up to the ceiling's own bound. -/
theorem test_witness_leavesBelow :
    ((asking .cancel (modDebit 0 (fun d => { d with p := -750 }) State.reset)).debit 0).leavesBelow 0 8
      ∧ ¬((asking .cancel (modDebit 0 (fun d => { d with p := -700 }) State.reset)).debit 0).leavesBelow 0 8 := by
  refine ⟨⟨someEntry, rfl, by decide⟩, ?_⟩
  rintro ⟨e, h, hlt⟩
  have h : some someEntry = some e := h
  injection h with h
  subst h
  exact absurd hlt (by decide)

end Sys2Proof.Tests
end

section
/-!
# The settings, power-on and the invariants at reset
-/

namespace Sys2Proof.Machine

/-! ## The settings are out of every event's reach -/

@[simp] theorem settings_modCtx (b : Booth) (f : Ctx → Ctx) (s : State) : (modCtx b f s).settings = s.settings := rfl
@[simp] theorem settings_modDebit (b : Booth) (f : Debit → Debit) (s : State) :
    (modDebit b f s).settings = s.settings := rfl
@[simp] theorem settings_setSlot (b : Booth) (x : CardSlot) (s : State) : (setSlot b x s).settings = s.settings := rfl
@[simp] theorem settings_modBoothLine (b : Booth) (f : BoothLine → BoothLine) (s : State) :
    (modBoothLine b f s).settings = s.settings := rfl
@[simp] theorem settings_modTrunk (f : Trunk → Trunk) (s : State) : (modTrunk f s).settings = s.settings := rfl
@[simp] theorem settings_modNotices (f : Notices → Notices) (s : State) : (modNotices f s).settings = s.settings := rfl
@[simp] theorem settings_setCache (c : List CacheEntry) (s : State) : (setCache c s).settings = s.settings := rfl
@[simp] theorem settings_reach (i : Instant) (s : State) : (reach i s).settings = s.settings := rfl
@[simp] theorem settings_bumpBy (c : CounterId) (n : Nat) (s : State) : (bumpBy c n s).settings = s.settings := rfl
@[simp] theorem settings_bump (c : CounterId) (s : State) : (bump c s).settings = s.settings := rfl

/-- An update of a segment that keeps its window codes changes no setting (R128). -/
theorem settings_modSeg {g : Segment} {f : SegLine → SegLine} (s : State)
    (h : ∀ x, (f x).replyCode = x.replyCode ∧ (f x).writeCode = x.writeCode) :
    (modSeg g f s).settings = s.settings := by
  cases g <;> simp [modSeg, State.settings, h]

/-- An update of the ring that keeps its high-water changes no setting (R162). -/
theorem settings_modRing {f : Ring → Ring} (s : State) (h : ∀ r, (f r).highWater = r.highWater) :
    (modRing f s).settings = s.settings := by
  simp [State.settings, h]

/-- An update of the Management Unit that keeps access sets and limits changes no setting (R167, R172). -/
theorem settings_modMgmt {f : Mgmt → Mgmt} (s : State)
    (h : ∀ m, (f m).access = m.access ∧ (f m).limits = m.limits) : (modMgmt f s).settings = s.settings := by
  simp [State.settings, h]

/-- Every elementary update of the part's events leaves the settings as they are. -/
theorem settings_closed (σ : Settings) : Closed fun s => s.settings = σ where
  ctx h := h
  debit h := h
  slot h := h
  line h := h
  trunk h := h
  notices h := h
  cache h := h
  reached h := h
  counter h := h
  seg hf h := (settings_modSeg _ hf).trans h
  ring hf h := (settings_modRing _ hf).trans h
  mgmt hf h := (settings_modMgmt _ fun m => ⟨(hf m).1, (hf m).2.1⟩).trans h
  fill _ h := h
  clock h := h
  zero h := h

/-- The Management Unit's part of RESTART writes no setting (R170). -/
theorem settings_restartManagement (s : State) : (restartManagement s).settings = s.settings := rfl

/-- FAULT CLEAR keeps the settings, for the record is none of them (R178). -/
theorem settings_faultClearOwner (s : State) : (faultClearOwner s).state.settings = s.settings := rfl

theorem restartOwner_closed {P : State → Prop} (C : Closed P) (hm : ∀ s, P s → P (restartManagement s)) {s : State}
    (hs : P s) : P (restartOwner s).state := by
  unfold restartOwner
  split
  · exact hs
  · exact carriedOut_closed C (restartPart_closed C hm hs)

end Sys2Proof.Machine

section
open Sys2Proof Sys2Proof.Machine

/-- Settles O51: every row that releases no fault is made of updates that keep the settings (`exec_closed`); FAULT CLEAR
and RESTART, which release the record, touch nothing of the Management Unit but the record, the service state and the
notices. -/
theorem settingsChangeOnlyByTheirCommands : Obligations.SettingsChangeOnlyByTheirCommands := by
  intro c s t hw he
  have C := settings_closed s.settings
  cases hf : c.releasesFault with
  | false => exact exec_closed C hw hf rfl he
  | true =>
    cases c <;> simp only [Instr.releasesFault, Bool.false_eq_true] at hf
    case powerOn => simp [Instr.writesSettings] at hw
    case faultClear o g args =>
      injection he with he
      subst he
      exact takeCommand_closed C (fun u h => (settings_faultClearOwner u).trans h) rfl
    case restart o g args =>
      injection he with he
      subst he
      exact takeCommand_closed C (fun _ h => restartOwner_closed C (fun u h => (settings_restartManagement u).trans h) h) rfl

end
end

section
/-!
# Power-on values and the invariants at reset
-/

namespace Sys2Proof.Machine

/-! ## What each booth and each table reads after power-on -/

theorem get_replicate {α : Type} {n : Nat} (x : α) (i : Fin n) : (Vector.replicate n x).get i = x := by
  rw [Vector.get_eq_getElem, Vector.getElem_replicate]

theorem get_ofFn {α : Type} {n : Nat} (f : Fin n → α) (i : Fin n) : (Vector.ofFn f).get i = f i := by
  rw [Vector.get_eq_getElem, Vector.getElem_ofFn]

theorem ctx_reset (b : Booth) : State.reset.ctx b = Ctx.reset := get_replicate _ b
theorem debit_reset (b : Booth) : State.reset.debit b = Debit.reset := get_replicate _ b
theorem slot_reset (b : Booth) : State.reset.slot b = .empty := get_replicate _ b
theorem entry_reset (b : Booth) : State.reset.entry b = MapEntry.reset := get_replicate _ b
theorem boothLine_reset (b : Booth) : State.reset.boothLine b = BoothLine.reset := get_replicate _ b
theorem seg_reset (g : Segment) : State.reset.seg g = SegLine.reset := by cases g <;> rfl

theorem plan_reset (p : Fin 8) : State.reset.route.plans.get p = Plan.reset p := get_ofFn _ p

theorem access_reset (g : Group) : State.reset.mgmt.access.get g.index = if g = .access then 1#16 else 65535#16 := by
  cases g <;> decide

/-- Every counter of a group that holds only zeros reads 0, and so does a place the group does not have. -/
theorem counter_reset (c : CounterId) : State.reset.counter c = 0 := by
  change (countersReset.get c.1).getD c.2 0 = 0
  rw [countersReset, get_ofFn, List.getD_eq_getElem?_getD, List.getElem?_replicate]
  split <;> rfl

/-! ## The invariants after power-on -/

theorem accessKept_reset : AccessKept State.reset := by
  rw [AccessKept, access_reset]
  decide

/-- No booth is enabled after power-on, so no two of them clash. -/
theorem mapUnique_reset : MapUnique State.reset := by
  intro b c _ hb
  rw [entry_reset] at hb
  cases hb

theorem segmentsWithinLimit_reset : SegmentsWithinLimit State.reset := by
  intro g
  simp [entry_reset, MapEntry.reset]

theorem stopListSound_reset : StopListSound State.reset :=
  ⟨rfl, fun _ _ h => (List.not_mem_nil h).elim, rfl⟩

theorem reservationsKept_reset : ReservationsKept State.reset := by
  have idle : State.reset.busy = 0 := by simp [State.busy, ctx_reset, Ctx.reset]
  exact ⟨idle.symm, by decide⟩

theorem queuesBounded_reset : QueuesBounded State.reset := by
  refine ⟨by decide, by decide, by decide, fun b => ?_⟩
  rw [boothLine_reset]
  decide

theorem countersBounded_reset : CountersBounded State.reset := by
  intro g n hn
  change n ∈ countersReset.get g at hn
  rw [countersReset, get_ofFn] at hn
  rw [List.eq_of_mem_replicate hn]
  exact Nat.zero_le _

theorem chargesInRange_reset : ChargesInRange State.reset := by
  refine ⟨fun _ _ h => (List.not_mem_nil h).elim, fun b p h => ?_, fun b => ?_⟩
  · rw [ctx_reset] at h
    cases h
  · rw [debit_reset]
    decide

theorem balanceExplained_reset : BalanceExplained State.reset := by
  intro b
  rw [debit_reset, ctx_reset]
  exact ⟨fun _ => rfl, fun h => by cases h⟩

/-- No card, no request and no uncertain record stands after power-on. -/
theorem balanceCeiling_reset : BalanceCeiling State.reset := by
  refine ⟨fun k => ?_, fun b => ?_⟩
  · rw [show State.reset.card.series.get k = SeriesRecord.reset from get_replicate _ k]
    decide
  · rw [debit_reset, ctx_reset, slot_reset]
    refine ⟨by decide, nofun, nofun, fun _ _ => ⟨rfl, rfl⟩, nofun, nofun⟩

end Sys2Proof.Machine

section
open Sys2Proof Sys2Proof.Machine

/-- Settles O3, block by block. -/
theorem powerOnValues : Obligations.PowerOnValues := by
  refine ⟨fun _ => rfl, ctx_reset, debit_reset, slot_reset, entry_reset, boothLine_reset, fun _ _ => rfl, ?_, rfl,
    fun _ => rfl, ?_, get_replicate _, get_replicate _, rfl, get_replicate _, fun _ => rfl, rfl, seg_reset, rfl, rfl,
    rfl, rfl, rfl, rfl, get_replicate _, rfl, rfl, rfl, rfl, ?_, access_reset .access, rfl, rfl, rfl, rfl, rfl,
    counter_reset⟩
  · intro p
    rw [plan_reset]
    exact ⟨rfl, rfl, rfl⟩
  · intro p b
    change ((Vector.replicate 4 (Vector.replicate 6 16384#16)).get p).get b = 16384#16
    rw [get_replicate, get_replicate]
  · intro g hg
    rw [access_reset, if_neg hg]

/-- Settles O60, one invariant at a time. -/
theorem invariantsHoldAtReset : Obligations.InvariantsHoldAtReset :=
  ⟨accessKept_reset, mapUnique_reset, ⟨by decide, .nil⟩, stopListSound_reset, reservationsKept_reset,
    queuesBounded_reset, countersBounded_reset, ⟨rfl, rfl, rfl⟩, chargesInRange_reset, balanceExplained_reset,
    segmentsWithinLimit_reset, balanceCeiling_reset⟩

end
end

section
/-!
# What the shared operations of a call do

Each operation on a booth's line is one update of it, each offer of a freed slot touches held digits and the Trunk
Port alone, and the test for the end of a drain touches the service state and the lines alone. The ends of calls are
assembled from these.
-/

namespace Sys2Proof.Machine

/-! ## Updates of one part, put together -/

theorem modCtx_modCtx (b : Booth) (f g : Ctx → Ctx) (s : State) :
    modCtx b f (modCtx b g s) = modCtx b (fun c => f (g c)) s := by
  simp [modCtx, get_set]

theorem modDebit_modDebit (b : Booth) (f g : Debit → Debit) (s : State) :
    modDebit b f (modDebit b g s) = modDebit b (fun d => f (g d)) s := by
  simp [modDebit, get_set]

theorem modBoothLine_modBoothLine (b : Booth) (f g : BoothLine → BoothLine) (s : State) :
    modBoothLine b f (modBoothLine b g s) = modBoothLine b (fun l => f (g l)) s := by
  simp [modBoothLine, get_set]

theorem modCtx_congr {b : Booth} {f g : Ctx → Ctx} {s : State} (h : f (s.ctx b) = g (s.ctx b)) :
    modCtx b f s = modCtx b g s := by
  unfold modCtx
  rw [show f (s.ctxs.get b) = g (s.ctxs.get b) from h]

theorem modDebit_congr {b : Booth} {f g : Debit → Debit} {s : State} (h : f (s.debit b) = g (s.debit b)) :
    modDebit b f s = modDebit b g s := by
  unfold modDebit
  rw [show f (s.debits.get b) = g (s.debits.get b) from h]

theorem modBoothLine_congr {b : Booth} {f g : BoothLine → BoothLine} {s : State}
    (h : f (s.boothLine b) = g (s.boothLine b)) : modBoothLine b f s = modBoothLine b g s := by
  unfold modBoothLine
  rw [show f (s.line.booths.get b) = g (s.line.booths.get b) from h]

theorem modCtx_of_fixed {b : Booth} {f : Ctx → Ctx} {s : State} (h : f (s.ctx b) = s.ctx b) : modCtx b f s = s := by
  unfold modCtx
  rw [show f (s.ctxs.get b) = s.ctxs.get b from h]
  simp [Vector.get_eq_getElem]

theorem modBoothLine_of_fixed {b : Booth} {f : BoothLine → BoothLine} {s : State}
    (h : f (s.boothLine b) = s.boothLine b) : modBoothLine b f s = s := by
  unfold modBoothLine
  rw [show f (s.line.booths.get b) = s.line.booths.get b from h]
  simp [Vector.get_eq_getElem]

theorem ctx_modCtx_ne {b x : Booth} (h : x ≠ b) (f : Ctx → Ctx) (s : State) : (modCtx b f s).ctx x = s.ctx x := by
  rw [ctx_modCtx, if_neg h.symm]

theorem debit_modDebit_ne {b x : Booth} (h : x ≠ b) (f : Debit → Debit) (s : State) :
    (modDebit b f s).debit x = s.debit x := by
  rw [debit_modDebit, if_neg h.symm]

theorem slot_setSlot_ne {b x : Booth} (h : x ≠ b) (y : CardSlot) (s : State) : (setSlot b y s).slot x = s.slot x := by
  rw [slot_setSlot, if_neg h.symm]

theorem boothLine_modBoothLine_ne {b x : Booth} (h : x ≠ b) (f : BoothLine → BoothLine) (s : State) :
    (modBoothLine b f s).boothLine x = s.boothLine x := by
  rw [boothLine_modBoothLine, if_neg h.symm]

/-! ## What an update of one part leaves of a booth -/

@[simp] theorem ctx_modDebit (b : Booth) (f : Debit → Debit) (s : State) (x : Booth) :
    (modDebit b f s).ctx x = s.ctx x := rfl
@[simp] theorem ctx_setSlot (b : Booth) (y : CardSlot) (s : State) (x : Booth) : (setSlot b y s).ctx x = s.ctx x := rfl
@[simp] theorem ctx_modBoothLine (b : Booth) (f : BoothLine → BoothLine) (s : State) (x : Booth) :
    (modBoothLine b f s).ctx x = s.ctx x := rfl
@[simp] theorem ctx_modTrunk (f : Trunk → Trunk) (s : State) (x : Booth) : (modTrunk f s).ctx x = s.ctx x := rfl
@[simp] theorem ctx_modRing (f : Ring → Ring) (s : State) (x : Booth) : (modRing f s).ctx x = s.ctx x := rfl
@[simp] theorem ctx_modMgmt (f : Mgmt → Mgmt) (s : State) (x : Booth) : (modMgmt f s).ctx x = s.ctx x := rfl
@[simp] theorem ctx_modNotices (f : Notices → Notices) (s : State) (x : Booth) : (modNotices f s).ctx x = s.ctx x := rfl
@[simp] theorem ctx_setCache (c : List CacheEntry) (s : State) (x : Booth) : (setCache c s).ctx x = s.ctx x := rfl
@[simp] theorem ctx_reach (i : Instant) (s : State) (x : Booth) : (reach i s).ctx x = s.ctx x := rfl
@[simp] theorem ctx_bumpBy (c : CounterId) (n : Nat) (s : State) (x : Booth) : (bumpBy c n s).ctx x = s.ctx x := rfl
@[simp] theorem ctx_bump (c : CounterId) (s : State) (x : Booth) : (bump c s).ctx x = s.ctx x := rfl

@[simp] theorem debit_modCtx (b : Booth) (f : Ctx → Ctx) (s : State) (x : Booth) :
    (modCtx b f s).debit x = s.debit x := rfl
@[simp] theorem debit_setSlot (b : Booth) (y : CardSlot) (s : State) (x : Booth) :
    (setSlot b y s).debit x = s.debit x := rfl
@[simp] theorem debit_modBoothLine (b : Booth) (f : BoothLine → BoothLine) (s : State) (x : Booth) :
    (modBoothLine b f s).debit x = s.debit x := rfl
@[simp] theorem debit_modTrunk (f : Trunk → Trunk) (s : State) (x : Booth) : (modTrunk f s).debit x = s.debit x := rfl
@[simp] theorem debit_modRing (f : Ring → Ring) (s : State) (x : Booth) : (modRing f s).debit x = s.debit x := rfl
@[simp] theorem debit_modMgmt (f : Mgmt → Mgmt) (s : State) (x : Booth) : (modMgmt f s).debit x = s.debit x := rfl
@[simp] theorem debit_modNotices (f : Notices → Notices) (s : State) (x : Booth) :
    (modNotices f s).debit x = s.debit x := rfl
@[simp] theorem debit_setCache (c : List CacheEntry) (s : State) (x : Booth) : (setCache c s).debit x = s.debit x := rfl
@[simp] theorem debit_reach (i : Instant) (s : State) (x : Booth) : (reach i s).debit x = s.debit x := rfl
@[simp] theorem debit_bumpBy (c : CounterId) (n : Nat) (s : State) (x : Booth) :
    (bumpBy c n s).debit x = s.debit x := rfl
@[simp] theorem debit_bump (c : CounterId) (s : State) (x : Booth) : (bump c s).debit x = s.debit x := rfl

@[simp] theorem slot_modCtx (b : Booth) (f : Ctx → Ctx) (s : State) (x : Booth) :
    (modCtx b f s).slot x = s.slot x := rfl
@[simp] theorem slot_modDebit (b : Booth) (f : Debit → Debit) (s : State) (x : Booth) :
    (modDebit b f s).slot x = s.slot x := rfl
@[simp] theorem slot_modBoothLine (b : Booth) (f : BoothLine → BoothLine) (s : State) (x : Booth) :
    (modBoothLine b f s).slot x = s.slot x := rfl
@[simp] theorem slot_modTrunk (f : Trunk → Trunk) (s : State) (x : Booth) : (modTrunk f s).slot x = s.slot x := rfl
@[simp] theorem slot_modRing (f : Ring → Ring) (s : State) (x : Booth) : (modRing f s).slot x = s.slot x := rfl
@[simp] theorem slot_modMgmt (f : Mgmt → Mgmt) (s : State) (x : Booth) : (modMgmt f s).slot x = s.slot x := rfl
@[simp] theorem slot_modNotices (f : Notices → Notices) (s : State) (x : Booth) :
    (modNotices f s).slot x = s.slot x := rfl
@[simp] theorem slot_setCache (c : List CacheEntry) (s : State) (x : Booth) : (setCache c s).slot x = s.slot x := rfl
@[simp] theorem slot_reach (i : Instant) (s : State) (x : Booth) : (reach i s).slot x = s.slot x := rfl
@[simp] theorem slot_bumpBy (c : CounterId) (n : Nat) (s : State) (x : Booth) : (bumpBy c n s).slot x = s.slot x := rfl
@[simp] theorem slot_bump (c : CounterId) (s : State) (x : Booth) : (bump c s).slot x = s.slot x := rfl

@[simp] theorem entry_modCtx (b : Booth) (f : Ctx → Ctx) (s : State) (x : Booth) :
    (modCtx b f s).entry x = s.entry x := rfl
@[simp] theorem entry_modDebit (b : Booth) (f : Debit → Debit) (s : State) (x : Booth) :
    (modDebit b f s).entry x = s.entry x := rfl
@[simp] theorem entry_setSlot (b : Booth) (y : CardSlot) (s : State) (x : Booth) :
    (setSlot b y s).entry x = s.entry x := rfl
@[simp] theorem entry_modBoothLine (b : Booth) (f : BoothLine → BoothLine) (s : State) (x : Booth) :
    (modBoothLine b f s).entry x = s.entry x := rfl
@[simp] theorem entry_modTrunk (f : Trunk → Trunk) (s : State) (x : Booth) : (modTrunk f s).entry x = s.entry x := rfl
@[simp] theorem entry_modRing (f : Ring → Ring) (s : State) (x : Booth) : (modRing f s).entry x = s.entry x := rfl
@[simp] theorem entry_modMgmt (f : Mgmt → Mgmt) (s : State) (x : Booth) : (modMgmt f s).entry x = s.entry x := rfl
@[simp] theorem entry_modNotices (f : Notices → Notices) (s : State) (x : Booth) :
    (modNotices f s).entry x = s.entry x := rfl
@[simp] theorem entry_setCache (c : List CacheEntry) (s : State) (x : Booth) : (setCache c s).entry x = s.entry x := rfl
@[simp] theorem entry_reach (i : Instant) (s : State) (x : Booth) : (reach i s).entry x = s.entry x := rfl
@[simp] theorem entry_bumpBy (c : CounterId) (n : Nat) (s : State) (x : Booth) :
    (bumpBy c n s).entry x = s.entry x := rfl
@[simp] theorem entry_bump (c : CounterId) (s : State) (x : Booth) : (bump c s).entry x = s.entry x := rfl

@[simp] theorem boothLine_modCtx (b : Booth) (f : Ctx → Ctx) (s : State) (x : Booth) :
    (modCtx b f s).boothLine x = s.boothLine x := rfl
@[simp] theorem boothLine_modDebit (b : Booth) (f : Debit → Debit) (s : State) (x : Booth) :
    (modDebit b f s).boothLine x = s.boothLine x := rfl
@[simp] theorem boothLine_setSlot (b : Booth) (y : CardSlot) (s : State) (x : Booth) :
    (setSlot b y s).boothLine x = s.boothLine x := rfl
@[simp] theorem boothLine_modTrunk (f : Trunk → Trunk) (s : State) (x : Booth) :
    (modTrunk f s).boothLine x = s.boothLine x := rfl
@[simp] theorem boothLine_modRing (f : Ring → Ring) (s : State) (x : Booth) :
    (modRing f s).boothLine x = s.boothLine x := rfl
@[simp] theorem boothLine_modMgmt (f : Mgmt → Mgmt) (s : State) (x : Booth) :
    (modMgmt f s).boothLine x = s.boothLine x := rfl
@[simp] theorem boothLine_modNotices (f : Notices → Notices) (s : State) (x : Booth) :
    (modNotices f s).boothLine x = s.boothLine x := rfl
@[simp] theorem boothLine_setCache (c : List CacheEntry) (s : State) (x : Booth) :
    (setCache c s).boothLine x = s.boothLine x := rfl
@[simp] theorem boothLine_reach (i : Instant) (s : State) (x : Booth) : (reach i s).boothLine x = s.boothLine x := rfl
@[simp] theorem boothLine_bumpBy (c : CounterId) (n : Nat) (s : State) (x : Booth) :
    (bumpBy c n s).boothLine x = s.boothLine x := rfl
@[simp] theorem boothLine_bump (c : CounterId) (s : State) (x : Booth) : (bump c s).boothLine x = s.boothLine x := rfl

/-! ## Posting to a booth's line (R135, R136) -/

theorem takesWork_iff (h : Health) : h.takesWork = true ↔ ¬(h = .lost ∨ h = .disabled) := by
  cases h <;> decide

theorem reachable_iff (h : Health) : h.reachable = true ↔ h = .inService ∨ h = .suspect := by
  cases h <;> decide

/-- A post is an update of the booth's line that a booth which takes no work is spared. -/
theorem postTo_eq (b : Booth) (f : BoothLine → BoothLine) (s : State) :
    postTo b f s = modBoothLine b (fun l => if l.health.takesWork then f l else l) s := by
  unfold postTo
  split
  · next h => exact modBoothLine_congr (if_pos h).symm
  · next h => exact (modBoothLine_of_fixed (if_neg h)).symm

theorem toldLine_some (sig : Signal) (l : BoothLine) :
    toldLine (some sig) l = if l.health.takesWork then { l with signals := joinSignal sig l.signals } else l := by
  by_cases h : l.health = .lost ∨ l.health = .disabled
  · rw [if_neg (fun hw => (takesWork_iff _).mp hw h)]
    exact if_pos h
  · rw [if_pos ((takesWork_iff _).mpr h)]
    exact if_neg h

theorem postSignal_eq (b : Booth) (sig : Signal) (s : State) :
    postSignal b sig s = modBoothLine b (toldLine (some sig)) s := by
  unfold postSignal
  rw [postTo_eq]
  exact modBoothLine_congr (toldLine_some sig _).symm

/-- R11's table of signals, as the model and as the statements read it. -/
theorem endSignal_eq (cause : EndCause) : endSignal cause = cause.signal := by
  cases cause <;> rfl

/-- A take-out mark is honoured, where there is one (R11 step 9, R17 step 5). -/
theorem honourMark_eq (b : Booth) (s : State) : honourMark b s = modBoothLine b lineAtCallEnd s := by
  unfold honourMark enterTaken
  split
  · next h =>
    rw [postSignal_eq, modBoothLine_modBoothLine]
    exact modBoothLine_congr (((toldLine_some _ _).trans (if_pos rfl)).trans (if_pos h).symm)
  · next h => exact (modBoothLine_of_fixed (if_neg h)).symm

/-! ## Offers of a freed slot (R147) -/

/-- Offers of freed slots lead from s to t: held digits of booths that waited have joined the signalling queue or, with
the link DOWN, were lost. -/
structure SlotsOffered (s t : State) : Prop where
  calls : ∀ x, t.ctx x = { s.ctx x with held := (t.ctx x).held }
  queue : s.trunk.sigQueue <+: t.trunk.sigQueue
  origin : ∀ f ∈ t.trunk.sigQueue, f ∈ s.trunk.sigQueue ∨ ∃ x ∈ s.trunk.waiting, f.channel = (s.entry x).channel
  waits : ∀ x ∈ t.trunk.waiting, x ∈ s.trunk.waiting
  trunk : t.trunk = { s.trunk with sigQueue := t.trunk.sigQueue, waiting := t.trunk.waiting }
  groups : ∀ g : Fin 12, g ≠ 8 → t.counters.get g = s.counters.get g
  rest : t = { s with ctxs := t.ctxs, trunk := t.trunk, counters := t.counters }

theorem SlotsOffered.refl (s : State) : SlotsOffered s s where
  calls _ := rfl
  queue := List.prefix_rfl
  origin _ h := Or.inl h
  waits _ h := h
  trunk := rfl
  groups _ _ := rfl
  rest := rfl

theorem SlotsOffered.entry {s t : State} (h : SlotsOffered s t) (x : Booth) : t.entry x = s.entry x := by
  rw [h.rest]
  rfl

theorem SlotsOffered.trans {s t u : State} (h : SlotsOffered s t) (k : SlotsOffered t u) : SlotsOffered s u where
  calls x := by
    have := k.calls x
    rw [h.calls x] at this
    exact this
  queue := h.queue.trans k.queue
  origin f hf := by
    rcases k.origin f hf with hq | ⟨x, hx, hc⟩
    · exact h.origin f hq
    · exact Or.inr ⟨x, h.waits x hx, by rw [hc, h.entry x]⟩
  waits x hx := h.waits x (k.waits x hx)
  trunk := by
    have := k.trunk
    rw [h.trunk] at this
    exact this
  groups g hg := (k.groups g hg).trans (h.groups g hg)
  rest := by
    have := k.rest
    rw [h.rest] at this
    exact this

/-- A count moves no counter of another group. -/
theorem group_bumpBy_ne {c : CounterId} {g : Fin 12} (h : c.1 ≠ g) (n : Nat) (s : State) :
    (bumpBy c n s).counters.get g = s.counters.get g := by
  rw [bumpBy_counters, get_set, if_neg h]

/-- A booth whose held list is empty leaves the waiting list. -/
theorem slotsOffered_shorten {s : State} {rest : List Booth} (h : ∀ x ∈ rest, x ∈ s.trunk.waiting) :
    SlotsOffered s (modTrunk (fun t => { t with waiting := rest }) s) where
  calls _ := rfl
  queue := List.prefix_rfl
  origin _ h := Or.inl h
  waits := h
  trunk := rfl
  groups _ _ := rfl
  rest := rfl

/-- The oldest held digit of a waiting booth is offered to the signalling queue. -/
theorem slotsOffered_digit {s : State} {b : Booth} (d : Digit) (ds : List Digit) (hb : b ∈ s.trunk.waiting) :
    SlotsOffered s (queueSig (.digit (s.entry b).channel d) (modCtx b (fun c => { c with held := ds }) s)) := by
  have calls : ∀ x, (modCtx b (fun c => { c with held := ds }) s).ctx x =
      { s.ctx x with held := ((modCtx b (fun c => { c with held := ds }) s).ctx x).held } := by
    intro x
    by_cases hx : b = x
    · subst hx
      simp
    · rw [ctx_modCtx, if_neg hx]
  unfold queueSig
  split
  · exact {
      calls := calls
      queue := List.prefix_append _ _
      origin := fun f hf => (List.mem_append.mp hf).imp_right fun hf =>
        ⟨b, hb, congrArg SigFrame.channel (List.mem_singleton.mp hf)⟩
      waits := fun _ h => h
      trunk := rfl
      groups := fun _ _ => rfl
      rest := rfl }
  · exact {
      calls := calls
      queue := List.prefix_rfl
      origin := fun _ h => Or.inl h
      waits := fun _ h => h
      trunk := rfl
      groups := fun _ hg => group_bumpBy_ne hg.symm 1 _
      rest := rfl }

theorem slotsOffered_offerSlot (s : State) : SlotsOffered s (offerSlot s) := by
  unfold offerSlot
  split
  · exact .refl s
  · next b rest hw =>
    have hb : b ∈ s.trunk.waiting := hw ▸ List.mem_cons_self ..
    have hrest : ∀ x ∈ rest, x ∈ s.trunk.waiting := fun x hx => hw ▸ List.mem_cons_of_mem _ hx
    split
    · exact slotsOffered_shorten hrest
    · next d ds _ =>
      have hd := slotsOffered_digit d ds hb
      refine hd.trans (slotsOffered_shorten fun x hx => ?_)
      have kept : (queueSig (.digit (s.entry b).channel d)
          (modCtx b (fun c => { c with held := ds }) s)).trunk.waiting = s.trunk.waiting := by
        unfold queueSig
        split <;> rfl
      rw [kept]
      split at hx
      · exact hrest x hx
      · rcases List.mem_append.mp hx with hx | hx
        · exact hrest x hx
        · exact List.mem_singleton.mp hx ▸ hb

theorem slotsOffered_fuel (n : Nat) (s : State) : SlotsOffered s (offerSlotsFuel n s) := by
  induction n generalizing s with
  | zero => exact .refl s
  | succ n ih =>
    unfold offerSlotsFuel
    split
    · exact (slotsOffered_offerSlot s).trans (ih _)
    · exact .refl s

theorem slotsOffered_offerSlots (s : State) : SlotsOffered s (offerSlots s) := slotsOffered_fuel _ s

/-! ## The release of a channel (R148) -/

/-- The release of booth b's channel in full: `ChannelReleased` and what it leaves of the rest. -/
structure ChannelFreed (b : Booth) (owes : Prop) (s t : State) : Prop extends ChannelReleased b owes s t where
  calls : ∀ x, t.ctx x = { s.ctx x with held := (t.ctx x).held }
  origin : ∀ f ∈ t.trunk.sigQueue, f.channel = (s.entry b).channel → ∃ x, x ≠ b ∧ f.channel = (s.entry x).channel
  groups : ∀ g : Fin 12, g ≠ 8 → t.counters.get g = s.counters.get g
  frame : t = { s with ctxs := t.ctxs, trunk := t.trunk, counters := t.counters }

/-- The frames of a channel hold its SEIZE just when the queue does. -/
theorem any_isSeize_iff (ch : Channel) (q : List SigFrame) :
    (q.filter fun f => decide (f.channel = ch)).any SigFrame.isSeize = true ↔ .seize ch ∈ q := by
  simp only [List.any_eq_true, List.mem_filter, decide_eq_true_eq]
  constructor
  · rintro ⟨f, ⟨hf, hc⟩, hs⟩
    cases f with
    | seize c => exact (show c = ch from hc) ▸ hf
    | digit c d => cases hs
  · exact fun h => ⟨_, ⟨h, rfl⟩, rfl⟩

theorem oweHangup_up {s : State} (ch : Channel) (h : s.trunk.linkUp = true) :
    oweHangup ch s = { s with trunk := { s.trunk with hangupOwed := s.trunk.hangupOwed.set ch.val true ch.isLt } } :=
  if_pos h

theorem oweHangup_down {s : State} (ch : Channel) (h : s.trunk.linkUp = false) :
    oweHangup ch s = bump Ctr.hangupsDiscarded s := if_neg (by rw [h]; decide)

/-- The state before the offers of a release, with HANGUP owed or not. -/
def channelWithdrawn (b : Booth) (s : State) : State :=
  s |> modTrunk (fun t => { t with sigQueue := t.sigQueue.filter fun f => !decide (f.channel = (s.entry b).channel) })
    |> leaveWaiting b
    |> bumpBy Ctr.framesWithdrawn (s.trunk.sigQueue.filter fun f => decide (f.channel = (s.entry b).channel)).length

/-- Offers made after the withdrawal, on a state w that differs from it in the hangup-owed set and the counters of the
Trunk Port alone, complete the release. -/
theorem channelFreed_of_offers {b : Booth} {owes : Prop} {s w t : State} {owed : Vector Bool 64}
    (ht : SlotsOffered w t)
    (hw : w = { channelWithdrawn b s with
      trunk := { (channelWithdrawn b s).trunk with hangupOwed := owed }, counters := w.counters })
    (hc : ∀ g : Fin 12, g ≠ 8 → w.counters.get g = (channelWithdrawn b s).counters.get g)
    (howed : owes → s.trunk.linkUp = true → .seize (s.entry b).channel ∉ s.trunk.sigQueue →
      owed = s.trunk.hangupOwed.set (s.entry b).channel.val true (s.entry b).channel.isLt)
    (hunowed : (¬owes ∨ s.trunk.linkUp = false ∨ .seize (s.entry b).channel ∈ s.trunk.sigQueue) →
      owed = s.trunk.hangupOwed) : ChannelFreed b owes s t := by
  have trunk : w.trunk = { s.trunk with
      sigQueue := s.trunk.sigQueue.filter fun f => !decide (f.channel = (s.entry b).channel)
      waiting := s.trunk.waiting.filter fun x => !decide (x = b)
      hangupOwed := owed } := by rw [hw]; rfl
  have entry : ∀ x, w.entry x = s.entry x := fun x => by rw [hw]; rfl
  have ctx : ∀ x, w.ctx x = s.ctx x := fun x => by rw [hw]; rfl
  have tt := ht.trunk
  rw [trunk] at tt
  have gone : ∀ x ∈ w.trunk.waiting, x ≠ b := by
    rw [trunk]
    simp
  exact {
    owed := fun h1 h2 h3 => by rw [tt]; exact howed h1 h2 h3
    unowed := fun h => by rw [tt]; exact hunowed h
    withdrawn := by
      have := ht.queue
      rwa [trunk] at this
    waits := fun h => gone b (ht.waits b h) rfl
    rest := by
      have hh : t.trunk.hangupOwed = owed := by rw [tt]
      rw [hh]
      exact tt
    calls := fun x => by rw [← ctx x]; exact ht.calls x
    origin := by
      intro f hf hch
      rcases ht.origin f hf with hq | ⟨x, hx, hc⟩
      · rw [trunk] at hq
        simp [hch] at hq
      · exact ⟨x, gone x hx, by rw [hc, entry]⟩
    groups := fun g hg => ((ht.groups g hg).trans (hc g hg)).trans (group_bumpBy_ne hg.symm _ _)
    frame := by
      have hr := ht.rest
      rw [hw] at hr
      exact hr }

theorem channelFreed_releaseChannel (b : Booth) (owe : Bool) (s : State) :
    ChannelFreed b (owe = true) s (releaseChannel b owe s) := by
  have unfolded : releaseChannel b owe s = offerSlots
      (if owe && !(s.trunk.sigQueue.filter fun f => decide (f.channel = (s.entry b).channel)).any SigFrame.isSeize then
        oweHangup (s.entry b).channel (channelWithdrawn b s) else channelWithdrawn b s) := rfl
  rw [unfolded]
  split
  · next h =>
    obtain ⟨ho, hs⟩ := Bool.and_eq_true_iff.mp h
    have noSeize : .seize (s.entry b).channel ∉ s.trunk.sigQueue := fun hm => by
      rw [(any_isSeize_iff _ _).mpr hm] at hs
      cases hs
    cases hl : s.trunk.linkUp with
    | true =>
      rw [oweHangup_up (s := channelWithdrawn b s) _ hl]
      refine channelFreed_of_offers (slotsOffered_offerSlots _) rfl (fun _ _ => rfl) (fun _ _ _ => rfl) ?_
      rintro (hn | hn | hn)
      · exact absurd ho hn
      · rw [hl] at hn
        cases hn
      · exact absurd hn noSeize
    | false =>
      rw [oweHangup_down (s := channelWithdrawn b s) _ hl]
      refine channelFreed_of_offers (slotsOffered_offerSlots _) rfl (fun _ hg => group_bumpBy_ne hg.symm 1 _)
        (fun _ hu _ => ?_) (fun _ => rfl)
      rw [hl] at hu
      cases hu
  · next h =>
    refine channelFreed_of_offers (slotsOffered_offerSlots (channelWithdrawn b s)) rfl (fun _ _ => rfl)
      (fun ho _ hs => ?_) (fun _ => rfl)
    have : (s.trunk.sigQueue.filter fun f => decide (f.channel = (s.entry b).channel)).any SigFrame.isSeize = false := by
      rw [Bool.eq_false_iff, Ne, any_isSeize_iff]
      exact hs
    simp [ho, this] at h

/-! ## The end of DRAINING (R169) -/

/-- A signal queued to every booth of a list that meets a condition, one booth after the other. -/
theorem signalList_spec (p : Booth → Bool) (sig : Signal) (l : List Booth) (hl : l.Nodup) (s : State) :
    let t := l.foldl (fun t b => if p b then postSignal b sig t else t) s
    t = { s with line := { s.line with booths := t.line.booths } }
      ∧ ∀ x, t.boothLine x = if x ∈ l ∧ p x = true then toldLine (some sig) (s.boothLine x) else s.boothLine x := by
  induction l generalizing s with
  | nil => exact ⟨rfl, fun x => by simp⟩
  | cons b l ih =>
    obtain ⟨hb, hl⟩ := List.nodup_cons.mp hl
    have first : (if p b then postSignal b sig s else s) =
        modBoothLine b (fun y => if p b then toldLine (some sig) y else y) s := by
      split
      · exact postSignal_eq b sig s
      · exact (modBoothLine_of_fixed rfl).symm
    obtain ⟨hr, hx⟩ := ih hl (if p b then postSignal b sig s else s)
    simp only [List.foldl_cons]
    constructor
    · rw [hr, first]
      rfl
    · intro x
      rw [hx x, first]
      by_cases hxb : x = b
      · subst hxb
        simp [hb]
      · simp [boothLine_modBoothLine_ne hxb, hxb]

/-- The test for the end of a drain leads from s to t. -/
structure DrainTested (s t : State) : Prop where
  ends : s.mgmt.service = .draining → (∀ x, (s.ctx x).state = .free) →
    t.mgmt.service = .outOfService ∧ ∀ x, t.boothLine x = drainedLine s x
  goesOn : ¬(s.mgmt.service = .draining ∧ ∀ x, (s.ctx x).state = .free) → t = s
  rest : t = { s with line := { s.line with booths := t.line.booths }, mgmt := { s.mgmt with service := t.mgmt.service } }

theorem allFree_iff (s : State) : s.allFree = true ↔ ∀ x, (s.ctx x).state = .free := by
  simp [State.allFree, allBooths]

theorem drainTested_checkDrain (s : State) : DrainTested s (checkDrain s) := by
  unfold checkDrain
  split
  · next h =>
    replace h := h.imp_right (allFree_iff s).mp
    obtain ⟨hr, hx⟩ := signalList_spec (fun b => (s.entry b).enabled && (s.boothLine b).health.reachable) .outOfOrder
      allBooths (List.nodup_finRange 48) (modMgmt (fun m => { m with service := .outOfService }) s)
    refine ⟨fun _ _ => ⟨?_, fun x => ?_⟩, fun hn => absurd h hn, ?_⟩
    · unfold signalBooths; rw [hr]; rfl
    · unfold signalBooths
      rw [hx x]
      change (if x ∈ List.finRange 48 ∧ _ then toldLine (some .outOfOrder) (s.boothLine x) else s.boothLine x) = _
      unfold drainedLine lineAtDrainEnd
      simp only [List.mem_finRange, true_and, Bool.and_eq_true, reachable_iff]
      split
      · next hd =>
        rw [toldLine_some, if_pos]
        rcases hd.2 with hh | hh <;> rw [hh] <;> rfl
      · rfl
    · unfold signalBooths; rw [hr]; rfl
  · next h => exact ⟨fun h1 h2 => absurd ⟨h1, (allFree_iff s).mpr h2⟩ h, fun _ => rfl, rfl⟩

end Sys2Proof.Machine
end

section
/-!
# The ends of calls

`endBeforeAnswer` is R11's procedure (`EndedBeforeAnswer`), `settled` is R17's (`Completed`), and the settle of R118
chooses between a final CANCEL and completion (`Settles`). Both ends share a tail: the context is freed, a take-out mark
is honoured and the end of a drain is tested.
-/

namespace Sys2Proof.Machine

/-! ## The tail that both ends share -/

/-- Booth b's call, in s, is over in u, where nothing but the test for the end of a drain is left to do. -/
structure CallOver (b : Booth) (s u : State) : Prop where
  free : (u.ctx b).state = .free
  calls : ∀ x, x ≠ b →
    u.ctx x = { s.ctx x with held := (u.ctx x).held } ∧ u.debit x = s.debit x ∧ u.slot x = s.slot x
  lines : ∀ x, x ≠ b → u.boothLine x = s.boothLine x
  service : u.mgmt.service = s.mgmt.service
  map : u.line.map = s.line.map

namespace CallOver

variable {b : Booth} {s u t : State}

/-- The end of b's call ends the drain just when the test of R169 finds every context FREE. -/
theorem lastBusy_iff (h : CallOver b s u) :
    LastBusy b s ↔ u.mgmt.service = .draining ∧ ∀ x, (u.ctx x).state = .free := by
  rw [LastBusy, h.service]
  refine and_congr_right fun _ => ⟨fun hx x => ?_, fun hx x hxb => ?_⟩
  · by_cases hxb : x = b
    · exact hxb ▸ h.free
    · rw [(h.calls x hxb).1]
      exact hx x hxb
  · have := hx x
    rwa [(h.calls x hxb).1] at this

theorem entry (h : CallOver b s u) (x : Booth) : u.entry x = s.entry x := by
  unfold State.entry
  rw [h.map]

theorem drained (h : CallOver b s u) (d : DrainTested u t) (hl : LastBusy b s) :
    t.mgmt.service = .outOfService ∧ ∀ x, t.boothLine x = lineAtDrainEnd (s.entry x).enabled (u.boothLine x) := by
  obtain ⟨hd, hx⟩ := h.lastBusy_iff.mp hl
  refine (d.ends hd hx).imp_right fun hb x => ?_
  rw [hb x, drainedLine, h.entry]

theorem notDrained (h : CallOver b s u) (d : DrainTested u t) (hl : ¬LastBusy b s) : t = u :=
  d.goesOn fun hd => hl (h.lastBusy_iff.mpr hd)

theorem othersAfterEnd (h : CallOver b s u) (d : DrainTested u t) : OthersAfterEnd b s t where
  last hl := (h.drained d hl).imp_right fun hx x hxb => by rw [hx x, h.lines x hxb, drainedLine]
  more hl := by
    rw [h.notDrained d hl]
    exact ⟨h.service, h.lines⟩
  calls x hxb := by
    obtain ⟨hc, hd, hs⟩ := h.calls x hxb
    rw [d.rest]
    exact ⟨hc, hd, hs⟩

end CallOver

/-! ## The end before answer (R11) -/

/-- A context when R11's procedure has recorded the cause and stopped the timers. -/
def Ctx.endedWith (cause : EndCause) (c : Ctx) : Ctx :=
  { c with endCause := some cause, digitWait := none, cardWait := none, held := [] }

theorem modBoothLine_toldNone (b : Booth) (s : State) : modBoothLine b (toldLine none) s = s := modBoothLine_of_fixed rfl

/-- R11's procedure with every post an update of the booth's line. -/
theorem endBeforeAnswer_eq (b : Booth) (cause : EndCause) (s : State) :
    endBeforeAnswer b cause s =
      (s |> modCtx b (Ctx.endedWith cause)
        |> modBoothLine b (toldLine (endSignal cause))
        |> releaseChannel b (!decide (cause = .exchangeCleared))
        |> giveBackReservation
        |> freeContext b
        |> bump (Ctr.preAnswer cause)
        |> modBoothLine b lineAtCallEnd
        |> checkDrain) := by
  unfold endBeforeAnswer
  dsimp only
  rw [endSignal_eq, honourMark_eq]
  cases cause.signal with
  | some sig =>
    dsimp only
    rw [postSignal_eq]
    rfl
  | none =>
    dsimp only
    rw [modBoothLine_toldNone]
    rfl

/-- An end before answer sets the context's timers aside, whatever they were. -/
theorem endBeforeAnswer_modCtx {b : Booth} {f : Ctx → Ctx} (cause : EndCause) (s : State)
    (hf : ∀ c, (f c).endedWith cause = c.endedWith cause) :
    endBeforeAnswer b cause (modCtx b f s) = endBeforeAnswer b cause s := by
  rw [endBeforeAnswer_eq, endBeforeAnswer_eq, modCtx_modCtx, modCtx_congr (hf _)]

/-- The counter of an end before answer is one of the 44 of the group CALLS. -/
theorem preAnswer_place (cause : EndCause) : (Ctr.preAnswer cause).1 = 0 ∧ (Ctr.preAnswer cause).2 < 44 := by
  cases cause <;> decide

/-- An end before answer counted on a group of CALLS that has its 44 places (R23, R180). -/
theorem counter_bump_preAnswer {cause : EndCause} {s : State} (h : (s.counters.get 0).length = 44) :
    (bump (Ctr.preAnswer cause) s).counter (Ctr.preAnswer cause) =
      min 4294967295 (s.counter (Ctr.preAnswer cause) + 1) := by
  obtain ⟨hgroup, hplace⟩ := preAnswer_place cause
  refine counter_bumpBy_self _ 1 s ?_
  rw [hgroup, h]
  exact hplace

/-- A counter reads the same in two states whose groups do. -/
theorem counter_congr {c : CounterId} {s t : State} (h : t.counters.get c.1 = s.counters.get c.1) :
    t.counter c = s.counter c := congrArg (fun g : List Nat => g.getD c.2 0) h

theorem ctx_freeContext (b x : Booth) (s : State) :
    (freeContext b s).ctx x = if b = x then (s.ctx b).toFree else s.ctx x := ctx_modCtx b x Ctx.toFree _

theorem debit_freeContext (b x : Booth) (s : State) :
    (freeContext b s).debit x =
      if b = x then { s.debit b with cards := [], uncertain := none } else s.debit x := by
  simp [freeContext, debit_modDebit]

/-- What the release of a channel says of the Trunk Port is said of any states with the same. -/
theorem ChannelReleased.congr {b : Booth} {owes : Prop} {s t s' t' : State} (h : ChannelReleased b owes s t)
    (hs : s'.trunk = s.trunk) (he : s'.entry b = s.entry b) (ht : t'.trunk = t.trunk) :
    ChannelReleased b owes s' t' := by
  obtain ⟨owed, unowed, withdrawn, waits, rest⟩ := h
  exact ⟨by rw [hs, he, ht]; exact owed, by rw [hs, he, ht]; exact unowed, by rw [hs, he, ht]; exact withdrawn,
    by rw [ht]; exact waits, by rw [hs, ht]; exact rest⟩

@[simp] theorem slot_freeContext (b x : Booth) (s : State) : (freeContext b s).slot x = s.slot x := rfl
@[simp] theorem entry_freeContext (b x : Booth) (s : State) : (freeContext b s).entry x = s.entry x := rfl
@[simp] theorem boothLine_freeContext (b x : Booth) (s : State) : (freeContext b s).boothLine x = s.boothLine x := rfl
@[simp] theorem ctx_giveBackReservation (s : State) (x : Booth) : (giveBackReservation s).ctx x = s.ctx x := rfl
@[simp] theorem debit_giveBackReservation (s : State) (x : Booth) : (giveBackReservation s).debit x = s.debit x := rfl
@[simp] theorem slot_giveBackReservation (s : State) (x : Booth) : (giveBackReservation s).slot x = s.slot x := rfl
@[simp] theorem boothLine_giveBackReservation (s : State) (x : Booth) :
    (giveBackReservation s).boothLine x = s.boothLine x := rfl

theorem ctx_freeContext_self (b : Booth) (s : State) : (freeContext b s).ctx b = (s.ctx b).toFree := by
  rw [ctx_freeContext, if_pos rfl]

/-- A booth's state when its channel has been released and its call is all but over. -/
theorem callOver_of_release {b : Booth} {owes : Prop} {s s' r u : State} (R : ChannelFreed b owes s' r)
    (hs : ∀ x, x ≠ b →
      s'.ctx x = s.ctx x ∧ s'.debit x = s.debit x ∧ s'.slot x = s.slot x ∧ s'.boothLine x = s.boothLine x)
    (hservice : s'.mgmt.service = s.mgmt.service) (hmap : s'.line.map = s.line.map)
    (hu : ∀ x, x ≠ b →
      u.ctx x = r.ctx x ∧ u.debit x = r.debit x ∧ u.slot x = r.slot x ∧ u.boothLine x = r.boothLine x)
    (hfree : (u.ctx b).state = .free) (huservice : u.mgmt.service = r.mgmt.service) (humap : u.line.map = r.line.map) :
    CallOver b s u where
  free := hfree
  calls x hx := by
    obtain ⟨uctx, udebit, uslot, -⟩ := hu x hx
    obtain ⟨sctx, sdebit, sslot, -⟩ := hs x hx
    refine ⟨?_, ?_, ?_⟩
    · rw [uctx, ← sctx]
      exact R.calls x
    · rw [udebit, ← sdebit, R.frame]
      rfl
    · rw [uslot, ← sslot, R.frame]
      rfl
  lines x hx := by
    obtain ⟨-, -, -, uline⟩ := hu x hx
    obtain ⟨-, -, -, sline⟩ := hs x hx
    rw [uline, ← sline, R.frame]
    rfl
  service := by
    rw [huservice, ← hservice, R.frame]
  map := by
    rw [humap, ← hmap, R.frame]

/-- R11's steps after the release of the channel, which led to r. -/
theorem endedBeforeAnswer_of_release {b : Booth} {cause : EndCause} {s r : State}
    (R : ChannelFreed b (cause ≠ .exchangeCleared)
      (modBoothLine b (toldLine (endSignal cause)) (modCtx b (Ctx.endedWith cause) s)) r) :
    EndedBeforeAnswer b cause s
      (checkDrain (modBoothLine b lineAtCallEnd (bump (Ctr.preAnswer cause) (freeContext b (giveBackReservation r))))) := by
  have O : CallOver b s
      (modBoothLine b lineAtCallEnd (bump (Ctr.preAnswer cause) (freeContext b (giveBackReservation r)))) := by
    refine callOver_of_release R (fun x hx => ?_) rfl rfl (fun x hx => ?_) ?_ rfl rfl
    · simp [ctx_modCtx_ne hx, boothLine_modBoothLine_ne hx]
    · simp [ctx_freeContext, debit_freeContext, boothLine_modBoothLine_ne hx, hx.symm]
    · simp [ctx_freeContext_self]
      rfl
  have D := drainTested_checkDrain
    (modBoothLine b lineAtCallEnd (bump (Ctr.preAnswer cause) (freeContext b (giveBackReservation r))))
  generalize checkDrain _ = t at D ⊢
  have line : r.boothLine b = toldLine (endSignal cause) (s.boothLine b) := by
    rw [R.frame]
    exact boothLine_modBoothLine_self _ _ _
  have group : r.counters.get 0 = s.counters.get 0 := R.groups 0 (by decide)
  have counted : t.counter (Ctr.preAnswer cause) = (bump (Ctr.preAnswer cause) r).counter (Ctr.preAnswer cause) := by
    rw [D.rest]
    rfl
  exact {
    ctx := by
      rw [D.rest]
      change (freeContext b (giveBackReservation r)).ctx b = _
      rw [ctx_freeContext_self, ctx_giveBackReservation, R.calls b, ctx_modBoothLine, ctx_modCtx_self]
      rfl
    ring := by rw [D.rest, R.frame]; rfl
    debit := by
      rw [D.rest]
      change (freeContext b (giveBackReservation r)).debit b = _
      rw [debit_freeContext, if_pos rfl, debit_giveBackReservation, R.frame]
      rfl
    hangup := R.toChannelReleased.congr rfl rfl (by rw [D.rest]; rfl)
    line := fun hl => by
      rw [O.notDrained D hl, boothLine_modBoothLine_self]
      exact congrArg lineAtCallEnd line
    lastLine := fun hl => by
      rw [(O.drained D hl).2 b, boothLine_modBoothLine_self]
      exact congrArg (fun l => lineAtDrainEnd (s.entry b).enabled (lineAtCallEnd l)) line
    others := O.othersAfterEnd D
    counted := fun h44 => by
      rw [counted, counter_bump_preAnswer (group ▸ h44)]
      exact congrArg (fun n => min 4294967295 (n + 1)) (counter_congr (by rw [(preAnswer_place cause).1, group]))
    rest := by rw [D.rest, R.frame]; rfl
    settings := by rw [D.rest, R.frame]; rfl }

theorem endedBeforeAnswer (b : Booth) (cause : EndCause) (s : State) :
    EndedBeforeAnswer b cause s (endBeforeAnswer b cause s) := by
  rw [endBeforeAnswer_eq]
  apply endedBeforeAnswer_of_release
  have owes : (cause ≠ .exchangeCleared) = ((!decide (cause = .exchangeCleared)) = true) := by simp
  rw [owes]
  exact channelFreed_releaseChannel _ _ _

theorem trunk_checkDrain (s : State) : (checkDrain s).trunk = s.trunk := by
  rw [(drainTested_checkDrain s).rest]

/-- A frame of the ended call's channel that is queued afterwards is another booth's (R147, R148). -/
theorem endBeforeAnswer_queue {b : Booth} {cause : EndCause} {s : State} {f : SigFrame}
    (hf : f ∈ (endBeforeAnswer b cause s).trunk.sigQueue) (hc : f.channel = (s.entry b).channel) :
    ∃ x, x ≠ b ∧ f.channel = (s.entry x).channel := by
  have R := channelFreed_releaseChannel b (!decide (cause = .exchangeCleared))
    (modBoothLine b (toldLine (endSignal cause)) (modCtx b (Ctx.endedWith cause) s))
  rw [endBeforeAnswer_eq, trunk_checkDrain] at hf
  exact R.origin f hf hc

end Sys2Proof.Machine
end

section
/-!
# Completion and the settle
-/

namespace Sys2Proof.Machine

/-! ## A notice, a ticket, a released card -/

/-- A cause made pending is pending (R181). -/
theorem notePending_waiting (c : NoticeCause) (s : State) :
    (notePending c s).mgmt.notices.waiting.getLsbD c.bit = true := by
  unfold notePending
  rw [modNotices_mgmt]
  dsimp only
  split
  · next h => exact h
  · rw [BitVec.getLsbD_or, Bool.or_eq_true]
    right
    cases c <;> decide

/-- Booth b's ticket has been written (R157, R158). -/
structure TicketWrote (b : Booth) (s t : State) : Prop where
  ring : t.ring = ticketWritten (s.buildTicket b) s.ring
  high : s.ring.highWater ≤ s.ring.tickets.length + 1 → t.mgmt.notices.waiting.getLsbD 1 = true
  rest : t = { s with ring := t.ring, mgmt := { s.mgmt with notices := t.mgmt.notices }, counters := t.counters }

theorem ticketWrote_writeTicket (b : Booth) (s : State) : TicketWrote b s (writeTicket b s) := by
  have filled : (ticketWritten (s.buildTicket b) s.ring).filled = s.ring.tickets.length + 1 := by
    simp [Ring.filled, ticketWritten]
  unfold writeTicket
  dsimp only
  split
  · exact ⟨rfl, fun _ => notePending_waiting .ringHigh _, rfl⟩
  · next h => exact ⟨rfl, fun hw => absurd (filled ▸ hw) h, rfl⟩

theorem buildTicket_eq (b : Booth) (s : State) :
    s.buildTicket b = ticketOf b (s.ctx b).endCause (s.debit b).uncertainCount s := rfl

/-- The booth's VALID card has been released for this reason; any other slot is as it was (R90, R135). -/
structure CardReleased (b : Booth) (reason : CardReason) (s t : State) : Prop where
  released : ∀ r v w l, s.slot b = .valid r v w l →
    t.slot b = .refused r reason .eject
      ∧ (TakesWork b s → NoActionWaits b s → (t.boothLine b).cardAction = some .eject)
  kept : (∀ r v w l, s.slot b ≠ .valid r v w l) → t = s
  line : t.boothLine b =
    { s.boothLine b with cardAction := (t.boothLine b).cardAction, cardNext := (t.boothLine b).cardNext }
  frame : ∀ x, x ≠ b → t.slot x = s.slot x ∧ t.boothLine x = s.boothLine x
  rest : t = { s with card := { s.card with slots := t.card.slots }, line := { s.line with booths := t.line.booths },
                      counters := t.counters }

/-- A booth's line with a card action posted to it, behind another or not (R135). -/
def actionPosted (a : CardAction) (behind : Bool) (l : BoothLine) : BoothLine :=
  if l.health.takesWork then if behind then { l with cardNext := some a } else { l with cardAction := some a } else l

theorem postCardAction_eq (b : Booth) (a : CardAction) (s : State) :
    postCardAction b a s =
      modBoothLine b (actionPosted a (s.actionInFlight b || (s.boothLine b).cardNext.isSome)) s := postTo_eq b _ s

theorem actionPosted_first {l : BoothLine} (a : CardAction) (h : ¬(l.health = .lost ∨ l.health = .disabled)) :
    actionPosted a false l = { l with cardAction := some a } := if_pos ((takesWork_iff _).mpr h)

theorem actionPosted_rest (a : CardAction) (behind : Bool) (l : BoothLine) :
    actionPosted a behind l =
      { l with cardAction := (actionPosted a behind l).cardAction, cardNext := (actionPosted a behind l).cardNext } := by
  unfold actionPosted
  split_ifs <;> rfl

/-- With no action waiting and none in flight a new one waits behind none (R135). -/
theorem noActionWaits_behind {b : Booth} {s : State} (h : NoActionWaits b s) :
    (s.actionInFlight b || (s.boothLine b).cardNext.isSome) = false := by
  obtain ⟨next, flying⟩ := h
  rw [next, Option.isSome_none, Bool.or_false]
  unfold State.actionInFlight State.openTo
  cases ht : (s.seg (s.entry b).segment).transaction with
  | none => rfl
  | some tr =>
    dsimp only
    split_ifs with hb
    · obtain ⟨noEject, noRetain⟩ := flying tr ht hb.1
      dsimp only
      cases hr : tr.request with
      | eject => exact absurd hr noEject
      | retain serial => exact absurd hr (noRetain serial)
      | _ => rfl
    · rfl

theorem CardReleased.noCard {b : Booth} {reason : CardReason} {s : State}
    (h : ∀ r v w l, s.slot b ≠ .valid r v w l) : CardReleased b reason s s :=
  ⟨fun r v w l hs => absurd hs (h r v w l), fun _ => rfl, rfl, fun _ _ => ⟨rfl, rfl⟩, rfl⟩

theorem cardReleased_releaseCard {b : Booth} {reason : CardReason} {s : State} (hr : reason ≠ .cardLimit) :
    CardReleased b reason s (releaseCard b reason s) := by
  unfold releaseCard
  cases hs : s.slot b with
  | valid r v w l =>
    dsimp only
    rw [if_neg hr, postCardAction_eq]
    exact {
      released := by
        intro r' v' w' l' h
        rw [hs] at h
        injection h with h
        subst h
        refine ⟨slot_setSlot_self b _ s, fun takes waits => ?_⟩
        rw [boothLine_bump, boothLine_modBoothLine_self]
        exact congrArg BoothLine.cardAction
          ((congrArg (actionPosted .eject · (s.boothLine b)) (noActionWaits_behind waits)).trans
            (actionPosted_first .eject (not_or.mpr takes)))
      kept := fun h => absurd hs (h r v w l)
      line := by
        rw [boothLine_bump, boothLine_modBoothLine_self]
        exact actionPosted_rest _ _ _
      frame := fun x hx => ⟨slot_setSlot_ne hx _ s, boothLine_modBoothLine_ne hx _ _⟩
      rest := rfl }
  | empty => exact .noCard (by simp [hs])
  | refused r w a => exact .noCard (by simp [hs])

/-! ## Completion (R17) -/

/-- R17's procedure, the end counted when the context has a cause. -/
theorem complete_eq (b : Booth) (eject : Bool) (s : State) :
    ∃ counters, complete b eject s =
      checkDrain (modBoothLine b lineAtCallEnd
        { freeContext b (releaseChannel b (!(s.ctx b).exchangeCleared)
            (modCtx b (fun c => { c with held := [] })
              (if eject then releaseCard b .returned (writeTicket b s) else writeTicket b s))) with
          counters := counters }) := by
  unfold complete
  dsimp only
  rw [honourMark_eq]
  cases (s.ctx b).endCause with
  | some cause => exact ⟨_, rfl⟩
  | none => exact ⟨_, rfl⟩

/-- A debit record whose settle is done (R118). -/
def Debit.settle (d : Debit) : Debit := { d with stage := .settled }

theorem buildTicket_settle (b : Booth) (s : State) :
    (modDebit b Debit.settle s).buildTicket b = ticketOf b (s.ctx b).endCause (s.debit b).uncertainCount s := by
  unfold State.buildTicket
  rw [debit_modDebit_self]
  rfl

theorem lineAtCallEnd_marked {l : BoothLine} (h : l.mark = true) :
    lineAtCallEnd l =
      { l with health := .taken, mark := false, probeTimer := none, probeDue := false,
               signals := joinSignal .outOfOrder l.signals } := if_pos h

theorem lineAtCallEnd_unmarked {l : BoothLine} (h : l.mark = false) : lineAtCallEnd l = l := if_neg (by rw [h]; decide)

/-- A booth that is TAKEN hears nothing of the end of a drain (R169). -/
theorem lineAtDrainEnd_taken {l : BoothLine} (enabled : Bool) (h : l.health = .taken) : lineAtDrainEnd enabled l = l := by
  unfold lineAtDrainEnd
  rw [if_neg]
  rintro ⟨-, h' | h'⟩ <;> rw [h] at h' <;> cases h'

theorem lineAtDrainEnd_rest (enabled : Bool) (l : BoothLine) :
    lineAtDrainEnd enabled l = { l with signals := (lineAtDrainEnd enabled l).signals } := by
  unfold lineAtDrainEnd
  split <;> rfl

/-- What the end of a drain queues to a booth goes by its health alone. -/
theorem lineAtDrainEnd_signals (enabled : Bool) {l l' : BoothLine} (hh : l.health = l'.health)
    (hs : l.signals = l'.signals) : (lineAtDrainEnd enabled l).signals = (lineAtDrainEnd enabled l').signals := by
  unfold lineAtDrainEnd
  rw [hh]
  split
  · exact congrArg (joinSignal .outOfOrder) hs
  · exact hs

/-- R17's steps one after the other: the ticket (w), the card (c), the channel (r), the end of the drain (t). -/
theorem completed_of_steps {b : Booth} {s w c r t : State} {counters : Vector (List Nat) 12}
    (W : TicketWrote b (modDebit b Debit.settle s) w) (K : CardReleased b .returned w c)
    (R : ChannelFreed b ((s.ctx b).exchangeCleared = false) (modCtx b (fun c => { c with held := [] }) c) r)
    (D : DrainTested (modBoothLine b lineAtCallEnd { freeContext b r with counters := counters }) t) :
    Completed b s t := by
  have wslot : ∀ x, w.slot x = s.slot x := fun x => by rw [W.rest]; rfl
  have wline : ∀ x, w.boothLine x = s.boothLine x := fun x => by rw [W.rest]; rfl
  have rline : ∀ x, r.boothLine x = c.boothLine x := fun x => by rw [R.frame]; rfl
  have O : CallOver b s (modBoothLine b lineAtCallEnd { freeContext b r with counters := counters }) := by
    refine callOver_of_release R (fun x hx => ?_) ?_ ?_ (fun x hx => ?_) ?_ rfl rfl
    · obtain ⟨kslot, kline⟩ := K.frame x hx
      refine ⟨?_, ?_, kslot.trans (wslot x), kline.trans (wline x)⟩
      · rw [ctx_modCtx_ne hx, K.rest, W.rest]
        rfl
      · rw [debit_modCtx, K.rest, W.rest]
        exact debit_modDebit_ne hx Debit.settle s
    · rw [K.rest, W.rest]; rfl
    · rw [K.rest, W.rest]; rfl
    · refine ⟨?_, ?_, rfl, boothLine_modBoothLine_ne hx _ _⟩
      · exact (ctx_freeContext b x r).trans (if_neg hx.symm)
      · exact (debit_freeContext b x r).trans (if_neg hx.symm)
    · exact congrArg Ctx.state (ctx_freeContext_self b r)
  have rdebit : r.debit b = (s.debit b).settle := by
    rw [R.frame]
    change c.debit b = _
    rw [K.rest]
    change w.debit b = _
    rw [W.rest]
    exact debit_modDebit_self b Debit.settle s
  have ring : t.ring = ticketWritten (ticketOf b (s.ctx b).endCause (s.debit b).uncertainCount s) s.ring := by
    rw [D.rest, R.frame, ← buildTicket_settle]
    change c.ring = _
    rw [K.rest]
    exact W.ring
  have rest : t = { s with
      ctxs := t.ctxs, debits := t.debits, card := { s.card with slots := t.card.slots },
      line := { s.line with booths := t.line.booths }, trunk := t.trunk, ring := t.ring,
      mgmt := { s.mgmt with service := t.mgmt.service, notices := t.mgmt.notices }, counters := t.counters } := by
    rw [D.rest, R.frame, K.rest, W.rest]; rfl
  have tslot : t.slot b = c.slot b := by rw [D.rest, R.frame]; rfl
  have uline : (modBoothLine b lineAtCallEnd { freeContext b r with counters := counters }).boothLine b =
      lineAtCallEnd (c.boothLine b) := (boothLine_modBoothLine_self _ _ _).trans (congrArg lineAtCallEnd (rline b))
  have cline : c.boothLine b =
      { s.boothLine b with cardAction := (c.boothLine b).cardAction, cardNext := (c.boothLine b).cardNext } := by
    rw [← wline b]
    exact K.line
  have lastLine : LastBusy b s →
      t.boothLine b = lineAtDrainEnd (s.entry b).enabled (lineAtCallEnd (c.boothLine b)) := fun hl => by
    rw [(O.drained D hl).2 b, uline]
  have moreLine : ¬LastBusy b s → t.boothLine b = lineAtCallEnd (c.boothLine b) := fun hl => by
    rw [O.notDrained D hl, uline]
  have action : (t.boothLine b).cardAction = (c.boothLine b).cardAction := by
    have kept : (lineAtCallEnd (c.boothLine b)).cardAction = (c.boothLine b).cardAction := by
      unfold lineAtCallEnd
      split <;> rfl
    by_cases hl : LastBusy b s
    · rw [lastLine hl, lineAtDrainEnd_rest]
      exact kept
    · rw [moreLine hl]
      exact kept
  exact {
    ctx := by
      rw [D.rest]
      change (freeContext b r).ctx b = _
      rw [ctx_freeContext_self, R.calls b, ctx_modCtx_self]
      rw [K.rest]
      change (Ctx.toFree { w.ctx b with held := _ }) = _
      rw [W.rest]
      rfl
    ring := ring
    ringHigh := fun h => by
      rw [D.rest, R.frame]
      change c.mgmt.notices.waiting.getLsbD 1 = true
      rw [K.rest]
      exact W.high h
    debit := by
      rw [D.rest]
      change (freeContext b r).debit b = _
      rw [debit_freeContext, if_pos rfl, rdebit]
      rfl
    released := fun rec v x l h => by
      obtain ⟨kslot, kaction⟩ := K.released rec v x l ((wslot b).trans h)
      refine ⟨tslot.trans kslot, fun takes waits => action.trans (kaction ?_ ?_)⟩
      · rw [W.rest]; exact takes
      · rw [W.rest]; exact waits
    slotElse := fun h => by
      have same : c = w := K.kept fun rec v x l => by rw [wslot]; exact h rec v x l
      rw [tslot, action, same]
      exact ⟨wslot b, congrArg BoothLine.cardAction (wline b)⟩
    hangup := R.toChannelReleased.congr (by rw [K.rest, W.rest]; rfl) (by rw [K.rest, W.rest]; rfl) (by rw [D.rest]; rfl)
    marked := fun hm => by
      have cmark : (c.boothLine b).mark = true := by rw [cline]; exact hm
      have taken := lineAtCallEnd_marked cmark
      have tline : t.boothLine b = lineAtCallEnd (c.boothLine b) := by
        by_cases hl : LastBusy b s
        · rw [lastLine hl, lineAtDrainEnd_taken _ (by rw [taken])]
        · exact moreLine hl
      rw [tline, taken, cline]
      exact ⟨rfl, rfl, rfl, rfl⟩
    unmarked := fun hm => by
      have kept : lineAtCallEnd (c.boothLine b) = c.boothLine b :=
        lineAtCallEnd_unmarked (by rw [cline]; exact hm)
      rw [kept] at lastLine moreLine
      refine ⟨?_, ?_, fun hl => ?_, fun hl => ?_⟩
      · by_cases hl : LastBusy b s
        · rw [lastLine hl, lineAtDrainEnd_rest, cline]
        · rw [moreLine hl, cline]
      · by_cases hl : LastBusy b s
        · rw [lastLine hl, lineAtDrainEnd_rest, cline]
          exact hm
        · rw [moreLine hl, cline]
          exact hm
      · rw [lastLine hl, drainedLine]
        exact lineAtDrainEnd_signals _ (by rw [cline]) (by rw [cline])
      · rw [moreLine hl, cline]
    others := O.othersAfterEnd D
    rest := rest
    settings := by
      have high : t.ring.highWater = s.ring.highWater := by rw [ring]; rfl
      calc t.settings = { s.settings with highWater := t.ring.highWater } := by rw [rest]; rfl
        _ = s.settings := by rw [high]; rfl }

theorem completed_settled (b : Booth) (s : State) : Completed b s (settled b s) := by
  obtain ⟨counters, h⟩ := complete_eq b true (modDebit b Debit.settle s)
  rw [show settled b s = complete b true (modDebit b Debit.settle s) from rfl, h]
  refine completed_of_steps (ticketWrote_writeTicket b _) (cardReleased_releaseCard (by decide)) ?_
    (drainTested_checkDrain _)
  have owes : ((s.ctx b).exchangeCleared = false) = ((!((modDebit b Debit.settle s).ctx b).exchangeCleared) = true) := by
    rw [ctx_modDebit, Bool.not_eq_true']
  rw [owes]
  exact channelFreed_releaseChannel _ _ _

end Sys2Proof.Machine
end

section
/-!
# The settle, the units-due check and the events that lead to them
-/

namespace Sys2Proof.Machine

/-! ## A CANCEL is posted (R75, R103) -/

theorem remaining_pos_iff (e : CardEntry) : 0 < e.remaining ↔ e.lastKnown < e.face := by
  unfold CardEntry.remaining remainingUnits
  omega

theorem remaining_eq_zero_iff (e : CardEntry) : e.remaining = 0 ↔ e.lastKnown = e.face := by
  unfold CardEntry.remaining remainingUnits
  omega

theorem remaining_toNat (e : CardEntry) : e.remaining.toNat = e.face - e.lastKnown := by
  unfold CardEntry.remaining remainingUnits
  omega

/-- Debit work posted to a booth that takes work. -/
theorem postDebit_takes {b : Booth} {s : State} (w : DebitWork)
    (h : ¬((s.boothLine b).health = .lost ∨ (s.boothLine b).health = .disabled)) :
    postDebit b w s = modBoothLine b (fun l => { l with debitWork := some w }) s := if_pos ((takesWork_iff _).mpr h)

/-- A CANCEL posted to a booth that takes work (R103). -/
theorem postCancel_takes {b : Booth} {s : State} (i : Nat) (e : CardEntry) (n : Nat) (final : Bool)
    (h : ¬((s.boothLine b).health = .lost ∨ (s.boothLine b).health = .disabled)) :
    postCancel b i e n final s =
      bump Ctr.cancelsPosted (modBoothLine b (fun l => { l with debitWork := some (.cancel n e.serial) })
        (modDebit b
          (fun d =>
            { d with outstanding := .cancel { entry := i, n := n, before := e.lastKnown, final := final } }) s)) :=
  congrArg (bump Ctr.cancelsPosted) (postDebit_takes _ h)

theorem not_lost_of_reachable {h : Health} (hr : h = .inService ∨ h = .suspect) : ¬(h = .lost ∨ h = .disabled) := by
  rcases hr with rfl | rfl <;> decide

/-! ## The settle (R118) -/

theorem finalTestPasses_iff {b : Booth} {s : State} {i : Nat} {e : CardEntry} (hc : s.currentCard b = some (i, e)) :
    FinalTestPasses b i e s ↔
      (s.debit b).p < 0 ∧ (s.debit b).cardLeft = false ∧ 0 < e.remaining ∧ (s.boothLine b).health.reachable = true := by
  rw [remaining_pos_iff, reachable_iff]
  exact ⟨fun ⟨debt, left, _, units, health⟩ => ⟨debt, left, units, health⟩,
    fun ⟨debt, left, units, health⟩ => ⟨debt, left, hc, units, health⟩⟩

theorem currentCard_unique {b : Booth} {s : State} {i j : Nat} {e x : CardEntry} (h : s.currentCard b = some (i, e))
    (h' : s.currentCard b = some (j, x)) : j = i ∧ x = e := by
  rw [h] at h'
  injection h' with h'
  injection h' with hj hx
  exact ⟨hj.symm, hx.symm⟩

theorem settles_finalTest (b : Booth) (s : State) : Settles b s (finalTest b s) := by
  unfold finalTest
  cases hc : s.currentCard b with
  | none =>
    refine ⟨fun i e h => ?_, fun _ => completed_settled b s⟩
    rw [h.card] at hc
    cases hc
  | some ie =>
    obtain ⟨i, e⟩ := ie
    dsimp only
    split_ifs with hp
    · have passes := (finalTestPasses_iff hc).mpr hp
      refine ⟨fun j x h => ?_, fun h => absurd passes (h i e)⟩
      obtain ⟨rfl, rfl⟩ := currentCard_unique hc h.card
      intro n
      rw [postCancel_takes, modDebit_modDebit, remaining_toNat]
      · rfl
      · exact not_lost_of_reachable h.health
    · refine ⟨fun j x h => ?_, fun _ => completed_settled b s⟩
      obtain ⟨rfl, rfl⟩ := currentCard_unique hc h.card
      exact absurd ((finalTestPasses_iff hc).mp h) hp

theorem metered_iff (x : CtxState) : x.metered = true ↔ x = .speech ∨ x = .swap := by
  cases x <;> decide

/-- A call in SPEECH or SWAP with a request outstanding waits in ENDING for it (R16, R118). -/
theorem enterEnding_waits {b : Booth} (cause : EndCause) {s : State}
    (hm : (s.ctx b).state = .speech ∨ (s.ctx b).state = .swap) (ho : (s.debit b).outstanding ≠ .none) :
    enterEnding b cause s = modDebit b (fun d => { d with stage := .awaitingRequest }) (ending b cause s) := by
  unfold enterEnding
  rw [if_pos ((metered_iff _).mpr hm)]
  change beginSettle b (ending b cause s) = _
  have kept : ((ending b cause s).debit b).outstanding = (s.debit b).outstanding := by
    unfold ending
    rw [debit_modDebit_self]
    rfl
  unfold beginSettle
  rw [kept]
  cases h : (s.debit b).outstanding with
  | none => exact absurd h ho
  | cancel a => rfl
  | verify a => rfl

/-- A call in SPEECH or SWAP with no request outstanding settles at once (R16, R118). -/
theorem enterEnding_settles {b : Booth} (cause : EndCause) {s : State}
    (hm : (s.ctx b).state = .speech ∨ (s.ctx b).state = .swap) (ho : (s.debit b).outstanding = .none) :
    Settles b (ending b cause s) (enterEnding b cause s) := by
  unfold enterEnding
  rw [if_pos ((metered_iff _).mpr hm)]
  change Settles b _ (beginSettle b (ending b cause s))
  have kept : ((ending b cause s).debit b).outstanding = .none := by
    unfold ending
    rw [debit_modDebit_self]
    exact ho
  unfold beginSettle
  rw [kept]
  exact settles_finalTest b _

theorem enterEnding_rests {b : Booth} (cause : EndCause) {s : State} (hm : (s.ctx b).state.metered = false) :
    enterEnding b cause s = s := if_neg (by rw [hm]; decide)

/-- The same wait as one update of the debit record and one of the context. -/
theorem enterEnding_awaits {b : Booth} (cause : EndCause) {s : State}
    (hm : (s.ctx b).state = .speech ∨ (s.ctx b).state = .swap) (ho : (s.debit b).outstanding ≠ .none) :
    enterEnding b cause s =
      modDebit b (fun d => { d with nextTick := none, cardLeft := false, stage := .awaitingRequest })
        (modCtx b (fun c => { c with state := .ending, endCause := some cause, swapWindow := none }) s) := by
  rw [enterEnding_waits cause hm ho, ending, modDebit_modDebit]

/-- A call that owes nothing, put into ENDING with no request outstanding, is completed (R118). -/
theorem Settles.completed_of_paid {b : Booth} {s t : State} (h : Settles b s t) (hp : 0 ≤ (s.debit b).p) :
    Completed b s t := h.completes fun _ _ f => absurd f.debt (Int.not_lt.mpr hp)

/-- The card and charging sides of a debit record that entry to ENDING leaves. -/
theorem debit_ending (b : Booth) (cause : EndCause) (s : State) :
    (ending b cause s).debit b = { s.debit b with nextTick := none, cardLeft := false } := debit_modDebit_self b _ _

theorem ctx_ending (b : Booth) (cause : EndCause) (s : State) :
    (ending b cause s).ctx b = { s.ctx b with state := .ending, endCause := some cause, swapWindow := none } := by
  unfold ending
  rw [ctx_modDebit, ctx_modCtx_self]

end Sys2Proof.Machine
end

section
/-!
# The units-due check
-/

namespace Sys2Proof.Machine

theorem toldLine_rest (sig : Option Signal) (l : BoothLine) :
    toldLine sig l = { l with signals := (toldLine sig l).signals } := by
  cases sig with
  | none => rfl
  | some x =>
    rw [toldLine_some]
    split <;> rfl

theorem toldLine_takes {l : BoothLine} (sig : Signal) (h : ¬(l.health = .lost ∨ l.health = .disabled)) :
    toldLine (some sig) l = { l with signals := joinSignal sig l.signals } := if_neg h

theorem enterSwap_speech {b : Booth} (cause : EndCause) {s : State} (h : (s.ctx b).state = .speech) :
    enterSwap b cause s =
      bump Ctr.swapEntries (modCtx b (fun c => swapped c s.now s.mgmt.limits.swapWindow cause) s) := if_pos h

/-- The units-due check finds units owed and a card that holds some (R75). -/
theorem unitsDue_asks {b : Booth} {s : State} {i : Nat} {e : CardEntry} (hs : (s.ctx b).state = .speech)
    (hp : (s.debit b).p < 0) (ho : (s.debit b).outstanding = .none) (hc : s.currentCard b = some (i, e))
    (hu : e.lastKnown < e.face) :
    unitsDue b s =
      postCancel b i e (min (min (ceilDiv (s.debit b).p.natAbs e.unitValue) (e.face - e.lastKnown)) 8) false s := by
  unfold unitsDue
  dsimp only
  rw [if_pos ⟨hs, hp, ho⟩, hc]
  dsimp only
  rw [if_pos ((remaining_pos_iff e).mpr hu), remaining_toNat]
  rfl

/-- It finds a card with none left (R75, R114). -/
theorem unitsDue_exhausts {b : Booth} {s : State} {i : Nat} {e : CardEntry} (hs : (s.ctx b).state = .speech)
    (hp : (s.debit b).p < 0) (ho : (s.debit b).outstanding = .none) (hc : s.currentCard b = some (i, e))
    (hu : e.lastKnown = e.face) : unitsDue b s = exhaust b s := by
  have zero := (remaining_eq_zero_iff e).mpr hu
  unfold unitsDue
  dsimp only
  rw [if_pos ⟨hs, hp, ho⟩, hc]
  dsimp only
  rw [if_neg (by rw [zero]; decide), if_pos zero]

/-- It finds nothing to do. -/
theorem unitsDue_rests {b : Booth} {s : State} (h : (s.ctx b).state ≠ .speech ∨ 0 ≤ (s.debit b).p
    ∨ (s.debit b).outstanding ≠ .none ∨ s.currentCard b = none) : unitsDue b s = s := by
  unfold unitsDue
  dsimp only
  split_ifs with hd
  · obtain ⟨hs, hp, ho⟩ := hd
    rcases h with h | h | h | h
    · exact absurd hs h
    · exact absurd hp (Int.not_lt.mpr h)
    · exact absurd ho h
    · rw [h]
  · rfl

/-- The current card stands in the booth's slot (R102). -/
theorem valid_of_currentCard {b : Booth} {s : State} {x : Nat × CardEntry} (h : s.currentCard b = some x) :
    ∃ r v w l, s.slot b = .valid r v w l := by
  cases hs : s.slot b with
  | valid r v w l => exact ⟨r, v, w, l, rfl⟩
  | empty => simp [State.currentCard, State.slotEntry, hs] at h
  | refused r reason a => simp [State.currentCard, State.slotEntry, hs] at h

theorem unitsChecked_unitsDue (b : Booth) (s : State) : UnitsChecked b s (unitsDue b s) where
  asks hs hp ho i e hc hu := by
    intro n
    rw [unitsDue_asks hs hp ho hc hu]
    have posted := postTo_eq b (fun l => { l with debitWork := some (.cancel n e.serial) })
      (modDebit b (fun d =>
        { d with outstanding := .cancel { entry := i, n := n, before := e.lastKnown, final := false } }) s)
    unfold postCancel postDebit
    rw [posted]
    refine ⟨?_, fun hl hd => ?_, rfl, fun x hx => ⟨?_, ?_⟩⟩
    · rw [debit_bump, debit_modBoothLine, debit_modDebit_self]
    · rw [boothLine_bump, boothLine_modBoothLine_self]
      exact congrArg BoothLine.debitWork (if_pos ((takesWork_iff _).mpr (not_or.mpr ⟨hl, hd⟩)))
    · rw [debit_bump, debit_modBoothLine, debit_modDebit_ne hx]
    · rw [boothLine_bump, boothLine_modBoothLine_ne hx, boothLine_modDebit]
  exhausts hs hp ho i e hc hu := by
    rw [unitsDue_exhausts hs hp ho hc hu]
    unfold exhaust
    rw [postSignal_eq]
    have told := boothLine_modBoothLine_self b (toldLine (some .creditExhausted)) s
    have K : CardReleased b .exhausted (modBoothLine b (toldLine (some .creditExhausted)) s) _ :=
      cardReleased_releaseCard (by decide)
    generalize releaseCard b .exhausted _ = k at K ⊢
    have kctx : ∀ x, k.ctx x = s.ctx x := fun x => by rw [K.rest]; rfl
    rw [enterSwap_speech _ (by rw [kctx]; exact hs)]
    refine ⟨?_, fun r v w l h => (K.released r v w l h).1, fun takes => ⟨?_, fun waits => ?_⟩, ?_, fun x hx => ⟨?_, ?_, ?_⟩⟩
    · rw [ctx_bump, ctx_bump, ctx_modCtx_self, kctx, K.rest]
      rfl
    · rw [boothLine_bump, boothLine_bump, boothLine_modCtx, K.line, told, toldLine_takes _ (not_or.mpr takes)]
    · obtain ⟨r, v, w, l, hv⟩ := valid_of_currentCard hc
      refine (K.released r v w l hv).2 ?_ ⟨?_, waits.2⟩
      · rw [TakesWork, told, toldLine_rest]
        exact takes
      · rw [told, toldLine_rest]
        exact waits.1
    · rw [K.rest]; rfl
    · rw [ctx_bump, ctx_bump, ctx_modCtx_ne hx, kctx]
    · rw [slot_bump, slot_bump, slot_modCtx, (K.frame x hx).1, slot_modBoothLine]
    · rw [boothLine_bump, boothLine_bump, boothLine_modCtx, (K.frame x hx).2, boothLine_modBoothLine_ne hx]
  rests h := unitsDue_rests h

end Sys2Proof.Machine
end

section
/-!
# The call timers (R8, R117)
-/

namespace Sys2Proof.Machine

/-- The digit wait in DIALLING ends the call on the time base its expiry has reached (R8). -/
theorem digitWaitExpires_dialling {b : Booth} {s : State} {i : Instant} (hw : (s.ctx b).digitWait = some i)
    (hs : (s.ctx b).state = .dialling) : digitWaitExpires b s = endBeforeAnswer b .digitTimeout (reach i s) := by
  unfold digitWaitExpires
  rw [hw]
  dsimp only
  rw [if_pos (by rw [ctx_modCtx_self]; exact hs)]
  exact endBeforeAnswer_modCtx _ _ fun _ => rfl

theorem digitWaitExpires_else {b : Booth} {s : State} {i : Instant} (hw : (s.ctx b).digitWait = some i)
    (hs : (s.ctx b).state ≠ .dialling) :
    digitWaitExpires b s = modCtx b (fun c => { c with digitWait := none }) (reach i s) := by
  unfold digitWaitExpires
  rw [hw]
  dsimp only
  rw [if_neg (by rw [ctx_modCtx_self]; exact hs)]

/-- The card wait in CARD WAIT ends the call likewise (R8). -/
theorem cardWaitExpires_cardWait {b : Booth} {s : State} {i : Instant} (hw : (s.ctx b).cardWait = some i)
    (hs : (s.ctx b).state = .cardWait) : cardWaitExpires b s = endBeforeAnswer b .cardWaitExpired (reach i s) := by
  unfold cardWaitExpires
  rw [hw]
  dsimp only
  rw [if_pos (by rw [ctx_modCtx_self]; exact hs)]
  exact endBeforeAnswer_modCtx _ _ fun _ => rfl

theorem cardWaitExpires_else {b : Booth} {s : State} {i : Instant} (hw : (s.ctx b).cardWait = some i)
    (hs : (s.ctx b).state ≠ .cardWait) :
    cardWaitExpires b s = modCtx b (fun c => { c with cardWait := none }) (reach i s) := by
  unfold cardWaitExpires
  rw [hw]
  dsimp only
  rw [if_neg (by rw [ctx_modCtx_self]; exact hs)]

/-- Entry to ENDING stops the swap window, whatever it was (R16). -/
theorem enterEnding_swapWindow (b : Booth) (cause : EndCause) (s : State) (hm : (s.ctx b).state.metered = true) :
    enterEnding b cause (modCtx b (fun c => { c with swapWindow := none }) s) = enterEnding b cause s := by
  unfold enterEnding
  rw [if_pos hm, if_pos (by rw [ctx_modCtx_self]; exact hm), modCtx_modCtx]

/-- The swap window in SWAP puts the call into ENDING with the cause recorded for it (R8, R117). -/
theorem swapWindowExpires_swap {b : Booth} {s : State} {i : Instant} {cause : EndCause}
    (hw : (s.ctx b).swapWindow = some (i, cause)) (hs : (s.ctx b).state = .swap) :
    swapWindowExpires b s = enterEnding b cause (reach i s) := by
  unfold swapWindowExpires
  rw [hw]
  dsimp only
  rw [if_pos (by rw [ctx_modCtx_self]; exact hs)]
  exact enterEnding_swapWindow b cause _ ((metered_iff _).mpr (Or.inr hs))

theorem swapWindowExpires_else {b : Booth} {s : State} {i : Instant} {cause : EndCause}
    (hw : (s.ctx b).swapWindow = some (i, cause)) (hs : (s.ctx b).state ≠ .swap) :
    swapWindowExpires b s = modCtx b (fun c => { c with swapWindow := none }) (reach i s) := by
  unfold swapWindowExpires
  rw [hw]
  dsimp only
  rw [if_neg (by rw [ctx_modCtx_self]; exact hs)]

end Sys2Proof.Machine

section
open Sys2Proof Sys2Proof.Machine

/-- Settles O47: each expiry is R11's end or the entry to ENDING on the instant it has reached. -/
theorem callTimerExpiries : Obligations.CallTimerExpiries := by
  refine ⟨fun s b i hw => ⟨fun hs => ⟨_, rfl, ?_⟩, fun hs => ?_⟩, fun s b i hw => ⟨fun hs => ⟨_, rfl, ?_⟩, fun hs => ?_⟩,
    fun s b i cause hw => ?_⟩
  · rw [digitWaitExpires_dialling hw hs]
    exact endedBeforeAnswer b _ (reach i s)
  · exact congrArg Host.Outcome.next (digitWaitExpires_else hw hs)
  · rw [cardWaitExpires_cardWait hw hs]
    exact endedBeforeAnswer b _ (reach i s)
  · exact congrArg Host.Outcome.next (cardWaitExpires_else hw hs)
  · have settles : (s.ctx b).state = .swap → (s.debit b).outstanding = .none →
        Settles b (ending b cause (reach i s)) (swapWindowExpires b s) := fun hs ho => by
      rw [swapWindowExpires_swap hw hs]
      exact enterEnding_settles cause (Or.inr hs) ho
    refine ⟨fun hs ho => congrArg Host.Outcome.next ?_, fun hs ho hp => ?_, fun hs ho => ⟨_, rfl, settles hs ho⟩,
      fun hs => congrArg Host.Outcome.next (swapWindowExpires_else hw hs)⟩
    · exact (swapWindowExpires_swap hw hs).trans (enterEnding_awaits cause (Or.inr hs) ho)
    · have C := (settles hs ho).completed_of_paid (by rw [debit_ending]; exact hp)
      refine ⟨_, _, rfl, ?_, congrArg Ring.tickets C.ring, ?_, rfl, C.settings⟩
      · rw [C.ctx, ctx_ending]
        rfl
      · exact congrArg Ctx.endCause (ctx_ending b cause (reach i s))

end
end

section
/-!
# ANSWER and CLEAR (R12, R13, R144)
-/

namespace Sys2Proof.Machine

theorem channelOf_byte (ch : Channel) : channelOf (byte ch.val) = some ch := by
  have small : (byte ch.val).toNat = ch.val := by
    rw [byte, BitVec.toNat_ofNat, Nat.mod_eq_of_lt (by omega)]
  unfold channelOf
  rw [small, finOf_of_lt ch.isLt]

theorem exec_answer (ch : Channel) (s : State) : exec (.answer (byte ch.val)) s = .next (answerFrame ch s) := by
  change execAnswer (byte ch.val) s = _
  unfold execAnswer
  rw [channelOf_byte]

theorem exec_clear (ch : Channel) (s : State) : exec (.clear (byte ch.val)) s = .next (clearFrame ch s) := by
  change execClear (byte ch.val) s = _
  unfold execClear
  rw [channelOf_byte]

theorem channelMap_validFrame (ch : Channel) (s : State) : (validFrame s).channelMap ch = s.channelMap ch := rfl

/-- The Channel Map names a booth whose entry has the channel (R144). -/
theorem channel_of_channelMap {s : State} {ch : Channel} {b : Booth} (h : s.channelMap ch = some b) :
    (s.entry b).channel = ch := by
  have := List.find?_some h
  simp only [Bool.and_eq_true, decide_eq_true_eq] at this
  exact this.2

theorem answerFrame_mapped {s : State} {ch : Channel} {b : Booth} (h : s.channelMap ch = some b) :
    answerFrame ch s = answerEvent b (bump Ctr.answersReceived (validFrame s)) := by
  unfold answerFrame
  dsimp only
  rw [channelMap_validFrame, h]

theorem answerFrame_unmapped {s : State} {ch : Channel} (h : s.channelMap ch = none) :
    answerFrame ch s = oweHangup ch (bump Ctr.unmappedAnswers (validFrame s)) := by
  unfold answerFrame
  dsimp only
  rw [channelMap_validFrame, h]

theorem clearFrame_mapped {s : State} {ch : Channel} {b : Booth} (h : s.channelMap ch = some b) :
    clearFrame ch s = clearEvent b (bump Ctr.clearsReceived (validFrame s)) := by
  unfold clearFrame
  dsimp only
  rw [channelMap_validFrame, h]

theorem clearFrame_unmapped {s : State} {ch : Channel} (h : s.channelMap ch = none) :
    clearFrame ch s = bump Ctr.unmappedClears (validFrame s) := by
  unfold clearFrame
  dsimp only
  rw [channelMap_validFrame, h]

/-- ANSWER by the context's state (R12). -/
theorem answerEvent_free {b : Booth} {s : State} (h : (s.ctx b).state = .free) :
    answerEvent b s = oweHangup (s.entry b).channel s := by
  unfold answerEvent
  rw [h]

theorem answerEvent_early {b : Booth} {s : State} (h : (s.ctx b).state = .dialling ∨ (s.ctx b).state = .cardWait) :
    answerEvent b s = endBeforeAnswer b .earlyAnswer (bump Ctr.earlyAnswers s) := by
  unfold answerEvent
  rcases h with h | h <;> rw [h]

theorem answerEvent_ignored {b : Booth} {s : State}
    (h : (s.ctx b).state = .speech ∨ (s.ctx b).state = .swap ∨ (s.ctx b).state = .ending) : answerEvent b s = s := by
  unfold answerEvent
  rcases h with h | h | h <;> rw [h]

/-- CLEAR by the context's state (R13). -/
theorem clearEvent_ignored {b : Booth} {s : State} (h : (s.ctx b).state = .free ∨ (s.ctx b).state = .ending) :
    clearEvent b s = s := by
  unfold clearEvent
  rcases h with h | h <;> rw [h] <;> rfl

theorem clearEvent_unanswered {b : Booth} {s : State} (h : (s.ctx b).state.preAnswer = true) :
    clearEvent b s = endBeforeAnswer b .exchangeCleared s := if_pos h

theorem not_preAnswer_of_metered {x : CtxState} (h : x = .speech ∨ x = .swap) : ¬x.preAnswer = true := by
  rcases h with rfl | rfl <;> decide

theorem clearEvent_answered {b : Booth} {s : State} (h : (s.ctx b).state = .speech ∨ (s.ctx b).state = .swap) :
    clearEvent b s = enterEnding b .exchangeCleared (modCtx b (fun c => { c with exchangeCleared := true }) s) :=
  (if_neg (not_preAnswer_of_metered h)).trans (if_pos ((metered_iff _).mpr h))

theorem clearEvent_waits {b : Booth} {s : State} (h : (s.ctx b).state = .speech ∨ (s.ctx b).state = .swap)
    (ho : (s.debit b).outstanding ≠ .none) :
    clearEvent b s =
      modDebit b (fun d => { d with nextTick := none, cardLeft := false, stage := .awaitingRequest })
        (modCtx b
          (fun x => { x with exchangeCleared := true, state := .ending, endCause := some .exchangeCleared,
                             swapWindow := none }) s) := by
  rw [clearEvent_answered h, enterEnding_awaits, modCtx_modCtx]
  · rw [ctx_modCtx_self]
    exact h
  · exact ho

theorem clearEvent_settles {b : Booth} {s : State} (h : (s.ctx b).state = .speech ∨ (s.ctx b).state = .swap)
    (ho : (s.debit b).outstanding = .none) :
    Settles b (ending b .exchangeCleared (modCtx b (fun c => { c with exchangeCleared := true }) s))
      (clearEvent b s) := by
  rw [clearEvent_answered h]
  exact enterEnding_settles _ (by rw [ctx_modCtx_self]; exact h) ho

/-- The context of a cleared call in ENDING. -/
theorem ctx_cleared (b : Booth) (s : State) :
    (ending b .exchangeCleared (modCtx b (fun c => { c with exchangeCleared := true }) s)).ctx b =
      { s.ctx b with exchangeCleared := true, state := .ending, endCause := some .exchangeCleared,
                     swapWindow := none } := by
  rw [ctx_ending, ctx_modCtx_self]

theorem debit_cleared (b : Booth) (s : State) :
    (ending b .exchangeCleared (modCtx b (fun c => { c with exchangeCleared := true }) s)).debit b =
      { s.debit b with nextTick := none, cardLeft := false } := debit_ending b _ _

end Sys2Proof.Machine

section
open Sys2Proof Sys2Proof.Machine

/-- Settles O31: the frame is counted and handed to the context, whose state decides; an early answer is R11's end. -/
theorem answerOutsideRouted : Obligations.AnswerOutsideRouted := by
  intro s ch heard owing
  rw [exec_answer]
  refine ⟨fun h => ?_, fun b hb => ⟨fun hs => ?_, fun hs => ?_, fun hs => ?_⟩⟩
  · rw [answerFrame_unmapped h]
    exact congrArg Host.Outcome.next (oweHangup_up ch rfl)
  · refine congrArg Host.Outcome.next
      (((answerFrame_mapped hb).trans (answerEvent_free hs)).trans ((oweHangup_up _ rfl).trans ?_))
    have channel : ((bump Ctr.answersReceived (validFrame s)).entry b).channel = ch := channel_of_channelMap hb
    rw [channel]
    rfl
  · exact congrArg Host.Outcome.next ((answerFrame_mapped hb).trans (answerEvent_ignored hs))
  · have early := (answerFrame_mapped hb).trans (answerEvent_early hs)
    refine ⟨_, congrArg Host.Outcome.next early, endedBeforeAnswer b _ _, fun f hf hc => ?_⟩
    obtain ⟨x, hx, hxc⟩ := endBeforeAnswer_queue hf (hc.trans (channel_of_channelMap hb).symm)
    exact ⟨x, hx, hxc.symm.trans hc⟩

/-- Settles O32: an unanswered call meets R11's end, an answered one enters ENDING with its flag set and settles. -/
theorem clearByState : Obligations.ClearByState := by
  intro s ch heard
  rw [exec_clear]
  refine ⟨fun h => congrArg Host.Outcome.next (clearFrame_unmapped h), fun b hb => ?_⟩
  have cleared := clearFrame_mapped hb
  refine ⟨fun hs => congrArg Host.Outcome.next (cleared.trans (clearEvent_ignored hs)), fun hs => ?_,
    fun hs ho => congrArg Host.Outcome.next (cleared.trans (clearEvent_waits hs ho)), fun hs ho hp => ?_,
    fun hs ho => ⟨_, congrArg Host.Outcome.next cleared, clearEvent_settles hs ho⟩⟩
  · have ended := endedBeforeAnswer b .exchangeCleared (bump Ctr.clearsReceived (validFrame s))
    exact ⟨_, congrArg Host.Outcome.next (cleared.trans (clearEvent_unanswered hs)), ended,
      ended.hangup.unowed (Or.inl (not_not.mpr rfl))⟩
  · have settles : Settles b _ (clearEvent b (bump Ctr.clearsReceived (validFrame s))) := clearEvent_settles hs ho
    have C := settles.completed_of_paid (by rw [debit_cleared]; exact hp)
    have ctx := ctx_cleared b (bump Ctr.clearsReceived (validFrame s))
    have debit := debit_cleared b (bump Ctr.clearsReceived (validFrame s))
    refine ⟨_, _, congrArg Host.Outcome.next cleared, ?_, congrArg Ring.tickets C.ring, congrArg Ring.reserved C.ring,
      congrArg Ring.nextSeq C.ring, rfl, rfl, rfl, (congrArg Ctx.plan ctx).trans rfl, (congrArg Ctx.cls ctx).trans rfl,
      (congrArg Ctx.answer ctx).trans rfl, (congrArg Debit.duration debit).trans rfl,
      (congrArg Ctx.digits ctx).trans rfl, (congrArg Debit.charged debit).trans rfl,
      (congrArg Ctx.endCause ctx).trans rfl, C.hangup.unowed (Or.inl (by rw [ctx]; nofun)), C.settings⟩
    rw [C.ctx, ctx]
    rfl

end
end

section
/-!
# ANSWER in ROUTED (R12, R71)
-/

namespace Sys2Proof.Machine

theorem answerEvent_routed {b : Booth} {s : State} (h : (s.ctx b).state = .routed) :
    answerEvent b s =
      startDebit b (bump Ctr.answered (modCtx b
        (fun c => { c with state := .speech, answer := some { clock := s.tariff.clock, hundredths := s.hundredths } })
        s)) := by
  unfold answerEvent
  rw [h]

/-- The debit record of a call answered now (R71): the set-up charge owed, the tick charge of the band in force, the
first tick 100 ms on. -/
def Debit.started (p : Snapshot) (now : Instant) (tariff : Tariff) (d : Debit) : Debit :=
  { d with p := -(p.setupCharged : Int), charged := p.setupCharged, duration := 0, t := some (tariff.charge p),
           nextTick := some (now + 400) }

/-- The start of an answered call up to its units-due check (R71). -/
def callStarted (b : Booth) (p : Snapshot) (s : State) : State :=
  bump Ctr.answersStarted (bump Ctr.bandEvaluations (modDebit b (Debit.started p s.now s.tariff) s))

theorem startDebit_eq {b : Booth} {s : State} {p : Snapshot} (h : (s.ctx b).snap = some p) :
    startDebit b s = unitsDue b (callStarted b p s) := by
  unfold startDebit evaluateBand
  dsimp only
  rw [h, ctx_modDebit, h]
  dsimp only
  rw [modDebit_modDebit]
  rfl

theorem ctx_callStarted (b x : Booth) (p : Snapshot) (s : State) : (callStarted b p s).ctx x = s.ctx x := rfl

theorem debit_callStarted (b : Booth) (p : Snapshot) (s : State) :
    (callStarted b p s).debit b = (s.debit b).started p s.now s.tariff :=
  debit_modDebit_self b (Debit.started p s.now s.tariff) s

theorem debit_callStarted_ne {b x : Booth} (hx : x ≠ b) (p : Snapshot) (s : State) :
    (callStarted b p s).debit x = s.debit x := debit_modDebit_ne hx (Debit.started p s.now s.tariff) s

/-- The current card goes by the slot and the card list (R102). -/
theorem currentCard_congr {b : Booth} {s t : State} (hslot : t.slot b = s.slot b)
    (hcards : (t.debit b).cards = (s.debit b).cards) : t.currentCard b = s.currentCard b := by
  unfold State.currentCard State.slotEntry
  rw [hslot, hcards]

/-- The units-due check of a call that owes its set-up charge, or none, with a card that holds units where it is
needed: at most a CANCEL is posted, and the debit record gets no more than its request. -/
theorem unitsDue_afterAnswer {b : Booth} {u : State} {setup : Nat} (hs : (u.ctx b).state = .speech)
    (hp : (u.debit b).p = -(setup : Int)) (ho : (u.debit b).outstanding = .none)
    (hc : setup = 0 ∨ ∃ i e, u.currentCard b = some (i, e) ∧ e.lastKnown < e.face) :
    unitsDue b u = { u with
        debits := (unitsDue b u).debits, line := (unitsDue b u).line, counters := (unitsDue b u).counters }
      ∧ (∀ x, x ≠ b → (unitsDue b u).debit x = u.debit x)
      ∧ ∃ o, (unitsDue b u).debit b = { u.debit b with outstanding := o }
        ∧ (setup = 0 → o = .none)
        ∧ ∀ i e, 0 < setup → u.currentCard b = some (i, e) →
            o = .cancel { entry := i, n := min (min (ceilDiv setup e.unitValue) (e.face - e.lastKnown)) 8,
                          before := e.lastKnown, final := false } := by
  rcases Nat.eq_zero_or_pos setup with h0 | hpos
  · subst h0
    rw [unitsDue_rests (Or.inr (Or.inl (by rw [hp]; decide)))]
    exact ⟨rfl, fun _ _ => rfl, .none, by rw [← ho], fun _ => rfl, fun _ _ h => absurd h (Nat.lt_irrefl 0)⟩
  · obtain ⟨i, e, hcard, hunits⟩ := hc.resolve_left (Nat.ne_of_gt hpos)
    obtain ⟨debit, -, rest, others⟩ :=
      (unitsChecked_unitsDue b u).asks hs (by rw [hp]; omega) ho i e hcard hunits
    refine ⟨rest, fun x hx => (others x hx).1, _, debit, fun h => absurd h (Nat.ne_of_gt hpos), fun j x _ hj => ?_⟩
    obtain ⟨rfl, rfl⟩ := currentCard_unique hcard hj
    rw [hp, Int.natAbs_neg, Int.natAbs_natCast]

/-- What a CANCEL, or nothing, of the units-due check changes of the settings is nothing. -/
theorem settings_unitsDue (b : Booth) (s : State) : (unitsDue b s).settings = s.settings :=
  unitsDue_closed (settings_closed s.settings) rfl

end Sys2Proof.Machine

section
open Sys2Proof Sys2Proof.Machine

/-- Settles O30: the event is `startDebit` on the answered context, and `unitsChecked_unitsDue` says what its check
does. -/
theorem answerStartsCharging : Obligations.AnswerStartsCharging := by
  intro s ch b p hb hr hsnap
  rw [exec_answer]
  have routed : answerFrame ch s = _ := (answerFrame_mapped hb).trans (answerEvent_routed hr)
  generalize ha : bump Ctr.answered (modCtx b _ (bump Ctr.answersReceived (validFrame s))) = a at routed
  have actx : a.ctx b = { s.ctx b with
      state := .speech, answer := some { clock := s.tariff.clock, hundredths := s.hundredths } } := by
    rw [← ha, ctx_bump, ctx_modCtx_self]
    rfl
  have actx' : ∀ x, x ≠ b → a.ctx x = s.ctx x := fun x hx => by
    rw [← ha, ctx_bump, ctx_modCtx_ne hx]
    rfl
  have arest : a = { s with
      ctxs := a.ctxs, counters := a.counters, trunk := { s.trunk with linkUp := true, silence := some (s.now + 8000) } } := by
    rw [← ha]
    rfl
  clear ha
  rw [startDebit_eq (by rw [actx]; exact hsnap)] at routed
  have adebit : ∀ x, a.debit x = s.debit x := fun x => by rw [arest]; rfl
  have anow : a.now = s.now ∧ a.tariff = s.tariff := by rw [arest]; exact ⟨rfl, rfl⟩
  have started := debit_callStarted b p a
  rw [adebit, anow.1, anow.2] at started
  have urest : callStarted b p a = { s with
      ctxs := (callStarted b p a).ctxs, debits := (callStarted b p a).debits, counters := (callStarted b p a).counters,
      trunk := { s.trunk with linkUp := true, silence := some (s.now + 8000) } } := by
    rw [arest]
    rfl
  rw [routed]
  refine ⟨fun ho hcard => ⟨_, rfl, ?_⟩, _, _, rfl, unitsChecked_unitsDue b _, actx, started,
    fun x hx => ⟨actx' x hx, (debit_callStarted_ne hx p a).trans (adebit x)⟩, urest⟩
  have card : (callStarted b p a).currentCard b = s.currentCard b :=
    currentCard_congr (by rw [urest]; rfl) (by rw [started]; rfl)
  have kept := settings_unitsDue b (callStarted b p a)
  have speech : ((callStarted b p a).ctx b).state = .speech := congrArg Ctx.state actx
  have owed : ((callStarted b p a).debit b).p = -(p.setupCharged : Int) := congrArg Debit.p started
  have checked := unitsDue_afterAnswer speech owed ((congrArg Debit.outstanding started).trans ho)
    (by rw [card]; exact hcard)
  generalize unitsDue b (callStarted b p a) = t at checked kept ⊢
  obtain ⟨rest, others, o, debit, none, cancel⟩ := checked
  rw [started] at debit
  rw [card] at cancel
  have tctx : ∀ x, t.ctx x = a.ctx x := fun x => by rw [rest]; rfl
  have ttrunk : t.trunk = { s.trunk with linkUp := true, silence := some (s.now + 8000) } := by rw [rest, urest]
  rw [debit, ttrunk, tctx]
  refine ⟨actx, rfl, rfl, rfl, rfl, rfl, rfl, none, cancel, rfl, rfl, rfl, fun x hx => ⟨?_, ?_⟩, ?_, ?_, ?_⟩
  · rw [tctx, actx' x hx]
  · rw [others x hx, debit_callStarted_ne hx, adebit]
  · rw [rest, urest]
  · rw [rest, urest]
  · rw [kept, urest]
    rfl

end
end

section
/-!
# Hook reports and FORCE CLEAR (R2, R3, R14, R19)
-/

namespace Sys2Proof.Machine

/-! ## Admission (R3, R4) -/

/-- A HOOK OFF in FREE that a condition of R3 stands against is refused with it (R4). -/
theorem hookOffEvent_refused {b : Booth} {s : State} {cause : RefusalCause} (hs : (s.ctx b).state = .free)
    (hr : s.admissionRefusal b = some cause) :
    hookOffEvent b s = refuseAdmission b cause (modCtx b (fun c => { c with hookOff := true }) s) := by
  have refused : (modCtx b (fun c => { c with hookOff := true }) s).admissionRefusal b = some cause := hr
  unfold hookOffEvent
  dsimp only
  rw [if_pos (by rw [ctx_modCtx_self]; exact hs), refused]

/-- One that none stands against is an admission (R3). -/
theorem hookOffEvent_admitted {b : Booth} {s : State} (hs : (s.ctx b).state = .free)
    (hr : s.admissionRefusal b = none) :
    hookOffEvent b s = admitCall b (modCtx b (fun c => { c with hookOff := true }) s) := by
  have admitted : (modCtx b (fun c => { c with hookOff := true }) s).admissionRefusal b = none := hr
  unfold hookOffEvent
  dsimp only
  rw [if_pos (by rw [ctx_modCtx_self]; exact hs), admitted]

theorem hookOffEvent_busy {b : Booth} {s : State} (hs : (s.ctx b).state ≠ .free) :
    hookOffEvent b s = modCtx b (fun c => { c with hookOff := true }) s := by
  unfold hookOffEvent
  dsimp only
  rw [if_neg (by rw [ctx_modCtx_self]; exact hs)]

/-- The booth can be served: IN SERVICE or SUSPECT and not marked (the third condition of R3). -/
theorem boothCondition_iff (l : BoothLine) :
    ((l.health = .inService ∨ l.health = .suspect) ∧ l.mark = false) ↔
      ¬(l.health.reachable = false ∨ l.mark = true) := by
  rw [← reachable_iff]
  cases l.health.reachable <;> cases l.mark <;> decide

/-- The signalling queue has room while the link is UP (R146). -/
theorem sigRoom_up {s : State} (h : s.trunk.linkUp = true) : s.sigRoom = decide (s.trunk.sigQueue.length < 64) := by
  unfold State.sigRoom
  rw [h]
  rfl

theorem sigRoom_down {s : State} (h : s.trunk.linkUp = false) : s.sigRoom = true := by
  unfold State.sigRoom
  rw [h]
  rfl

theorem queueSig_up {s : State} (f : SigFrame) (h : s.trunk.linkUp = true) :
    queueSig f s = { s with trunk := { s.trunk with sigQueue := s.trunk.sigQueue ++ [f] } } := if_pos h

theorem queueSig_down {s : State} (f : SigFrame) (h : s.trunk.linkUp = false) :
    queueSig f s = bump Ctr.signallingDiscarded s := if_neg (by rw [h]; decide)

/-- The context of an admitted call goes by what it was before the lift (R3). -/
theorem modCtx_admitted (b : Booth) (plan : Fin 8) (root : Fin 1024) (expiry : Instant) (s : State) :
    modCtx b (fun c => admittedCtx c plan root expiry) (modCtx b (fun c => { c with hookOff := true }) s) =
      modCtx b (fun _ => admittedCtx { s.ctx b with hookOff := true } plan root expiry)
        (modCtx b (fun c => { c with hookOff := true }) s) :=
  modCtx_congr (by rw [ctx_modCtx_self])

end Sys2Proof.Machine

section
open Sys2Proof Sys2Proof.Machine

/-- Settles O44: the conditions of R3 are tested in their order, the first that fails being the refusal. -/
theorem hookOffAdmission : Obligations.HookOffAdmission := by
  intro s b hs e l plan up c1 c2 c3 c4 c5 c6 refuse
  have serves : c1 → ¬s.mgmt.service ≠ .inService := not_not.mpr
  have linked : c2 → ¬s.trunk.linkUp = false := (Bool.not_eq_false _).mpr
  have fit : c3 → ¬(l.health.reachable = false ∨ l.mark = true) := (boothCondition_iff l).mp
  have unfit : ¬c3 → (l.health.reachable = false ∨ l.mark = true) := fun h =>
    not_not.mp fun hn => h ((boothCondition_iff l).mpr hn)
  have planned : c4 → ¬plan.enabled = false := (Bool.not_eq_false _).mpr
  have afterPlan : c1 → c2 → c3 → c4 → s.admissionRefusal b =
      if Config.ringSlots ≤ s.ring.filled + s.ring.reserved then some .ringFull
      else if s.sigRoom = false then some .linkBusy else none := fun h1 h2 h3 h4 =>
    (if_neg (serves h1)).trans ((if_neg (linked h2)).trans ((if_neg (fit h3)).trans (if_neg (planned h4))))
  have refused : ∀ cause, s.admissionRefusal b = some cause → cause ≠ .ringFull →
      boothEvent b false .hookOff s = refuse cause cause.signal := fun cause hr hne =>
    (hookOffEvent_refused hs hr).trans (if_neg hne)
  refine ⟨fun h1 h2 h3 h4 h5 h6 => ?_, fun h1 => refused .service (if_pos h1) (by decide),
    fun h1 h2 => refused .link ?_ (by decide), fun h1 h2 h3 => refused .booth ?_ (by decide),
    fun h1 h2 h3 h4 => refused .plan ?_ (by decide), fun h1 h2 h3 h4 h5 => ?_,
    fun h1 h2 h3 h4 h5 h6 => refused .linkBusy ?_ (by decide)⟩
  · have room : s.sigRoom = true := (sigRoom_up h2).trans (decide_eq_true h6)
    have admitted : s.admissionRefusal b = none :=
      (afterPlan h1 h2 h3 h4).trans ((if_neg (Nat.not_le.mpr h5)).trans (if_neg (by rw [room]; decide)))
    refine (hookOffEvent_admitted hs admitted).trans (congrArg (bump Ctr.admissions) ?_)
    rw [modCtx_admitted]
    exact queueSig_up _ h2
  · exact (if_neg (serves h1)).trans (if_pos (Bool.eq_false_iff.mpr h2))
  · exact (if_neg (serves h1)).trans ((if_neg (linked h2)).trans (if_pos (unfit h3)))
  · exact (if_neg (serves h1)).trans ((if_neg (linked h2)).trans ((if_neg (fit h3)).trans
      (if_pos (Bool.eq_false_iff.mpr h4))))
  · exact hookOffEvent_refused hs ((afterPlan h1 h2 h3 h4).trans (if_pos (Nat.not_lt.mp h5)))
  · exact (afterPlan h1 h2 h3 h4).trans ((if_neg (Nat.not_le.mpr h5)).trans
      (if_pos ((sigRoom_up h2).trans (decide_eq_false h6))))

end
end

section
/-!
# FORCE CLEAR and the hook reports by the state of the call (R14, R19)
-/

namespace Sys2Proof.Machine

theorem finOf_byte_booth (b : Booth) : finOf 48 (byte b.val).toNat = some b := by
  have small : (byte b.val).toNat = b.val := by
    rw [byte, BitVec.toNat_ofNat, Nat.mod_eq_of_lt (by omega)]
  rw [small, finOf_of_lt b.isLt]

/-- A BOOTH CONTROL action on an enabled booth is its owner's to carry out (R173). -/
theorem onEnabled_enabled {b : Booth} {a : Byte} {f : Booth → State → Carried} {s : State}
    (h : (s.entry b).enabled = true) : onEnabled [byte b.val, a] f s = f b s := by
  unfold onEnabled controlBooth
  dsimp only
  rw [finOf_byte_booth, inRange_some, if_pos h]

/-- FORCE CLEAR of an enabled booth, taken from the queue (R166, R173). -/
theorem exec_forceClear {o t : Byte} {b : Booth} {rest : List Cmd} {s : State}
    (hc : CanTake .booths ⟨o, t, 0x31#8, [byte b.val, 2#8]⟩ rest s) (he : (s.entry b).enabled = true) :
    exec (.forceClear o t [byte b.val, 2#8]) s =
      .next (answerCommand ⟨o, t, 0x31#8, [byte b.val, 2#8]⟩ (forceClearBooth b (popped rest s))) := by
  change Host.Outcome.next (controlRow (some .forceClear) _ _ s) = _
  unfold controlRow
  rw [if_pos (by rfl)]
  refine congrArg Host.Outcome.next ((takeCommand_canTake hc).trans ?_)
  exact congrArg (answerCommand _) (onEnabled_enabled he)

theorem forceClearBooth_free {b : Booth} {s : State} (h : (s.ctx b).state = .free) :
    forceClearBooth b s = refusedWith .state s := if_pos h

theorem forceClearBooth_busy {b : Booth} {s : State} (h : (s.ctx b).state ≠ .free) :
    forceClearBooth b s = carriedOut .none (forceClearEvent b s) := if_neg h

/-- FORCE CLEAR of a call, answered DONE. -/
theorem exec_forceClear_busy {o t : Byte} {b : Booth} {rest : List Cmd} {s : State}
    (hc : CanTake .booths ⟨o, t, 0x31#8, [byte b.val, 2#8]⟩ rest s) (he : (s.entry b).enabled = true)
    (hs : (s.ctx b).state ≠ .free) :
    exec (.forceClear o t [byte b.val, 2#8]) s =
      .next (doneWith ⟨o, t, 0x31#8, [byte b.val, 2#8]⟩ .none (forceClearEvent b (popped rest s))) := by
  have busy : forceClearBooth b (popped rest s) = _ := forceClearBooth_busy hs
  rw [exec_forceClear hc he, busy, answerCommand_carriedOut]

theorem forceClearEvent_unanswered {b : Booth} {s : State} (h : (s.ctx b).state.preAnswer = true) :
    forceClearEvent b s = endBeforeAnswer b .forced s := if_pos h

theorem forceClearEvent_else {b : Booth} {s : State} (h : ¬(s.ctx b).state.preAnswer = true) :
    forceClearEvent b s = enterEnding b .forced s := if_neg h

theorem not_free_of_preAnswer {x : CtxState} (h : x.preAnswer = true) : x ≠ .free := by
  rintro rfl
  cases h

theorem not_free_of_metered {x : CtxState} (h : x = .speech ∨ x = .swap) : x ≠ .free := by
  rcases h with rfl | rfl <;> decide

theorem not_preAnswer_of_rest {x : CtxState} (h : x = .free ∨ x = .ending) : ¬x.preAnswer = true := by
  rcases h with rfl | rfl <;> decide

theorem not_metered_of_rest {x : CtxState} (h : x = .free ∨ x = .ending) : x.metered = false := by
  rcases h with rfl | rfl <;> rfl

theorem forceClearEvent_ending {b : Booth} {s : State} (h : (s.ctx b).state = .ending) : forceClearEvent b s = s := by
  rw [forceClearEvent_else (not_preAnswer_of_rest (Or.inr h)), enterEnding_rests _ (not_metered_of_rest (Or.inr h))]

theorem forceClearEvent_waits {b : Booth} {s : State} (h : (s.ctx b).state = .speech ∨ (s.ctx b).state = .swap)
    (ho : (s.debit b).outstanding ≠ .none) :
    forceClearEvent b s =
      modDebit b (fun d => { d with nextTick := none, cardLeft := false, stage := .awaitingRequest })
        (modCtx b (fun c => { c with state := .ending, endCause := some .forced, swapWindow := none }) s) := by
  rw [forceClearEvent_else (not_preAnswer_of_metered h), enterEnding_awaits _ h ho]

theorem forceClearEvent_settles {b : Booth} {s : State} (h : (s.ctx b).state = .speech ∨ (s.ctx b).state = .swap)
    (ho : (s.debit b).outstanding = .none) : Settles b (ending b .forced s) (forceClearEvent b s) := by
  rw [forceClearEvent_else (not_preAnswer_of_metered h)]
  exact enterEnding_settles _ h ho

theorem forceClearEvent_ended {b : Booth} {s : State} (h : (s.ctx b).state.preAnswer = true) :
    EndedBeforeAnswer b .forced s (forceClearEvent b s) := by
  rw [forceClearEvent_unanswered h]
  exact endedBeforeAnswer b _ s

/-- HOOK ON by the state of the call: the report is the hook state put ON, then the end of the call if it has one. -/
theorem hookOnEvent_unanswered {b : Booth} {s : State} (h : (s.ctx b).state.preAnswer = true) :
    hookOnEvent b s = endBeforeAnswer b .boothHungUp (modCtx b (fun c => { c with hookOff := false }) s) := by
  unfold hookOnEvent
  dsimp only
  rw [if_pos (by rw [ctx_modCtx_self]; exact h)]

theorem hookOnEvent_else {b : Booth} {s : State} (h : ¬(s.ctx b).state.preAnswer = true) :
    hookOnEvent b s = enterEnding b .boothHungUp (modCtx b (fun c => { c with hookOff := false }) s) := by
  unfold hookOnEvent
  dsimp only
  rw [if_neg (by rw [ctx_modCtx_self]; exact h)]

end Sys2Proof.Machine

section
open Sys2Proof Sys2Proof.Machine

/-- Settles O17: both events end an unanswered call by R11 and put an answered one into ENDING. -/
theorem forceClearByState : Obligations.ForceClearByState := by
  refine ⟨?_, ?_⟩
  · intro o t b rest s args c hc he
    have busy : (s.ctx b).state ≠ .free →
        exec (.forceClear o t args) s = .next (doneWith c .none (forceClearEvent b (popped rest s))) :=
      exec_forceClear_busy hc he
    refine ⟨fun hs => ?_, fun hs => ?_, fun hs => ⟨_, busy (not_free_of_preAnswer hs), forceClearEvent_ended hs⟩,
      fun hs ho => ?_, fun hs ho => ⟨_, busy (not_free_of_metered hs), forceClearEvent_settles hs ho⟩⟩
    · have free : forceClearBooth b (popped rest s) = refusedWith .state (popped rest s) := forceClearBooth_free hs
      rw [exec_forceClear hc he, free, answerCommand_refusedWith _ (by decide)]
    · exact (busy (by rw [hs]; decide)).trans
        (congrArg (fun u => Host.Outcome.next (doneWith c .none u)) (forceClearEvent_ending hs))
    · exact (busy (not_free_of_metered hs)).trans
        (congrArg (fun u => Host.Outcome.next (doneWith c .none u)) (forceClearEvent_waits hs ho))
  · intro s b put u
    have state : (put.ctx b).state = (s.ctx b).state := by rw [ctx_modCtx_self]
    have debit : put.debit b = s.debit b := debit_modCtx b _ s b
    refine ⟨fun hs => ?_, fun hs => ?_, fun hs => ?_, rfl, rfl, fun hs => hookOffEvent_busy hs⟩
    · exact (hookOnEvent_else (not_preAnswer_of_rest hs)).trans
        (enterEnding_rests _ (by rw [state]; exact not_metered_of_rest hs))
    · have ends : u = _ := hookOnEvent_unanswered hs
      rw [ends]
      exact endedBeforeAnswer b _ _
    · have enters : u = _ := hookOnEvent_else (not_preAnswer_of_metered hs)
      rw [enters]
      rw [← state] at hs
      rw [← debit]
      exact ⟨enterEnding_waits _ hs, enterEnding_settles _ hs⟩

end
end

section
/-!
# Ticks and the max call time (R18, R72 to R74)
-/

namespace Sys2Proof.Machine

/-! ## A fault report (R177) -/

theorem faultTaken_reportFault (kind : FaultKind) (b : Booth) (plan : Fin 8) (digits : List Digit)
    (card : Option (BitVec 16 × BitVec 32)) (s : State) :
    FaultTaken { kind := kind, booth := b, plan := plan, digits := digits, card := card, clock := s.tariff.clock } s
      (reportFault kind b plan digits card s) := by
  unfold reportFault
  cases h : s.mgmt.faultHeld with
  | none =>
    exact ⟨fun _ => ⟨rfl, rfl, notePending_waiting .faultCaptured _⟩, fun hn => absurd h hn, rfl⟩
  | some x => exact ⟨fun hn => absurd (h.symm.trans hn) nofun, fun _ => rfl, rfl⟩

/-- A fault report reaches the Management Unit and the counters alone. -/
theorem reportFault_rest (kind : FaultKind) (b : Booth) (plan : Fin 8) (digits : List Digit)
    (card : Option (BitVec 16 × BitVec 32)) (s : State) :
    reportFault kind b plan digits card s = { s with
      mgmt := (reportFault kind b plan digits card s).mgmt
      counters := (reportFault kind b plan digits card s).counters } := by
  unfold reportFault
  cases s.mgmt.faultHeld <;> rfl

/-- What a report does to the Management Unit goes by the Management Unit. -/
theorem FaultTaken.congr {r : FaultReport} {s t s' t' : State} (h : FaultTaken r s t) (hs : s'.mgmt = s.mgmt)
    (ht : t'.mgmt = t.mgmt) : FaultTaken r s' t' := by
  obtain ⟨held, later, rest⟩ := h
  exact ⟨by rw [hs, ht]; exact held, by rw [hs, ht]; exact later, by rw [hs, ht]; exact rest⟩

/-! ## The charging of a tick (R72 to R74) -/

/-- A debit record after the duration and the charged total of a tick (R72 steps 1 and 2, R74). -/
def Debit.totalled (d : Debit) : Debit :=
  { d with
    duration := min Config.maxQuanta (d.duration + 1), charged := min Config.maxQuanta (d.charged + d.t.getD 0)
    chargeSaturated := d.chargeSaturated || decide (min Config.maxQuanta (d.charged + d.t.getD 0) = Config.maxQuanta) }

/-- A debit record after the balance of a tick (R72 step 3, R73). -/
def Debit.lowered (d : Debit) : Debit :=
  { d with p := lowerBalance d.p (d.t.getD 0), debtSaturated := d.debtSaturated || clamps d.p (d.t.getD 0)
           debtReported := d.debtReported || clamps d.p (d.t.getD 0) }

theorem chargeTotal_eq (b : Booth) (s : State) :
    ∃ counters, chargeTotal b s = { modDebit b Debit.totalled s with counters := counters } := by
  have same : modDebit b
      (fun d => { d with
        duration := min Config.maxQuanta (d.duration + 1),
        charged := min Config.maxQuanta ((s.debit b).charged + (s.debit b).t.getD 0),
        chargeSaturated := d.chargeSaturated ||
          decide (min Config.maxQuanta ((s.debit b).charged + (s.debit b).t.getD 0) = Config.maxQuanta) }) s =
      modDebit b Debit.totalled s := modDebit_congr rfl
  unfold chargeTotal
  dsimp only
  rw [same]
  split
  · exact ⟨_, rfl⟩
  · exact ⟨_, rfl⟩

/-- The report of the first tick of a call that the floor clamps (R73). -/
def debtReport (b : Booth) (s : State) : FaultReport :=
  { kind := .debtSaturated, booth := b, plan := (s.ctx b).plan, digits := (s.ctx b).walkDigits,
    card := ((s.debit b).cards.getLast?).map CardEntry.identity, clock := s.tariff.clock }

/-- The balance of a tick has been taken. -/
structure BalanceCharged (b : Booth) (s t : State) : Prop where
  debits : t.debits = (modDebit b Debit.lowered s).debits
  first : clamps (s.debit b).p ((s.debit b).t.getD 0) = true → (s.debit b).debtReported = false →
    FaultTaken (debtReport b s) s t
  quiet : (clamps (s.debit b).p ((s.debit b).t.getD 0) = false ∨ (s.debit b).debtReported = true) → t.mgmt = s.mgmt
  rest : t = { s with debits := t.debits, mgmt := t.mgmt, counters := t.counters }

theorem balanceCharged_chargeBalance (b : Booth) (s : State) : BalanceCharged b s (chargeBalance b s) := by
  have same : modDebit b
      (fun d => { d with
        p := lowerBalance d.p ((s.debit b).t.getD 0),
        debtSaturated := d.debtSaturated || clamps (s.debit b).p ((s.debit b).t.getD 0),
        debtReported := d.debtReported || clamps (s.debit b).p ((s.debit b).t.getD 0) }) s =
      modDebit b Debit.lowered s := modDebit_congr rfl
  unfold chargeBalance
  dsimp only
  rw [same]
  split
  · next h =>
    have rest := reportFault_rest .debtSaturated b (s.ctx b).plan (s.ctx b).walkDigits
      (((s.debit b).cards.getLast?).map CardEntry.identity) (bump Ctr.debtSaturatedCalls (modDebit b Debit.lowered s))
    have taken := faultTaken_reportFault .debtSaturated b (s.ctx b).plan (s.ctx b).walkDigits
      (((s.debit b).cards.getLast?).map CardEntry.identity) (bump Ctr.debtSaturatedCalls (modDebit b Debit.lowered s))
    generalize reportFault _ _ _ _ _ _ = t at rest taken ⊢
    refine ⟨by rw [rest]; rfl, fun _ _ => taken.congr rfl rfl, fun hq => ?_, by rw [rest]; rfl⟩
    rcases hq with hq | hq
    · rw [hq] at h
      exact absurd h.1 (by decide)
    · rw [hq] at h
      exact absurd h.2 (by decide)
  · next h => exact ⟨rfl, fun hc hr => absurd ⟨hc, hr⟩ h, fun _ => rfl, rfl⟩

/-- A debit record after a tick that charges t and falls due at i (R72). -/
def Debit.ticked (i : Instant) (t : Nat) (d : Debit) : Debit :=
  { d with
    nextTick := some (i + 400), duration := min 4294967295 (d.duration + 1),
    charged := min 4294967295 (d.charged + t), p := max (-8388608) (d.p - t),
    debtSaturated := d.debtSaturated || decide (d.p - t < -8388608),
    debtReported := d.debtReported || decide (d.p - t < -8388608),
    chargeSaturated := d.chargeSaturated || decide (4294967295 ≤ d.charged + t) }

/-- The record of a tick is put together of its next instant, its totals and its balance. -/
theorem lowered_totalled {d : Debit} {i : Instant} {t : Nat} (hi : d.nextTick = some i) (ht : d.t = some t) :
    Debit.lowered (Debit.totalled { d with nextTick := d.nextTick.map (· + Config.tick) }) = d.ticked i t := by
  have saturates : decide (min Config.maxQuanta (d.charged + t) = Config.maxQuanta) =
      decide (4294967295 ≤ d.charged + t) := decide_eq_decide.mpr min_eq_left_iff
  unfold Debit.lowered Debit.totalled Debit.ticked
  simp only [hi, ht, Option.getD_some, Option.map_some, saturates]
  rfl

/-- A tick that falls due at i, up to its units-due check (R72 steps 1 to 3). -/
def tickCharged (b : Booth) (i : Instant) (s : State) : State :=
  chargeBalance b (chargeTotal b (bump Ctr.ticks
    (modDebit b (fun d => { d with nextTick := d.nextTick.map (· + Config.tick) }) (reach i s))))

/-- The report that a tick charging t makes, or that it makes none (R73, R177). -/
def TickReported (b : Booth) (t : Nat) (s u : State) : Prop :=
  ((s.debit b).p - t < -8388608 → (s.debit b).debtReported = false → FaultTaken (debtReport b s) s u)
    ∧ (-8388608 ≤ (s.debit b).p - t ∨ (s.debit b).debtReported = true → u.mgmt = s.mgmt)

/-- A tick that falls due at i has charged t. -/
structure TickCharged (b : Booth) (i : Instant) (t : Nat) (s u : State) : Prop where
  debit : u.debit b = (s.debit b).ticked i t
  others : ∀ x, x ≠ b → u.debit x = s.debit x
  rest : u = { s with now := max s.now i, debits := u.debits, mgmt := u.mgmt, counters := u.counters }
  reports : TickReported b t s u
  settings : u.settings = s.settings

theorem clamps_iff (p : Int) (t : Nat) : clamps p t = true ↔ p - t < -8388608 := decide_eq_true_iff

theorem settings_tickCharged (b : Booth) (i : Instant) (s : State) : (tickCharged b i s).settings = s.settings :=
  chargeBalance_closed (settings_closed s.settings) (chargeTotal_closed (settings_closed s.settings) rfl)

theorem tickCharged_charged {b : Booth} {s : State} {i : Instant} {t : Nat} (hi : (s.debit b).nextTick = some i)
    (ht : (s.debit b).t = some t) : TickCharged b i t s (tickCharged b i s) := by
  have settings := settings_tickCharged b i s
  unfold tickCharged at settings ⊢
  obtain ⟨counters, total⟩ := chargeTotal_eq b (bump Ctr.ticks
    (modDebit b (fun d => { d with nextTick := d.nextTick.map (· + Config.tick) }) (reach i s)))
  rw [total] at settings ⊢
  generalize hu : ({ modDebit b Debit.totalled _ with counters := counters } : State) = u at settings ⊢
  have udebit : u.debit b = Debit.totalled { s.debit b with nextTick := (s.debit b).nextTick.map (· + Config.tick) } := by
    rw [← hu]
    refine (debit_modDebit_self b Debit.totalled _).trans (congrArg Debit.totalled ?_)
    rw [debit_bump, debit_modDebit_self, debit_reach]
  have uother : ∀ x, x ≠ b → u.debit x = s.debit x := fun x hx => by
    rw [← hu]
    refine (debit_modDebit_ne hx Debit.totalled _).trans ?_
    rw [debit_bump, debit_modDebit_ne hx, debit_reach]
  have urest : u = { s with now := max s.now i, debits := u.debits, counters := u.counters } := by
    rw [← hu]
    rfl
  clear hu total
  have balance : (u.debit b).p = (s.debit b).p ∧ (u.debit b).t.getD 0 = t
      ∧ (u.debit b).debtReported = (s.debit b).debtReported ∧ (u.debit b).cards = (s.debit b).cards := by
    rw [udebit]
    exact ⟨rfl, congrArg (Option.getD · 0) ht, rfl, rfl⟩
  obtain ⟨hp, htick, hreported, hcards⟩ := balance
  have umgmt : u.mgmt = s.mgmt := by rw [urest]
  have report : debtReport b u = debtReport b s := by
    unfold debtReport
    rw [hcards, urest]
    rfl
  obtain ⟨debits, first, quiet, rest⟩ := balanceCharged_chargeBalance b u
  generalize chargeBalance b u = v at debits first quiet rest settings ⊢
  have vdebit : ∀ x, v.debit x = (modDebit b Debit.lowered u).debit x := fun x => congrArg (·.get x) debits
  rw [hp, htick, hreported, report] at first
  rw [hp, htick, hreported] at quiet
  exact {
    debit := by rw [vdebit, debit_modDebit_self, udebit, lowered_totalled hi ht]
    others := fun x hx => by rw [vdebit, debit_modDebit_ne hx, uother x hx]
    rest := by
      rw [rest, urest]
    reports := ⟨fun hc hr => (first ((clamps_iff _ _).mpr hc) hr).congr umgmt.symm rfl, fun hq =>
      (quiet (hq.imp_left fun h => Bool.eq_false_iff.mpr fun hc => absurd ((clamps_iff _ _).mp hc) (Int.not_lt.mpr h))).trans
        umgmt⟩
    settings := settings }

/-! ## The max call time (R18) -/

theorem exec_tick (b : Booth) (s : State) : exec (.tick b) s = .next (tickEvent b s) := rfl

theorem exec_timeLimit (b : Booth) (s : State) : exec (.timeLimit b) s = .next (timeLimitCheck b s) := rfl

theorem tickEvent_metered {b : Booth} {s : State} {i : Instant} (hi : (s.debit b).nextTick = some i)
    (hm : (s.ctx b).state = .speech ∨ (s.ctx b).state = .swap) :
    tickEvent b s = timeLimitCheck b (unitsDue b (tickCharged b i s)) := by
  unfold tickEvent
  rw [hi]
  exact if_pos ((metered_iff _).mpr hm)

/-- The call has run to the max call time, where there is one. -/
theorem timeLimitCheck_reached {b : Booth} {s : State} (hm : (s.ctx b).state = .speech ∨ (s.ctx b).state = .swap)
    (hl : s.mgmt.limits.maxCall ≠ 0) (hd : s.mgmt.limits.maxCall * 600 ≤ (s.debit b).duration) :
    timeLimitCheck b s = enterEnding b .timeLimit s := if_pos ⟨(metered_iff _).mpr hm, hl, hd⟩

theorem timeLimitCheck_rests {b : Booth} {s : State} (h : s.mgmt.limits.maxCall = 0
    ∨ (s.debit b).duration < s.mgmt.limits.maxCall * 600 ∨ (s.ctx b).state.metered = false) :
    timeLimitCheck b s = s := by
  refine if_neg ?_
  rintro ⟨hm, hl, hd⟩
  rcases h with h | h | h
  · exact hl h
  · exact absurd hd (Nat.not_le.mpr h)
  · rw [h] at hm
    cases hm

/-! ## What the units-due check leaves -/

theorem unitsDue_cases (b : Booth) (s : State) :
    unitsDue b s = s ∨ (∃ i e n, unitsDue b s = postCancel b i e n false s)
      ∨ (s.ctx b).state = .speech ∧ unitsDue b s = exhaust b s := by
  unfold unitsDue
  dsimp only
  split_ifs with hd
  · cases hc : s.currentCard b with
    | none => exact Or.inl rfl
    | some ie =>
      obtain ⟨i, e⟩ := ie
      dsimp only
      split_ifs
      · exact Or.inr (Or.inl ⟨i, e, _, rfl⟩)
      · exact Or.inr (Or.inr ⟨hd.1, rfl⟩)
      · exact Or.inl rfl
  · exact Or.inl rfl

/-- The call it checks stays one in SPEECH or SWAP, as long as it was. -/
theorem unitsDue_keepsCall (b : Booth) (s : State) :
    ((unitsDue b s).debit b).duration = (s.debit b).duration
      ∧ (((s.ctx b).state = .speech ∨ (s.ctx b).state = .swap) →
          ((unitsDue b s).ctx b).state = .speech ∨ ((unitsDue b s).ctx b).state = .swap) := by
  rcases unitsDue_cases b s with h | ⟨i, e, n, h⟩ | ⟨hs, h⟩
  · rw [h]
    exact ⟨rfl, id⟩
  · rw [h]
    unfold postCancel postDebit
    rw [postTo_eq]
    refine ⟨?_, id⟩
    rw [debit_bump, debit_modBoothLine, debit_modDebit_self]
  · rw [h]
    unfold exhaust
    rw [postSignal_eq]
    have K : CardReleased b .exhausted (modBoothLine b (toldLine (some .creditExhausted)) s) _ :=
      cardReleased_releaseCard (by decide)
    generalize releaseCard b .exhausted _ = k at K ⊢
    have kctx : k.ctx b = s.ctx b := by rw [K.rest]; rfl
    rw [enterSwap_speech _ (by rw [kctx]; exact hs)]
    refine ⟨?_, fun _ => Or.inr ?_⟩
    · rw [debit_bump, debit_bump, debit_modCtx, K.rest]
      rfl
    · rw [ctx_bump, ctx_bump, ctx_modCtx_self]
      rfl

theorem limits_unitsDue (b : Booth) (s : State) : (unitsDue b s).mgmt.limits = s.mgmt.limits :=
  congrArg Settings.limits (settings_unitsDue b s)

end Sys2Proof.Machine

section
open Sys2Proof Sys2Proof.Machine

/-- Settles O48: a tick is its charging (`tickCharged_charged`), the units-due check (`unitsChecked_unitsDue`) and the
test of the max call time, and the last two look at what the charging left. -/
theorem tickCharges : Obligations.TickCharges := by
  refine ⟨fun s b i t hi ht => ?_, fun s b hm hl hd => ?_, fun s b h => ?_⟩
  · intro d d' reports within
    have C := tickCharged_charged hi ht
    have run : ((s.ctx b).state = .speech ∨ (s.ctx b).state = .swap) →
        exec (.tick b) s = .next (timeLimitCheck b (unitsDue b (tickCharged b i s))) := fun hm => by
      rw [exec_tick, tickEvent_metered hi hm]
    generalize tickCharged b i s = c at C run
    obtain ⟨debit, others, rest, reported, settings⟩ := C
    have cctx : ∀ x, c.ctx x = s.ctx x := fun x => by rw [rest]; rfl
    have climits : c.mgmt.limits = s.mgmt.limits := congrArg Settings.limits settings
    obtain ⟨duration, metered⟩ := unitsDue_keepsCall b c
    rw [debit] at duration
    rw [cctx] at metered
    have limits := (limits_unitsDue b c).trans climits
    have ends : within → timeLimitCheck b (unitsDue b c) = unitsDue b c := fun hw =>
      timeLimitCheck_rests (by rw [limits, duration]; exact hw.imp_right Or.inl)
    refine ⟨fun hs hw => ⟨c, ?_, debit, cctx b, ?_, fun x hx => ⟨others x hx, cctx x⟩, ?_, reported, settings⟩,
      fun hs hw hp => ⟨c, ?_, debit, cctx b, ?_, ?_, reported⟩, fun j e hs hw hp ho hc hu => ?_, fun hm => ?_⟩
    · rw [run (Or.inr hs), ends hw, unitsDue_rests (Or.inl (by rw [cctx, hs]; decide))]
    · rw [rest]
    · rw [rest]
    · rw [run (Or.inl hs), ends hw, unitsDue_rests (Or.inr (by rw [debit]; exact hp.imp_right Or.inl))]
    · rw [rest]
    · rw [rest]
    · have card : c.currentCard b = some (j, e) :=
        (currentCard_congr (by rw [rest]; rfl) (by rw [debit]; rfl)).trans hc
      obtain ⟨asked, posted, kept, -⟩ := (unitsChecked_unitsDue b c).asks (by rw [cctx]; exact hs)
        (by rw [debit]; exact hp) (by rw [debit]; exact ho) j e card hu
      rw [debit] at asked posted
      intro n
      refine ⟨unitsDue b c, by rw [run (Or.inl hs), ends hw], asked, ?_, ?_, fun hh => ?_⟩
      · rw [kept]
        exact cctx b
      · exact ⟨fun hq hr => (reported.1 hq hr).congr rfl (by rw [kept]), fun hq =>
          (congrArg State.mgmt kept).trans (reported.2 hq)⟩
      · have health : (c.boothLine b).health = .inService := by rw [rest]; exact hh
        exact posted (by rw [health]; decide) (by rw [health]; decide)
    · have speech := metered hm
      have reached : ¬within → timeLimitCheck b (unitsDue b c) = enterEnding b .timeLimit (unitsDue b c) := fun hw => by
        obtain ⟨hl, hd⟩ := not_or.mp hw
        exact timeLimitCheck_reached speech (by rw [limits]; exact hl)
          (by rw [limits, duration]; exact Nat.not_lt.mp hd)
      refine ⟨c, unitsDue b c, _, run hm, debit, others, rest, reported, settings, unitsChecked_unitsDue b c, ends,
        fun hw ho => ?_, fun hw ho => ?_⟩
      · rw [reached hw, enterEnding_waits _ speech ho]
      · rw [reached hw]
        exact enterEnding_settles _ speech ho
  · rw [exec_timeLimit, timeLimitCheck_reached hm hl hd]
    exact ⟨fun ho => by rw [enterEnding_awaits _ hm ho], fun ho => ⟨_, rfl, enterEnding_settles _ hm ho⟩⟩
  · rw [exec_timeLimit, timeLimitCheck_rests h]

end
end

section
/-!
# Digits forwarded and held (R5, R9, R10)
-/

namespace Sys2Proof.Machine

/-! ## Forwarding (R5) -/

variable {b : Booth} {d : Digit} {s : State}

/-- No digit is held and the queue has room. -/
theorem forward_offered (hh : (s.ctx b).held = []) (hr : s.sigRoom = true) :
    forward b d s = queueSig (.digit (s.entry b).channel d) s := by
  unfold forward
  dsimp only
  rw [if_pos (by rw [hh, hr]; rfl)]

theorem forward_queued (hh : (s.ctx b).held = []) (hl : s.trunk.linkUp = true) (hq : s.trunk.sigQueue.length < 64) :
    forward b d s =
      { s with trunk := { s.trunk with sigQueue := s.trunk.sigQueue ++ [.digit (s.entry b).channel d] } } := by
  rw [forward_offered hh (by rw [sigRoom_up hl]; exact decide_eq_true hq), queueSig_up _ hl]

theorem forward_lost (hh : (s.ctx b).held = []) (hl : s.trunk.linkUp = false) :
    forward b d s = bump Ctr.signallingDiscarded s := by
  rw [forward_offered hh (sigRoom_down hl), queueSig_down _ hl]

/-- An empty held list and room in the queue are what a digit that has to wait lacks. -/
theorem not_offered_iff :
    ¬((s.ctx b).held.isEmpty && s.sigRoom) = true ↔
      (s.ctx b).held ≠ [] ∨ (s.trunk.linkUp = true ∧ 64 ≤ s.trunk.sigQueue.length) := by
  rw [Bool.and_eq_true, List.isEmpty_iff, not_and_or]
  refine or_congr_right ?_
  cases hl : s.trunk.linkUp with
  | true => simp [sigRoom_up hl]
  | false => simp [sigRoom_down hl]

/-- The digit joins the held list and its booth the waiting list. -/
theorem forward_waits (hw : (s.ctx b).held ≠ [] ∨ (s.trunk.linkUp = true ∧ 64 ≤ s.trunk.sigQueue.length))
    (hn : (s.ctx b).held.length < 20) :
    forward b d s = { modCtx b (fun c => { c with held := c.held ++ [d] }) s with
      trunk := { s.trunk with
        waiting := if b ∈ s.trunk.waiting then s.trunk.waiting else s.trunk.waiting ++ [b] } } := by
  have joined : joinWaiting b (modCtx b (fun c => { c with held := c.held ++ [d] }) s) =
      { modCtx b (fun c => { c with held := c.held ++ [d] }) s with
        trunk := { s.trunk with
          waiting := if b ∈ s.trunk.waiting then s.trunk.waiting else s.trunk.waiting ++ [b] } } := by
    unfold joinWaiting modTrunk
    by_cases hb : b ∈ s.trunk.waiting
    · simp [hb]
    · simp [hb]
  unfold forward
  dsimp only
  rw [if_neg (not_offered_iff.mpr hw)]
  exact (if_pos hn).trans joined

theorem forward_full (hn : 20 ≤ (s.ctx b).held.length) : forward b d s = bump Ctr.digitsDiscarded s := by
  have held : (s.ctx b).held ≠ [] := fun h => by
    rw [h] at hn
    exact absurd hn (by decide)
  unfold forward
  dsimp only
  rw [if_neg (not_offered_iff.mpr (Or.inl held))]
  exact if_neg (Nat.not_lt.mpr hn)

/-- A digit meets one of four fates. -/
theorem forward_fates (b : Booth) (s : State) :
    ((s.ctx b).held = [] ∧ s.trunk.linkUp = true ∧ s.trunk.sigQueue.length < 64)
      ∨ ((s.ctx b).held = [] ∧ s.trunk.linkUp = false)
      ∨ (((s.ctx b).held ≠ [] ∨ (s.trunk.linkUp = true ∧ 64 ≤ s.trunk.sigQueue.length)) ∧
          (s.ctx b).held.length < 20)
      ∨ 20 ≤ (s.ctx b).held.length := by
  by_cases hn : 20 ≤ (s.ctx b).held.length
  · exact Or.inr (Or.inr (Or.inr hn))
  · by_cases hw : (s.ctx b).held ≠ [] ∨ (s.trunk.linkUp = true ∧ 64 ≤ s.trunk.sigQueue.length)
    · exact Or.inr (Or.inr (Or.inl ⟨hw, Nat.not_le.mp hn⟩))
    · obtain ⟨hh, hq⟩ := not_or.mp hw
      cases hl : s.trunk.linkUp with
      | true => exact Or.inl ⟨not_not.mp hh, rfl, Nat.not_le.mp fun h => hq ⟨hl, h⟩⟩
      | false => exact Or.inr (Or.inl ⟨not_not.mp hh, rfl⟩)

/-- The forwarding of a digit in full: `Forwarded` and what it leaves of the rest. -/
structure DigitForwarded (b : Booth) (d : Digit) (s t : State) : Prop extends Forwarded b d s t where
  call : t.ctx b = { s.ctx b with held := (t.ctx b).held }
  groups : ∀ g : Fin 12, g ≠ 0 → g ≠ 8 → t.counters.get g = s.counters.get g
  frame : t = { s with ctxs := t.ctxs, trunk := t.trunk, counters := t.counters }

theorem forwarded_forward (b : Booth) (d : Digit) (s : State) : Forwarded b d s (forward b d s) where
  queued hh hl hq := by
    rw [forward_queued hh hl hq]
    exact ⟨hh, rfl⟩
  lost hh hl := by
    rw [forward_lost hh hl]
    exact ⟨hh, rfl⟩
  waits hw hn := by
    rw [forward_waits hw hn]
    exact ⟨congrArg Ctx.held (ctx_modCtx_self b (fun c => { c with held := c.held ++ [d] }) s), rfl⟩
  full hn := by
    rw [forward_full hn]
    exact ⟨rfl, rfl⟩

theorem digitForwarded_forward (b : Booth) (d : Digit) (s : State) : DigitForwarded b d s (forward b d s) := by
  have fate := forwarded_forward b d s
  rcases forward_fates b s with ⟨hh, hl, hq⟩ | ⟨hh, hl⟩ | ⟨hw, hn⟩ | hn
  · rw [forward_queued hh hl hq] at fate ⊢
    exact ⟨fate, rfl, fun _ _ _ => rfl, rfl⟩
  · rw [forward_lost hh hl] at fate ⊢
    exact ⟨fate, rfl, fun _ _ h8 => group_bumpBy_ne h8.symm 1 s, rfl⟩
  · rw [forward_waits hw hn] at fate ⊢
    have call := ctx_modCtx_self b (fun c => { c with held := c.held ++ [d] }) s
    refine ⟨fate, ?_, fun _ _ _ => rfl, rfl⟩
    exact call.trans (congrArg (fun h => { s.ctx b with held := h }) (congrArg Ctx.held call).symm)
  · rw [forward_full hn] at fate ⊢
    exact ⟨fate, rfl, fun _ h0 _ => group_bumpBy_ne h0.symm 1 s, rfl⟩

/-- What is said of a digit's forwarding goes by the held digits, the Trunk Port and the map. -/
theorem Forwarded.congr {s' t : State} (h : Forwarded b d s t) (hc : (s.ctx b).held = (s'.ctx b).held)
    (ht : s.trunk = s'.trunk) (he : s.entry b = s'.entry b) : Forwarded b d s' t := by
  obtain ⟨queued, lost, waits, full⟩ := h
  rw [hc, ht] at queued lost waits full
  rw [he] at queued
  exact ⟨queued, lost, waits, full⟩

/-! ## A digit after the leaf (R10) -/

/-- A digit joins the digit list; one too many marks the list truncated, unless it is discarded (R10). -/
def Ctx.stores (d : Digit) (discarded : Bool) (c : Ctx) : Ctx :=
  if c.digits.length < 20 then { c with digits := c.digits ++ [d] }
  else { c with truncated := c.truncated || !discarded }

theorem Ctx.stores_held (discarded : Bool) (c : Ctx) : (c.stores d discarded).held = c.held := by
  unfold Ctx.stores
  split <;> rfl

theorem digitAfterLeaf_eq (b : Booth) (d : Digit) (s : State) :
    digitAfterLeaf b d s = forward b d (modCtx b (Ctx.stores d (s.forwardDiscards b)) s) := by
  unfold digitAfterLeaf
  dsimp only
  refine congrArg (forward b d) ?_
  by_cases hn : (s.ctx b).digits.length < 20
  · exact (if_neg fun h => absurd hn (Nat.not_lt.mpr (of_decide_eq_true h))).trans (modCtx_congr (if_pos hn).symm)
  · exact (if_pos (decide_eq_true (Nat.not_lt.mp hn))).trans (modCtx_congr (if_neg hn).symm)

/-- 20 held digits are what discards another. -/
theorem forwardDiscards_full (hn : 20 ≤ (s.ctx b).held.length) : s.forwardDiscards b = true := by
  have held : (s.ctx b).held ≠ [] := fun h => by
    rw [h] at hn
    exact absurd hn (by decide)
  unfold State.forwardDiscards
  dsimp only
  rw [Bool.eq_false_iff.mpr (not_offered_iff.mpr (Or.inl held))]
  exact decide_eq_true hn

theorem forwardDiscards_kept (hn : (s.ctx b).held.length < 20) : s.forwardDiscards b = false := by
  unfold State.forwardDiscards
  dsimp only
  rw [show decide (Config.digitsMax ≤ (s.ctx b).held.length) = false from decide_eq_false (Nat.not_le.mpr hn),
    Bool.and_false]

/-- The context of a call in ROUTED, SPEECH or SWAP with a digit stored that is not discarded (R10). -/
theorem stores_kept (d : Digit) (c : Ctx) :
    c.stores d false =
      if c.digits.length < 20 then { c with digits := c.digits ++ [d] } else { c with truncated := true } := by
  unfold Ctx.stores
  rw [Bool.not_false, Bool.or_true]

/-- And one that is. -/
theorem stores_discarded (d : Digit) (c : Ctx) :
    c.stores d true = if c.digits.length < 20 then { c with digits := c.digits ++ [d] } else c := by
  unfold Ctx.stores
  rw [Bool.not_true, Bool.or_false]

/-! ## A digit in CARD WAIT (R9) -/

theorem digitCardWait_stored (hn : (s.ctx b).digits.length < 20) :
    digitCardWait b d s =
      modCtx b (fun c => { c with digits := c.digits ++ [d], held := c.held ++ [d] }) s := by
  refine (if_pos hn).trans ?_
  unfold storeDigit
  rw [modCtx_modCtx]

theorem digitCardWait_discarded (hn : 20 ≤ (s.ctx b).digits.length) :
    digitCardWait b d s = bump Ctr.digitsDiscarded s := if_neg (Nat.not_lt.mpr hn)

end Sys2Proof.Machine
end

section
/-!
# The walk of a digit in DIALLING (R6, R7, R31)
-/

namespace Sys2Proof.Machine

variable {b : Booth} {d : Digit} {s : State}

/-! ## The card list and the credit check (R7, R101, R113) -/

theorem creditPasses_iff {r : CardRecord} {v w l : Nat} {p : Snapshot} (hs : s.slot b = .valid r v w l)
    (hp : (s.ctx b).snap = some p) :
    s.creditPasses b = true ↔
      ((p.setupCharged + s.tariff.charge p : Nat) : Int) ≤ ((r.face.toNat : Int) - (l : Int)) * (v : Int) := by
  unfold State.creditPasses
  rw [hs, hp]
  exact decide_eq_true_iff

/-- The LOW CREDIT test, as the model and as the statements read it (R113). -/
theorem warnsAt_lastKnown (e : CardEntry) :
    warnsAt e.lastKnown e = true ↔ 0 < e.remaining ∧ e.remaining ≤ (e.warn : Int) ∧ e.warned = false := by
  unfold warnsAt CardEntry.remaining remainingUnits
  cases e.warned <;> simp <;> omega

theorem modify_last {α : Type} (f : α → α) (x : α) (l : List α) : (l ++ [x]).modify l.length f = l ++ [f x] :=
  List.modifyTailIdx_add (List.modifyHead f) 0 l [x]

/-- The card of booth b's slot has joined its list as the entry e, with the LOW CREDIT test (R101, R113). -/
structure CardJoined (b : Booth) (e : CardEntry) (s t : State) : Prop where
  debit : t.debit b = { s.debit b with cards := (s.debit b).cards ++ [{ e with warned := warnsAt e.lastKnown e }] }
  line : t.boothLine b = toldLine (if warnsAt e.lastKnown e then some .lowCredit else none) (s.boothLine b)
  others : ∀ x, x ≠ b → t.debit x = s.debit x ∧ t.boothLine x = s.boothLine x
  rest : t = { s with debits := t.debits, line := { s.line with booths := t.line.booths } }

theorem cardJoined_joinList {r : CardRecord} {v w l : Nat} (hs : s.slot b = .valid r v w l) :
    CardJoined b (entryOfSlot r v w l) s (joinList b s) := by
  have unwarned : (entryOfSlot r v w l).warned = false := rfl
  unfold joinList
  rw [hs]
  dsimp only
  generalize entryOfSlot r v w l = e at unwarned ⊢
  have found : (((modDebit b (fun d => { d with cards := d.cards ++ [e] }) s).debit b).cards)[(s.debit b).cards.length]?
      = some e := by
    rw [debit_modDebit_self]
    exact List.getElem?_concat_length
  unfold lowCreditTest
  rw [found]
  dsimp only
  cases hw : warnsAt e.lastKnown e with
  | true =>
    rw [if_pos ((warnsAt_lastKnown e).mp hw), postSignal_eq]
    refine ⟨?_, ?_, fun x hx => ⟨?_, ?_⟩, rfl⟩
    · rw [debit_modDebit_self, debit_modBoothLine, debit_modDebit_self, hw, modify_last]
    · rw [boothLine_modDebit, boothLine_modBoothLine_self, hw]
      rfl
    · rw [debit_modDebit_ne hx, debit_modBoothLine, debit_modDebit_ne hx]
    · rw [boothLine_modDebit, boothLine_modBoothLine_ne hx, boothLine_modDebit]
  | false =>
    rw [if_neg fun h => by rw [(warnsAt_lastKnown e).mpr h] at hw; cases hw]
    refine ⟨?_, ?_, fun x hx => ⟨debit_modDebit_ne hx _ s, rfl⟩, rfl⟩
    · rw [debit_modDebit_self, hw, ← unwarned]
    · rw [hw]
      rfl

/-! ## What is left of the walk when the call ends (R6, R7, R11) -/

/-- The call has ended before answer with this cause, from a state s1 that the walk led to and that is as `kept` says. -/
def CallFreed (b : Booth) (cause : EndCause) (kept : State → Prop) (s t : State) : Prop :=
  ∃ s1, EndedBeforeAnswer b cause s1 t ∧ kept s1 ∧ (s1.ctx b).hookOff = (s.ctx b).hookOff
    ∧ (∀ x, x ≠ b → s1.ctx x = s.ctx x)
    ∧ s1 = { s with ctxs := s1.ctxs, route := s1.route, mgmt := s1.mgmt, counters := s1.counters }

/-- An end before answer counts in the groups CALLS and TRUNK alone. -/
theorem group_endBeforeAnswer {g : Fin 12} (h0 : g ≠ 0) (h8 : g ≠ 8) (b : Booth) (cause : EndCause) (s : State) :
    (endBeforeAnswer b cause s).counters.get g = s.counters.get g := by
  have R := channelFreed_releaseChannel b (!decide (cause = .exchangeCleared))
    (modBoothLine b (toldLine (endSignal cause)) (modCtx b (Ctx.endedWith cause) s))
  rw [endBeforeAnswer_eq, (drainTested_checkDrain _).rest]
  refine (group_bumpBy_ne ?_ 1 _).trans (R.groups g h8)
  rw [(preAnswer_place cause).1]
  exact h0.symm

theorem route_endBeforeAnswer (b : Booth) (cause : EndCause) (s : State) :
    (endBeforeAnswer b cause s).route = s.route := by
  rw [(endedBeforeAnswer b cause s).rest]

/-! ## A leaf (R6, R7) -/

/-- The context of a call whose walk has met a leaf, in ROUTED or on the way to it. -/
def Ctx.atLeaf (d : Digit) (snap : Snapshot) (common : Bool) (c : Ctx) : Ctx :=
  { c with state := .routed, depth := c.depth + 1, walk := .leaf snap.cls common, cls := some snap.cls,
           snap := some snap, digits := c.digits ++ [d], digitWait := none }

/-- A leaf has been met, its class DEFINED: what becomes of the call goes by the snapshot and the booth's slot. -/
structure LeafTaken (b : Booth) (d : Digit) (snap : Snapshot) (common : Bool) (s t : State) : Prop where
  cardless : snap.cardless = true →
    t.ctx b = { (s.ctx b).atLeaf d snap common with held := (t.ctx b).held } ∧ Forwarded b d s t ∧ t.card = s.card
      ∧ t.line = s.line ∧ t.ring = s.ring
  credit : snap.cardless = false → ∀ r v w l, s.slot b = .valid r v w l →
    ((snap.setup + s.tariff.charge snap : Nat) : Int) ≤ ((r.face.toNat : Int) - (l : Int)) * (v : Int) →
    t.ctx b = { (s.ctx b).atLeaf d snap common with cardWait := none, held := (t.ctx b).held }
      ∧ Forwarded b d s t ∧ t.card = s.card ∧ t.ring = s.ring ∧ CardJoined b (entryOfSlot r v w l) s { s with
        debits := t.debits, line := t.line }
  noCredit : snap.cardless = false → ∀ r v w l, s.slot b = .valid r v w l →
    ((r.face.toNat : Int) - (l : Int)) * (v : Int) < ((snap.setup + s.tariff.charge snap : Nat) : Int) →
    CallFreed b .credit (fun s1 => s1.mgmt = s.mgmt) s t
  noCard : snap.cardless = false → (∀ r v w l, s.slot b ≠ .valid r v w l) →
    t.ctx b = { (s.ctx b).atLeaf d snap common with
        state := .cardWait, held := (s.ctx b).held ++ [d]
        cardWait := some (s.now + s.mgmt.limits.cardWait * 4000) }
      ∧ t.trunk = { s.trunk with waiting := s.trunk.waiting.filter fun x => !decide (x = b) }
      ∧ t.ring = s.ring ∧ t.boothLine b = toldLine (some .insertCard) (s.boothLine b)
      ∧ ∀ x, x ≠ b → t.boothLine x = s.boothLine x

theorem isValid_eq_false_iff (x : CardSlot) : x.isValid = false ↔ ∀ r v w l, x ≠ .valid r v w l := by
  cases x with
  | valid r v w l => exact ⟨nofun, fun h => absurd rfl (h r v w l)⟩
  | empty => exact ⟨fun _ _ _ _ _ => nofun, fun _ => rfl⟩
  | refused r reason a => exact ⟨fun _ _ _ _ _ => nofun, fun _ => rfl⟩

/-- A call with a CARDLESS class is routed at once (R6). -/
theorem takeWalk_cardless {snap : Snapshot} (common : Bool) (hc : snap.cardless = true) :
    takeWalk b d (.leaf snap common) s = forward b d (modCtx b (Ctx.atLeaf d snap common) s) := by
  unfold takeWalk storeLeaf storeDigit
  dsimp only
  rw [if_pos hc, modCtx_modCtx, modCtx_modCtx]
  rfl

/-- A call whose card pays for it is routed with the card in its list (R7). -/
theorem takeWalk_credit {snap : Snapshot} (common : Bool) (hc : snap.cardless = false)
    (hv : (s.slot b).isValid = true) (hp : (storeLeaf b snap common s).creditPasses b = true) :
    takeWalk b d (.leaf snap common) s =
      forward b d (modCtx b (fun c => { c with state := .routed, digits := c.digits ++ [d], digitWait := none,
                                               cardWait := none }) (joinList b (storeLeaf b snap common s))) := by
  unfold takeWalk
  dsimp only
  rw [if_neg (by rw [hc]; decide), if_pos (show ((storeLeaf b snap common s).slot b).isValid = true from hv), if_pos hp]
  unfold storeDigit enterRouted
  rw [modCtx_modCtx]

theorem takeWalk_noCredit {snap : Snapshot} (common : Bool) (hc : snap.cardless = false)
    (hv : (s.slot b).isValid = true) (hp : (storeLeaf b snap common s).creditPasses b = false) :
    takeWalk b d (.leaf snap common) s = endBeforeAnswer b .credit (storeLeaf b snap common s) := by
  unfold takeWalk
  dsimp only
  rw [if_neg (by rw [hc]; decide), if_pos (show ((storeLeaf b snap common s).slot b).isValid = true from hv),
    if_neg (by rw [hp]; decide)]

/-- A call with no card waits for one (R6). -/
theorem takeWalk_noCard {snap : Snapshot} (common : Bool) (hc : snap.cardless = false)
    (hv : (s.slot b).isValid = false) :
    takeWalk b d (.leaf snap common) s =
      modBoothLine b (toldLine (some .insertCard)) (leaveWaiting b (modCtx b
        (fun c => { c.atLeaf d snap common with
          state := .cardWait, held := c.held ++ [d], cardWait := some (s.now + s.mgmt.limits.cardWait * 4000) })
        s)) := by
  unfold takeWalk
  dsimp only
  rw [if_neg (by rw [hc]; decide),
    if_neg (by rw [show ((storeLeaf b snap common s).slot b).isValid = false from hv]; decide)]
  unfold enterCardWait storeDigit storeLeaf
  rw [postSignal_eq, modCtx_modCtx, modCtx_modCtx]
  rfl

/-- What a routing of a call leads to: the digit is forwarded from the context that the leaf has made. -/
theorem digitForwarded_routed {f : Ctx → Ctx} {j : State} (hj : j.ctx b = s.ctx b) (ht : j.trunk = s.trunk)
    (he : j.entry b = s.entry b) (hf : (f (s.ctx b)).held = (s.ctx b).held) :
    (forward b d (modCtx b f j)).ctx b = { f (s.ctx b) with held := ((forward b d (modCtx b f j)).ctx b).held }
      ∧ Forwarded b d s (forward b d (modCtx b f j)) := by
  have made : (modCtx b f j).ctx b = f (s.ctx b) := by rw [ctx_modCtx_self, hj]
  obtain ⟨fate, call, -, -⟩ := digitForwarded_forward b d (modCtx b f j)
  rw [made] at call
  exact ⟨call, fate.congr (by rw [made, hf]) ht he⟩

theorem rest_routed (b : Booth) (d : Digit) (f : Ctx → Ctx) (j : State) :
    forward b d (modCtx b f j) = { j with
      ctxs := (forward b d (modCtx b f j)).ctxs, trunk := (forward b d (modCtx b f j)).trunk
      counters := (forward b d (modCtx b f j)).counters } := (digitForwarded_forward b d (modCtx b f j)).frame

theorem leafTaken_cardless (snap : Snapshot) (common : Bool) (hc : snap.cardless = true) :
    LeafTaken b d snap common s (takeWalk b d (.leaf snap common) s) where
  cardless _ := by
    rw [takeWalk_cardless common hc]
    obtain ⟨call, fate⟩ := digitForwarded_routed (d := d) (f := Ctx.atLeaf d snap common) (rfl : s.ctx b = s.ctx b) rfl rfl rfl
    have rest := rest_routed b d (Ctx.atLeaf d snap common) s
    refine ⟨call, fate, ?_, ?_, ?_⟩ <;> rw [rest]
  credit h := absurd (hc.symm.trans h) nofun
  noCredit h := absurd (hc.symm.trans h) nofun
  noCard h := absurd (hc.symm.trans h) nofun

theorem setupCharged_card {snap : Snapshot} (hc : snap.cardless = false) : snap.setupCharged = snap.setup :=
  if_neg (by rw [hc]; decide)

theorem ctx_storeLeaf (b : Booth) (snap : Snapshot) (common : Bool) (s : State) :
    (storeLeaf b snap common s).ctx b = { s.ctx b with
      depth := (s.ctx b).depth + 1, walk := .leaf snap.cls common, cls := some snap.cls, snap := some snap } :=
  ctx_modCtx_self b _ s

/-- The credit check at a leaf is made on the snapshot just stored (R7). -/
theorem creditPasses_storeLeaf {snap : Snapshot} (common : Bool) (hc : snap.cardless = false) {r : CardRecord}
    {v w l : Nat} (hs : s.slot b = .valid r v w l) :
    (storeLeaf b snap common s).creditPasses b = true ↔
      ((snap.setup + s.tariff.charge snap : Nat) : Int) ≤ ((r.face.toNat : Int) - (l : Int)) * (v : Int) := by
  have stored : ((storeLeaf b snap common s).ctx b).snap = some snap := congrArg Ctx.snap (ctx_storeLeaf b snap common s)
  have slot : (storeLeaf b snap common s).slot b = .valid r v w l := hs
  rw [creditPasses_iff slot stored, setupCharged_card hc]
  rfl

theorem CardJoined.congr {e : CardEntry} {u j t : State} (h : CardJoined b e u j) (hu : u.debits = s.debits)
    (hl : u.line = s.line) (hd : t.debits = j.debits) (hj : t.line = j.line) :
    CardJoined b e s { s with debits := t.debits, line := t.line } := by
  obtain ⟨debit, line, others, rest⟩ := h
  have debits : ∀ x, u.debit x = s.debit x := fun x => congrArg (·.get x) hu
  have lines : ∀ x, u.boothLine x = s.boothLine x := fun x => congrArg (fun l : Lines => l.booths.get x) hl
  rw [hd, hj]
  refine ⟨?_, ?_, fun x hx => ?_, ?_⟩
  · rw [← debits]
    exact debit
  · rw [← lines]
    exact line
  · rw [← debits, ← lines]
    exact others x hx
  · have kept : j.line = { s.line with booths := j.line.booths } := by
      rw [← hl]
      exact congrArg State.line rest
    exact congrArg (fun l => { s with debits := j.debits, line := l }) kept

theorem leafTaken_credit {snap : Snapshot} (common : Bool) (hc : snap.cardless = false) {r : CardRecord} {v w l : Nat}
    (hs : s.slot b = .valid r v w l)
    (hp : ((snap.setup + s.tariff.charge snap : Nat) : Int) ≤ ((r.face.toNat : Int) - (l : Int)) * (v : Int)) :
    let t := takeWalk b d (.leaf snap common) s
    t.ctx b = { (s.ctx b).atLeaf d snap common with cardWait := none, held := (t.ctx b).held }
      ∧ Forwarded b d s t ∧ t.card = s.card ∧ t.ring = s.ring
      ∧ CardJoined b (entryOfSlot r v w l) s { s with debits := t.debits, line := t.line } := by
  intro t
  have stored := ctx_storeLeaf b snap common s
  have joined : CardJoined b _ _ (joinList b (storeLeaf b snap common s)) :=
    cardJoined_joinList (show (storeLeaf b snap common s).slot b = .valid r v w l from hs)
  have routed : t = _ := takeWalk_credit common hc (by rw [hs]; rfl) ((creditPasses_storeLeaf common hc hs).mpr hp)
  clear_value t
  subst routed
  generalize hj : joinList b (storeLeaf b snap common s) = j at joined ⊢
  have jrest := joined.rest
  obtain ⟨call, fate⟩ := digitForwarded_routed (d := d) (s := storeLeaf b snap common s) (j := j)
    (f := fun c => { c with state := .routed, digits := c.digits ++ [d], digitWait := none, cardWait := none })
    (by rw [jrest]; rfl) (by rw [jrest]) (by rw [jrest]; rfl) rfl
  have rest := rest_routed b d
    (fun c => { c with state := .routed, digits := c.digits ++ [d], digitWait := none, cardWait := none }) j
  generalize forward b d _ = t at call fate rest ⊢
  rw [stored] at call
  refine ⟨call, fate.congr (by rw [stored]) rfl rfl, ?_, ?_, joined.congr rfl rfl ?_ ?_⟩
  · rw [rest, jrest]
    rfl
  · rw [rest, jrest]
    rfl
  · rw [rest]
  · rw [rest]

theorem leafTaken_noCredit {snap : Snapshot} (common : Bool) (hc : snap.cardless = false) {r : CardRecord} {v w l : Nat}
    (hs : s.slot b = .valid r v w l)
    (hp : ((r.face.toNat : Int) - (l : Int)) * (v : Int) < ((snap.setup + s.tariff.charge snap : Nat) : Int)) :
    CallFreed b .credit (fun s1 => s1.mgmt = s.mgmt) s (takeWalk b d (.leaf snap common) s) := by
  have fails : (storeLeaf b snap common s).creditPasses b = false :=
    Bool.eq_false_iff.mpr fun h => absurd ((creditPasses_storeLeaf common hc hs).mp h) (Int.not_le.mpr hp)
  rw [takeWalk_noCredit common hc (by rw [hs]; rfl) fails]
  refine ⟨_, endedBeforeAnswer b .credit _, rfl, ?_, fun x hx => ctx_modCtx_ne hx _ s, rfl⟩
  rw [ctx_storeLeaf]

/-- The leaf's part of the walk table of R6. -/
theorem leafTaken_takeWalk (b : Booth) (d : Digit) (snap : Snapshot) (common : Bool) (s : State) :
    LeafTaken b d snap common s (takeWalk b d (.leaf snap common) s) := by
  cases hc : snap.cardless with
  | true => exact leafTaken_cardless snap common hc
  | false =>
    refine ⟨fun h => absurd (hc.symm.trans h) nofun, fun _ r v w l hs hp => leafTaken_credit common hc hs hp,
      fun _ r v w l hs hp => leafTaken_noCredit common hc hs hp, fun _ hs => ?_⟩
    rw [takeWalk_noCard common hc ((isValid_eq_false_iff _).mpr hs)]
    refine ⟨?_, rfl, rfl, boothLine_modBoothLine_self b _ _, fun x hx => boothLine_modBoothLine_ne hx _ _⟩
    unfold leaveWaiting
    rw [ctx_modBoothLine, ctx_modTrunk, ctx_modCtx_self]

/-- What is said of a leaf met in w is said of it from s, which the walk has led to w with the route and the counters
changed alone. -/
theorem LeafTaken.of_walked {snap : Snapshot} {common : Bool} {w t : State} (h : LeafTaken b d snap common w t)
    (hw : w = { s with route := w.route, counters := w.counters }) : LeafTaken b d snap common s t := by
  generalize w.route = route at hw
  generalize w.counters = counters at hw
  subst hw
  obtain ⟨cardless, credit, noCredit, noCard⟩ := h
  refine ⟨fun hc => ?_, fun hc r v x l hs hp => ?_, noCredit, noCard⟩
  · obtain ⟨call, fate, rest⟩ := cardless hc
    exact ⟨call, fate.congr rfl rfl rfl, rest⟩
  · obtain ⟨call, fate, card, ring, joined⟩ := credit hc r v x l hs hp
    exact ⟨call, fate.congr rfl rfl rfl, card, ring, joined.congr rfl rfl rfl rfl⟩

/-- Nothing that a leaf leads to touches the route or counts in its group. -/
theorem route_takeWalk_leaf (b : Booth) (d : Digit) (snap : Snapshot) (common : Bool) (s : State) :
    (takeWalk b d (.leaf snap common) s).route = s.route
      ∧ (takeWalk b d (.leaf snap common) s).counters.get 1 = s.counters.get 1 := by
  cases hc : snap.cardless with
  | true =>
    rw [takeWalk_cardless common hc]
    obtain ⟨-, -, groups, frame⟩ := digitForwarded_forward b d (modCtx b (Ctx.atLeaf d snap common) s)
    exact ⟨by rw [frame]; rfl, groups 1 (by decide) (by decide)⟩
  | false =>
    cases hv : (s.slot b).isValid with
    | false =>
      rw [takeWalk_noCard common hc hv]
      exact ⟨rfl, rfl⟩
    | true =>
      cases hp : (storeLeaf b snap common s).creditPasses b with
      | false =>
        rw [takeWalk_noCredit common hc hv hp, route_endBeforeAnswer,
          group_endBeforeAnswer (by decide) (by decide)]
        exact ⟨rfl, rfl⟩
      | true =>
        rw [takeWalk_credit common hc hv hp]
        obtain ⟨e, joined⟩ :
            ∃ e, CardJoined b e (storeLeaf b snap common s) (joinList b (storeLeaf b snap common s)) := by
          cases hs : s.slot b with
          | valid r v w l =>
            exact ⟨_, cardJoined_joinList (show (storeLeaf b snap common s).slot b = .valid r v w l from hs)⟩
          | empty => rw [hs] at hv; cases hv
          | refused r x a => rw [hs] at hv; cases hv
        have jrest := joined.rest
        generalize joinList b (storeLeaf b snap common s) = j at jrest ⊢
        obtain ⟨-, -, groups, frame⟩ := digitForwarded_forward b d (modCtx b (fun c =>
          { c with state := .routed, digits := c.digits ++ [d], digitWait := none, cardWait := none }) j)
        refine ⟨?_, (groups 1 (by decide) (by decide)).trans ?_⟩
        · rw [frame, jrest]
          rfl
        · rw [jrest]
          rfl

end Sys2Proof.Machine
end

section
/-!
# One level of the walk (R31 to R37, R44 to R48)
-/

namespace Sys2Proof.Machine

variable {b : Booth} {d : Digit} {s : State}

/-! ## The cache (R44, R46 to R48) -/

theorem cacheLookup_none {str : List Digit} {tag : Fin 64} {cache : List CacheEntry}
    (h : ∀ x ∈ cache, ¬(x.digits = str ∧ (x.scope = .common ∨ x.scope = .tag tag))) :
    cacheLookup str tag cache = none := by
  refine List.find?_eq_none.mpr fun x hx hit => h x hx ?_
  unfold CacheEntry.hits at hit
  rw [Bool.and_eq_true, Bool.or_eq_true] at hit
  exact ⟨of_decide_eq_true hit.1, hit.2.imp of_decide_eq_true of_decide_eq_true⟩

/-- A fill with the scope of its leaf (R46, R47). -/
theorem cacheFill_eq (str : List Digit) (common : Bool) (tag : Fin 64) (cls : Fin 256) (cardless : Bool)
    (cache : List CacheEntry) :
    cacheFill { digits := str, scope := if common then .common else .tag tag, cls := cls, cardless := cardless } cache =
      ({ digits := str, scope := if common then .common else .tag tag, cls := cls, cardless := cardless } ::
        (if common then cache.filter (fun x => !decide (x.digits = str)) else cache)).take 32 := by
  cases common <;> rfl

/-! ## The walk step (R31) -/

theorem walkStep_miss
    (h : ∀ x ∈ s.route.cache, ¬(x.digits = (s.ctx b).digits ++ [d]
      ∧ (x.scope = .common ∨ x.scope = .tag (s.route.plans.get (s.ctx b).plan).tag))) :
    walkStep b d s =
      walkMiss b ((s.ctx b).digits ++ [d]) d (s.route.plans.get (s.ctx b).plan).tag (bump Ctr.digitsWalked s) := by
  have missed : cacheLookup ((s.ctx b).digits ++ [d]) (s.route.plans.get (s.ctx b).plan).tag
      (bump Ctr.digitsWalked s).route.cache = none := cacheLookup_none h
  unfold walkStep
  dsimp only
  rw [missed]

theorem walkStep_hit {e : CacheEntry}
    (h : cacheLookup ((s.ctx b).digits ++ [d]) (s.route.plans.get (s.ctx b).plan).tag s.route.cache = some e) :
    walkStep b d s = walkHit b ((s.ctx b).digits ++ [d]) e (bump Ctr.digitsWalked s) := by
  have hit : cacheLookup ((s.ctx b).digits ++ [d]) (s.route.plans.get (s.ctx b).plan).tag
      (bump Ctr.digitsWalked s).route.cache = some e := h
  unfold walkStep
  dsimp only
  rw [hit]

section
variable {str : List Digit} {tag : Fin 64}

theorem walkMiss_empty (h : s.route.treeEntry (s.ctx b).node d = .empty) :
    walkMiss b str d tag s = (.empty, bump Ctr.emptyResults (bump Ctr.cacheMisses s)) := by
  have read : (bump Ctr.cacheMisses s).route.treeEntry (s.ctx b).node d = .empty := h
  unfold walkMiss
  dsimp only
  rw [read]

theorem walkMiss_bar (h : s.route.treeEntry (s.ctx b).node d = .bar) :
    walkMiss b str d tag s = (.bar, bump Ctr.barResults (bump Ctr.cacheMisses s)) := by
  have read : (bump Ctr.cacheMisses s).route.treeEntry (s.ctx b).node d = .bar := h
  unfold walkMiss
  dsimp only
  rw [read]

theorem walkMiss_branch {next : Fin 1024} (h : s.route.treeEntry (s.ctx b).node d = .branch next) :
    walkMiss b str d tag s =
      if (s.ctx b).depth + 1 < 8 then (.branch next, bump Ctr.cacheMisses s)
      else (.fault, walkFault b .tree str (bump Ctr.cacheMisses s)) := by
  have read : (bump Ctr.cacheMisses s).route.treeEntry (s.ctx b).node d = .branch next := h
  unfold walkMiss
  dsimp only
  rw [read]

/-- The state after the walk step that filled the cache from a leaf. -/
def leafFilled (str : List Digit) (tag : Fin 64) (cls : Fin 256) (common cardless : Bool) (s : State) : State :=
  setCache
    (cacheFill { digits := str, scope := if common then .common else .tag tag, cls := cls, cardless := cardless }
      s.route.cache)
    (bump Ctr.cacheFills (bump Ctr.leaves (bump Ctr.cacheMisses s)))

theorem walkMiss_leaf {cls : Fin 256} {common : Bool} (h : s.route.treeEntry (s.ctx b).node d = .leaf cls common) :
    walkMiss b str d tag s =
      if (s.tariff.classRecord cls).defined then
        (.leaf ((s.tariff.classRecord cls).snapshot cls (s.tariff.classRecord cls).cardless) common,
          leafFilled str tag cls common (s.tariff.classRecord cls).cardless s)
      else (.fault, walkFault b .cls str (bump Ctr.cacheMisses s)) := by
  have read : (bump Ctr.cacheMisses s).route.treeEntry (s.ctx b).node d = .leaf cls common := h
  unfold walkMiss
  dsimp only
  rw [read]
  rfl

/-- The state after the walk step that a cache entry completed. -/
def entryTouched (e : CacheEntry) (s : State) : State := setCache (cacheTouch e s.route.cache) (bump Ctr.cacheHits s)

theorem entryTouched_rest (e : CacheEntry) (s : State) :
    entryTouched e (bump Ctr.digitsWalked s) = { s with
      route := (entryTouched e (bump Ctr.digitsWalked s)).route
      counters := (entryTouched e (bump Ctr.digitsWalked s)).counters } := rfl

theorem walkHit_eq (b : Booth) (str : List Digit) (e : CacheEntry) (s : State) :
    walkHit b str e s =
      if (s.tariff.classRecord e.cls).defined then
        (.leaf ((s.tariff.classRecord e.cls).snapshot e.cls e.cardless) (decide (e.scope = .common)),
          bump Ctr.leaves (entryTouched e s))
      else (.fault, walkFault b .cls str (entryTouched e s)) := rfl

end

/-! ## The outcomes of a walk step -/

/-- No entry of the cache serves the string that the digit completes (R44). -/
def CacheMisses (b : Booth) (d : Digit) (s : State) : Prop :=
  ∀ x ∈ s.route.cache, ¬(x.digits = (s.ctx b).digits ++ [d]
    ∧ (x.scope = .common ∨ x.scope = .tag (s.route.plans.get (s.ctx b).plan).tag))

/-- The state in which a walk step reads the tree. -/
def missed (s : State) : State := bump Ctr.cacheMisses (bump Ctr.digitsWalked s)

theorem missed_rest (s : State) :
    missed s = { s with route := (missed s).route, counters := (missed s).counters } := rfl

theorem walkStep_empty (hm : CacheMisses b d s) (hr : s.route.treeEntry (s.ctx b).node d = .empty) :
    walkStep b d s = (.empty, bump Ctr.emptyResults (missed s)) := by
  have read : (bump Ctr.digitsWalked s).route.treeEntry ((bump Ctr.digitsWalked s).ctx b).node d = .empty := hr
  rw [walkStep_miss hm, walkMiss_empty read]
  rfl

theorem walkStep_bar (hm : CacheMisses b d s) (hr : s.route.treeEntry (s.ctx b).node d = .bar) :
    walkStep b d s = (.bar, bump Ctr.barResults (missed s)) := by
  have read : (bump Ctr.digitsWalked s).route.treeEntry ((bump Ctr.digitsWalked s).ctx b).node d = .bar := hr
  rw [walkStep_miss hm, walkMiss_bar read]
  rfl

theorem walkStep_branch {next : Fin 1024} (hm : CacheMisses b d s)
    (hr : s.route.treeEntry (s.ctx b).node d = .branch next) (hdepth : (s.ctx b).depth < 7) :
    walkStep b d s = (.branch next, missed s) := by
  have read : (bump Ctr.digitsWalked s).route.treeEntry ((bump Ctr.digitsWalked s).ctx b).node d = .branch next := hr
  rw [walkStep_miss hm, walkMiss_branch read]
  exact if_pos (Nat.succ_lt_succ hdepth)

/-- A branch at the eighth level is a fault of the tree (R35, R37). -/
theorem walkStep_deep {next : Fin 1024} (hm : CacheMisses b d s)
    (hr : s.route.treeEntry (s.ctx b).node d = .branch next) (hdepth : 7 ≤ (s.ctx b).depth) :
    walkStep b d s = (.fault, walkFault b .tree ((s.ctx b).digits ++ [d]) (missed s)) := by
  have read : (bump Ctr.digitsWalked s).route.treeEntry ((bump Ctr.digitsWalked s).ctx b).node d = .branch next := hr
  rw [walkStep_miss hm, walkMiss_branch read]
  exact if_neg fun h => absurd (Nat.lt_of_succ_lt_succ h) (Nat.not_lt.mpr hdepth)

theorem walkStep_undefined {cls : Fin 256} {common : Bool} (hm : CacheMisses b d s)
    (hr : s.route.treeEntry (s.ctx b).node d = .leaf cls common) (hdef : (s.tariff.classRecord cls).defined = false) :
    walkStep b d s = (.fault, walkFault b .cls ((s.ctx b).digits ++ [d]) (missed s)) := by
  have read : (bump Ctr.digitsWalked s).route.treeEntry ((bump Ctr.digitsWalked s).ctx b).node d = .leaf cls common := hr
  rw [walkStep_miss hm, walkMiss_leaf read]
  exact if_neg (Bool.eq_false_iff.mp hdef)

theorem walkStep_leaf {cls : Fin 256} {common : Bool} (hm : CacheMisses b d s)
    (hr : s.route.treeEntry (s.ctx b).node d = .leaf cls common) (hdef : (s.tariff.classRecord cls).defined = true) :
    walkStep b d s =
      (.leaf ((s.tariff.classRecord cls).snapshot cls (s.tariff.classRecord cls).cardless) common,
        leafFilled ((s.ctx b).digits ++ [d]) (s.route.plans.get (s.ctx b).plan).tag cls common
          (s.tariff.classRecord cls).cardless (bump Ctr.digitsWalked s)) := by
  have read : (bump Ctr.digitsWalked s).route.treeEntry ((bump Ctr.digitsWalked s).ctx b).node d = .leaf cls common := hr
  rw [walkStep_miss hm, walkMiss_leaf read]
  exact if_pos hdef

section
variable {e : CacheEntry}

theorem walkStep_entry
    (h : cacheLookup ((s.ctx b).digits ++ [d]) (s.route.plans.get (s.ctx b).plan).tag s.route.cache = some e)
    (hdef : (s.tariff.classRecord e.cls).defined = true) :
    walkStep b d s =
      (.leaf ((s.tariff.classRecord e.cls).snapshot e.cls e.cardless) (decide (e.scope = .common)),
        bump Ctr.leaves (entryTouched e (bump Ctr.digitsWalked s))) := by
  rw [walkStep_hit h, walkHit_eq]
  exact if_pos hdef

theorem walkStep_entryUndefined
    (h : cacheLookup ((s.ctx b).digits ++ [d]) (s.route.plans.get (s.ctx b).plan).tag s.route.cache = some e)
    (hdef : (s.tariff.classRecord e.cls).defined = false) :
    walkStep b d s =
      (.fault, walkFault b .cls ((s.ctx b).digits ++ [d]) (entryTouched e (bump Ctr.digitsWalked s))) := by
  rw [walkStep_hit h, walkHit_eq]
  exact if_neg (Bool.eq_false_iff.mp hdef)

end

/-- The fills of the cache are not counted where an entry completes the step (R40). -/
theorem cacheFills_entryTouched (e : CacheEntry) (s : State) :
    (bump Ctr.leaves (entryTouched e (bump Ctr.digitsWalked s))).counter Ctr.cacheFills = s.counter Ctr.cacheFills :=
  calc
    _ = (bump Ctr.cacheHits (bump Ctr.digitsWalked s)).counter Ctr.cacheFills := counter_bumpBy_ne (by decide) 1 _
    _ = (bump Ctr.digitsWalked s).counter Ctr.cacheFills := counter_bumpBy_ne (by decide) 1 _
    _ = s.counter Ctr.cacheFills := counter_bumpBy_ne (by decide) 1 s

/-! ## A fault of the walk (R37) -/

/-- The report that a fault of the walk makes. -/
def walkReport (kind : FaultKind) (b : Booth) (str : List Digit) (s : State) : FaultReport :=
  { kind := kind, booth := b, plan := (s.ctx b).plan, digits := str, card := none, clock := s.tariff.clock }

theorem faultTaken_walkFault (b : Booth) (kind : FaultKind) (str : List Digit) (s : State) :
    FaultTaken (walkReport kind b str s) s (walkFault b kind str s)
      ∧ walkFault b kind str s =
          { s with mgmt := (walkFault b kind str s).mgmt, counters := (walkFault b kind str s).counters } := by
  have taken := faultTaken_reportFault kind b (s.ctx b).plan str none s
  have rest := reportFault_rest kind b (s.ctx b).plan str none s
  unfold walkFault
  dsimp only
  generalize reportFault kind b (s.ctx b).plan str none s = u at taken rest ⊢
  split
  · exact ⟨taken.congr rfl rfl, by rw [rest]; rfl⟩
  · exact ⟨taken.congr rfl rfl, by rw [rest]; rfl⟩

/-- A call that the walk ends with no fault (R6). -/
theorem callFreed_walked {w : State} (b : Booth) (cause : EndCause)
    (hw : w = { s with route := w.route, counters := w.counters }) :
    CallFreed b cause (fun s1 => s1.mgmt = s.mgmt) s (endBeforeAnswer b cause w) := by
  have calls : ∀ x, w.ctx x = s.ctx x := fun x => by
    rw [hw]
    rfl
  exact ⟨w, endedBeforeAnswer b cause w, by rw [hw], by rw [calls], fun x _ => calls x, by rw [hw]⟩

/-- A call that a fault of the walk ends (R6, R37). -/
theorem callFreed_fault {w : State} (b : Booth) (kind : FaultKind) (str : List Digit)
    (hw : w = { s with route := w.route, counters := w.counters }) :
    CallFreed b .barred (FaultTaken (walkReport kind b str s) s) s (endBeforeAnswer b .barred (walkFault b kind str w))
      ∧ (endBeforeAnswer b .barred (walkFault b kind str w)).route = w.route := by
  obtain ⟨taken, rest⟩ := faultTaken_walkFault b kind str w
  have report : walkReport kind b str w = walkReport kind b str s := by
    rw [hw]
    rfl
  rw [report] at taken
  generalize walkFault b kind str w = u at taken rest ⊢
  have calls : ∀ x, u.ctx x = s.ctx x := fun x => by
    rw [rest, hw]
    rfl
  refine ⟨⟨u, endedBeforeAnswer b .barred u, taken.congr (by rw [hw]) rfl, by rw [calls], fun x _ => calls x, ?_⟩, ?_⟩
  · rw [rest, hw]
  · rw [route_endBeforeAnswer, rest]

/-! ## A branch (R6, R33) -/

/-- The context of a call whose walk has met a branch. -/
def Ctx.stepped (d : Digit) (next : Fin 1024) (expiry : Instant) (c : Ctx) : Ctx :=
  { c with node := next, depth := c.depth + 1, digits := c.digits ++ [d], digitWait := some expiry }

theorem takeWalk_fault (b : Booth) (d : Digit) (s : State) : takeWalk b d .fault s = endBeforeAnswer b .barred s := rfl

theorem takeWalk_branch (b : Booth) (d : Digit) (next : Fin 1024) (s : State) :
    takeWalk b d (.branch next) s =
      forward b d (modCtx b (Ctx.stepped d next (s.now + s.mgmt.limits.digitWait * 4000)) s) := by
  unfold takeWalk storeDigit
  dsimp only
  rw [modCtx_modCtx]
  rfl

theorem digitDialling_noDigit (h : 10 ≤ d.val) : digitDialling b d s = endBeforeAnswer b .unobtainable s := if_pos h

/-- A branch keeps the call dialling, its digit forwarded (R6). -/
theorem stepped_branch (b : Booth) (d : Digit) (next : Fin 1024) (s : State) :
    let t := takeWalk b d (.branch next) (missed s)
    t.ctx b = { (s.ctx b).stepped d next (s.now + s.mgmt.limits.digitWait * 4000) with held := (t.ctx b).held }
      ∧ Forwarded b d s t ∧ t.card = s.card ∧ t.line = s.line ∧ t.route = s.route ∧ t.ring = s.ring := by
  intro t
  have step : t = forward b d (modCtx b (Ctx.stepped d next (s.now + s.mgmt.limits.digitWait * 4000)) (missed s)) :=
    takeWalk_branch b d next (missed s)
  have rest := rest_routed b d (Ctx.stepped d next (s.now + s.mgmt.limits.digitWait * 4000)) (missed s)
  have made : ((missed s).ctx b) = s.ctx b := rfl
  obtain ⟨call, fate⟩ := digitForwarded_routed (d := d)
    (f := Ctx.stepped d next (s.now + s.mgmt.limits.digitWait * 4000)) made rfl rfl rfl
  rw [← step] at call fate rest
  clear_value t
  refine ⟨call, fate, ?_, ?_, ?_, ?_⟩ <;> rw [rest] <;> rfl

/-! ## A digit in DIALLING (R6) -/

/-- The walk of a digit and what the call makes of it. -/
def digitWalked (b : Booth) (d : Digit) (s : State) : State := takeWalk b d (walkStep b d s).1 (walkStep b d s).2

theorem digitDialling_walks (h : d.val < 10) :
    digitDialling b d s = digitWalked b d s := if_neg (Nat.not_le.mpr h)

theorem digitWalked_empty (hm : CacheMisses b d s) (hr : s.route.treeEntry (s.ctx b).node d = .empty) :
    CallFreed b .unobtainable (fun s1 => s1.mgmt = s.mgmt) s (digitWalked b d s) ∧ (digitWalked b d s).route = s.route := by
  unfold digitWalked
  rw [walkStep_empty hm hr]
  exact ⟨callFreed_walked b .unobtainable rfl, route_endBeforeAnswer b .unobtainable _⟩

theorem digitWalked_bar (hm : CacheMisses b d s) (hr : s.route.treeEntry (s.ctx b).node d = .bar) :
    CallFreed b .barred (fun s1 => s1.mgmt = s.mgmt) s (digitWalked b d s) ∧ (digitWalked b d s).route = s.route := by
  unfold digitWalked
  rw [walkStep_bar hm hr]
  exact ⟨callFreed_walked b .barred rfl, route_endBeforeAnswer b .barred _⟩

theorem digitWalked_branch {next : Fin 1024} (hm : CacheMisses b d s)
    (hr : s.route.treeEntry (s.ctx b).node d = .branch next) (hdepth : (s.ctx b).depth < 7) :
    digitWalked b d s = takeWalk b d (.branch next) (missed s) := by
  unfold digitWalked
  rw [walkStep_branch hm hr hdepth]

theorem digitWalked_deep {next : Fin 1024} (hm : CacheMisses b d s)
    (hr : s.route.treeEntry (s.ctx b).node d = .branch next) (hdepth : 7 ≤ (s.ctx b).depth) :
    CallFreed b .barred (FaultTaken (walkReport .tree b ((s.ctx b).digits ++ [d]) s) s) s (digitWalked b d s)
      ∧ (digitWalked b d s).route = s.route := by
  unfold digitWalked
  rw [walkStep_deep hm hr hdepth]
  exact callFreed_fault b .tree _ (missed_rest s)

theorem digitWalked_undefined {cls : Fin 256} {common : Bool} (hm : CacheMisses b d s)
    (hr : s.route.treeEntry (s.ctx b).node d = .leaf cls common) (hdef : (s.tariff.classRecord cls).defined = false) :
    CallFreed b .barred (FaultTaken (walkReport .cls b ((s.ctx b).digits ++ [d]) s) s) s (digitWalked b d s)
      ∧ (digitWalked b d s).route = s.route := by
  unfold digitWalked
  rw [walkStep_undefined hm hr hdef]
  exact callFreed_fault b .cls _ (missed_rest s)

theorem digitWalked_leaf {cls : Fin 256} {common : Bool} (hm : CacheMisses b d s)
    (hr : s.route.treeEntry (s.ctx b).node d = .leaf cls common) (hdef : (s.tariff.classRecord cls).defined = true) :
    LeafTaken b d ((s.tariff.classRecord cls).snapshot cls (s.tariff.classRecord cls).cardless) common s
        (digitWalked b d s)
      ∧ (digitWalked b d s).route.cache =
          cacheFill
            { digits := (s.ctx b).digits ++ [d]
              scope := if common then .common else .tag (s.route.plans.get (s.ctx b).plan).tag
              cls := cls, cardless := (s.tariff.classRecord cls).cardless } s.route.cache := by
  unfold digitWalked
  rw [walkStep_leaf hm hr hdef]
  refine ⟨(leafTaken_takeWalk b d _ common _).of_walked rfl, ?_⟩
  exact congrArg Route.cache (route_takeWalk_leaf b d _ common _).1

section
variable {e : CacheEntry}

theorem digitWalked_entry
    (h : cacheLookup ((s.ctx b).digits ++ [d]) (s.route.plans.get (s.ctx b).plan).tag s.route.cache = some e)
    (hdef : (s.tariff.classRecord e.cls).defined = true) :
    LeafTaken b d ((s.tariff.classRecord e.cls).snapshot e.cls e.cardless) (decide (e.scope = .common)) s
        (digitWalked b d s)
      ∧ (digitWalked b d s).counter Ctr.cacheFills = s.counter Ctr.cacheFills
      ∧ (digitWalked b d s).route.cache = cacheTouch e s.route.cache := by
  unfold digitWalked
  rw [walkStep_entry h hdef]
  obtain ⟨route, group⟩ := route_takeWalk_leaf b d
    ((s.tariff.classRecord e.cls).snapshot e.cls e.cardless) (decide (e.scope = .common))
    (bump Ctr.leaves (entryTouched e (bump Ctr.digitsWalked s)))
  exact ⟨(leafTaken_takeWalk b d _ _ _).of_walked rfl, (counter_congr group).trans (cacheFills_entryTouched e s),
    congrArg Route.cache route⟩

theorem digitWalked_entryUndefined
    (h : cacheLookup ((s.ctx b).digits ++ [d]) (s.route.plans.get (s.ctx b).plan).tag s.route.cache = some e)
    (hdef : (s.tariff.classRecord e.cls).defined = false) :
    CallFreed b .barred (FaultTaken (walkReport .cls b ((s.ctx b).digits ++ [d]) s) s) s (digitWalked b d s)
      ∧ (digitWalked b d s).route.cache = cacheTouch e s.route.cache := by
  unfold digitWalked
  rw [walkStep_entryUndefined h hdef]
  obtain ⟨fault, route⟩ := callFreed_fault b .cls ((s.ctx b).digits ++ [d]) (entryTouched_rest e s)
  refine ⟨fault, ?_⟩
  rw [takeWalk_fault, route]
  rfl

end

/-! ## A DIGIT event by the state of its context -/

theorem digitEvent_dialling (h : (s.ctx b).state = .dialling) : digitEvent b d s = digitDialling b d s := by
  unfold digitEvent
  rw [h]

theorem digitEvent_cardWait (h : (s.ctx b).state = .cardWait) : digitEvent b d s = digitCardWait b d s := by
  unfold digitEvent
  rw [h]

theorem digitEvent_afterLeaf
    (h : (s.ctx b).state = .routed ∨ (s.ctx b).state = .speech ∨ (s.ctx b).state = .swap) :
    digitEvent b d s = digitAfterLeaf b d s := by
  unfold digitEvent
  rcases h with h | h | h <;> rw [h]

theorem digitEvent_noCall (h : (s.ctx b).state = .free ∨ (s.ctx b).state = .ending) :
    digitEvent b d s = bump Ctr.digitsDiscarded s := by
  unfold digitEvent
  rcases h with h | h <;> rw [h]

section
variable (h : (s.ctx b).state = .routed ∨ (s.ctx b).state = .speech ∨ (s.ctx b).state = .swap)
include h

theorem digitEvent_lost (hh : (s.ctx b).held = []) (hl : s.trunk.linkUp = false) :
    digitEvent b d s = bump Ctr.signallingDiscarded (modCtx b (Ctx.stores d false) s) := by
  have kept : s.forwardDiscards b = false := forwardDiscards_kept (by rw [hh]; decide)
  have down : (modCtx b (Ctx.stores d false) s).trunk.linkUp = false := hl
  rw [digitEvent_afterLeaf h, digitAfterLeaf_eq, kept, forward_lost (by rw [ctx_modCtx_self, Ctx.stores_held, hh]) down]

theorem digitEvent_full (hn : 20 ≤ (s.ctx b).held.length) :
    digitEvent b d s = bump Ctr.digitsDiscarded (modCtx b (Ctx.stores d true) s) := by
  rw [digitEvent_afterLeaf h, digitAfterLeaf_eq, forwardDiscards_full hn,
    forward_full (by rw [ctx_modCtx_self, Ctx.stores_held]; exact hn)]

theorem digitEvent_queued (hh : (s.ctx b).held = []) (hl : s.trunk.linkUp = true)
    (hq : s.trunk.sigQueue.length < 64) :
    digitEvent b d s = { modCtx b (Ctx.stores d false) s with
      trunk := { s.trunk with sigQueue := s.trunk.sigQueue ++ [.digit (s.entry b).channel d] } } := by
  have kept : s.forwardDiscards b = false := forwardDiscards_kept (by rw [hh]; decide)
  have up : (modCtx b (Ctx.stores d false) s).trunk.linkUp = true := hl
  rw [digitEvent_afterLeaf h, digitAfterLeaf_eq, kept,
    forward_queued (by rw [ctx_modCtx_self, Ctx.stores_held, hh]) up hq]
  rfl

theorem digitEvent_waits
    (hw : (s.ctx b).held ≠ [] ∨ (s.trunk.linkUp = true ∧ 64 ≤ s.trunk.sigQueue.length))
    (hn : (s.ctx b).held.length < 20) :
    digitEvent b d s = { modCtx b (fun c => { c.stores d false with held := c.held ++ [d] }) s with
      trunk := { s.trunk with
        waiting := if b ∈ s.trunk.waiting then s.trunk.waiting else s.trunk.waiting ++ [b] } } := by
  have held : ((modCtx b (Ctx.stores d false) s).ctx b).held = (s.ctx b).held := by
    rw [ctx_modCtx_self, Ctx.stores_held]
  have made : modCtx b (fun c => { c with held := c.held ++ [d] }) (modCtx b (Ctx.stores d false) s) =
      modCtx b (fun c => { c.stores d false with held := c.held ++ [d] }) s := by
    rw [modCtx_modCtx]
    exact modCtx_congr (by rw [Ctx.stores_held])
  rw [digitEvent_afterLeaf h, digitAfterLeaf_eq, forwardDiscards_kept hn,
    forward_waits (by rw [held]; exact hw) (by rw [held]; exact hn), made]
  rfl

end

end Sys2Proof.Machine

section
open Sys2Proof Sys2Proof.Machine

/-- Settles O45: a digit in DIALLING is one walk step, by the cache (`walkStep_entry`) or by the tree (`walkStep_branch`
and its companions), and what the call makes of its result (`leafTaken_takeWalk`, `stepped_branch`, `callFreed_walked`,
`callFreed_fault`); in the other states it is stored and forwarded (`digitEvent_queued` and its companions). -/
theorem digitWalksOneLevel : Obligations.DigitWalksOneLevel := by
  refine ⟨fun s b d hs hd => ?_, fun s b d hs hd => ?_, fun s b d => ?_⟩
  · intro c str tag t misses read freed quietly ended faulted leafTaken
    have run : t = digitWalked b d s := (digitEvent_dialling hs).trans (digitDialling_walks hd)
    clear_value t
    subst run
    have leaf : ∀ cls common r cardless, LeafTaken b d (ClassRecord.snapshot r cls cardless) common s (digitWalked b d s) →
        leafTaken cls common r cardless := by
      intro cls common r cardless L
      refine ⟨L.cardless, fun hc => ⟨fun x v w l hx => ⟨fun hp => ?_, L.noCredit hc x v w l hx⟩, L.noCard hc⟩⟩
      obtain ⟨call, fate, card, ring, debit, line, others, -⟩ := L.credit hc x v w l hx hp
      exact ⟨call, fate, card, ring, debit, line, others⟩
    refine ⟨fun next hm hr hdepth => ?_, digitWalked_empty, digitWalked_bar, fun next => digitWalked_deep,
      fun cls common => digitWalked_undefined, fun cls common r hm hr hcls hdef => ?_, fun x r hx hcls => ?_⟩
    · rw [digitWalked_branch hm hr hdepth]
      exact stepped_branch b d next s
    · subst hcls
      obtain ⟨taken, filled⟩ := digitWalked_leaf hm hr hdef
      exact ⟨leaf cls common _ _ taken, filled.trans (cacheFill_eq _ common _ cls _ _)⟩
    · subst hcls
      cases hdef : (s.tariff.classRecord x.cls).defined with
      | true =>
        obtain ⟨taken, fills, touched⟩ := digitWalked_entry hx hdef
        exact ⟨touched, fun _ => ⟨leaf _ _ _ _ taken, fills⟩, nofun⟩
      | false =>
        obtain ⟨fault, touched⟩ := digitWalked_entryUndefined hx hdef
        exact ⟨touched, nofun, fun _ => fault⟩
  · have ends : boothEvent b false (.digit d) s = endBeforeAnswer b .unobtainable s :=
      (digitEvent_dialling hs).trans (digitDialling_noDigit hd)
    rw [ends]
    exact endedBeforeAnswer b .unobtainable s
  · intro t c
    have event : t = digitEvent b d s := rfl
    clear_value t
    refine ⟨fun h => ?_, fun h hn => ?_, fun h => ?_⟩
    · rcases h with h | ⟨h, hn⟩
      · rw [event, digitEvent_noCall h]
      · rw [event, digitEvent_cardWait h, digitCardWait_discarded hn]
    · rw [event, digitEvent_cardWait h, digitCardWait_stored hn]
    · intro stored
      have same : Ctx.stores d false = stored := funext (stores_kept d)
      refine ⟨fun hh hl => ?_, fun hn => ?_, fun hh hl hq => ?_, fun hw hn => ?_⟩
      · rw [event, digitEvent_lost h hh hl, same]
      · rw [event, digitEvent_full h hn]
        refine congrArg (bump Ctr.digitsDiscarded) (modCtx_congr ((stores_discarded d c).trans ?_))
        split
        · next hd => exact (if_pos hd).symm
        · rfl
      · rw [event, digitEvent_queued h hh hl hq, same]
      · rw [event, digitEvent_waits h hw hn, same]

end
end

section
/-!
# What a command whose arguments are read first answers (R166)
-/

namespace Sys2Proof.Machine

section
variable {g : Group} {c : Cmd} {rest : List Cmd} {s : State} {α : Type} {x : Option α} {f : α → State → Carried}

theorem takeCommand_inRange {a : α} (h : CanTake g c rest s) (hx : x = some a) :
    takeCommand g c true (inRange x f) s = answerCommand c (f a (popped rest s)) := by
  rw [takeCommand_canTake h, hx, inRange_some]

theorem takeCommand_outOfRange (h : CanTake g c rest s) (hx : x = none) :
    takeCommand g c true (inRange x f) s = refusal c .range (popped rest s) := by
  rw [takeCommand_canTake h, hx, inRange_none, answerCommand_refusedWith c (by decide)]

end

/-! ## Argument fields -/

theorem finOf_eq_some {n v : Nat} {i : Fin n} : finOf n v = some i ↔ i.val = v := by
  constructor
  · intro h
    unfold finOf at h
    split at h
    · cases h
      rfl
    · cases h
  · rintro rfl
    exact finOf_of_lt i.isLt

theorem flagOf_eq_some {b : Byte} {v : Bool} : flagOf b = some v ↔ b.toNat ≤ 1 ∧ v = decide (b = 1#8) := by
  rcases Nat.lt_or_ge 1 b.toNat with h | h
  · rw [flagOf_of_ge h]
    exact ⟨nofun, fun e => absurd e.1 (by omega)⟩
  · rw [flagOf_of_le h, Option.some_inj]
    exact ⟨fun e => ⟨h, e.symm⟩, fun e => e.2.symm⟩

end Sys2Proof.Machine
end

section
/-!
# TREE WRITE and TREE READ (R26, R27)
-/

namespace Sys2Proof.Machine

/-! ## The arguments -/

section
variable {n1 n0 d kind x1 x0 c1 c0 common : Byte} {node : Fin 1024} {digit : Fin 10} {e : TreeEntry}

theorem treeEntryOf_eq_some : treeEntryOf kind x1 x0 c1 c0 common = some e ↔ NamesEntry kind x1 x0 c1 c0 common e := by
  unfold treeEntryOf NamesEntry
  split_ifs with empty branch leaf bar
  · subst empty
    simp [eq_comm]
  · subst branch
    rcases Nat.lt_or_ge (num2 x1 x0) 1024 with h | h
    · simp [finOf_of_lt h, h, eq_comm]
    · simp [finOf_of_le h, h]
  · subst leaf
    rcases Nat.lt_or_ge (num2 c1 c0) 256 with h | h
    · rcases Nat.lt_or_ge 1 common.toNat with hf | hf
      · simp [flagOf_of_ge hf, hf]
      · simp [finOf_of_lt h, flagOf_of_le hf, h, hf, eq_comm]
    · simp [finOf_of_le h, h]
  · subst bar
    simp [eq_comm]
  · simp [empty, branch, leaf, bar]

/-- A TREE WRITE is in range exactly when node, digit and entry each are (R26). -/
theorem treeWriteArgs_eq_some :
    treeWriteArgs [n1, n0, d, kind, x1, x0, c1, c0, common] = some (node, digit, e) ↔
      node.val = num2 n1 n0 ∧ digit.val = d.toNat ∧ NamesEntry kind x1 x0 c1 c0 common e := by
  rw [← finOf_eq_some, ← finOf_eq_some, ← treeEntryOf_eq_some]
  unfold treeWriteArgs
  dsimp only
  split
  next hnode hdigit hentry => simp [hnode, hdigit, hentry]
  next unnamed =>
    refine ⟨nofun, ?_⟩
    rintro ⟨hnode, hdigit, hentry⟩
    exact (unnamed _ _ _ hnode hdigit hentry).elim

theorem treeWriteArgs_eq_none
    (h : 1024 ≤ num2 n1 n0 ∨ 10 ≤ d.toNat ∨ ∀ e, ¬NamesEntry kind x1 x0 c1 c0 common e) :
    treeWriteArgs [n1, n0, d, kind, x1, x0, c1, c0, common] = none := by
  rw [Option.eq_none_iff_forall_ne_some]
  rintro ⟨node, digit, e⟩ named
  obtain ⟨hnode, hdigit, hentry⟩ := treeWriteArgs_eq_some.mp named
  rcases h with h | h | h
  · omega
  · omega
  · exact h e hentry

end

/-! ## The table -/

theorem treeKey_inj {n m : Fin 1024} {x y : Digit} (hx : x.val < 10) (hy : y.val < 10) :
    treeKey n x = treeKey m y ↔ n.val = m.val ∧ x.val = y.val := by
  unfold treeKey
  omega

/-- A written entry is read back, and every other entry is as before (R26). -/
theorem treeEntry_setTreeEntry (node : Fin 1024) (digit : Fin 10) (e : TreeEntry) (s : State) (n : Fin 1024) {x : Digit}
    (hx : x.val < 10) :
    (setTreeEntry node digit e s).route.treeEntry n x =
      if n.val = node.val ∧ x.val = digit.val then e else s.route.treeEntry n x := by
  have key := treeKey_inj (n := n) (m := node) (y := ⟨digit.val, by omega⟩) hx digit.isLt
  change smGet .empty (treeKey n x) (smPut .empty (treeKey node ⟨digit.val, by omega⟩) e s.route.tree) = _
  split
  next same => rw [key.mpr same, smGet_smPut_self]
  next other => exact smGet_smPut_ne _ (fun h => other (key.mp h)) _ _

theorem nodeEntries_eq (s : State) (node : Fin 1024) :
    s.nodeEntries node = (List.finRange 10).map fun x => s.route.treeEntry node ⟨x.val, by omega⟩ := by
  unfold State.nodeEntries
  rw [← List.map_coe_finRange_eq_range, List.map_map]
  rfl

/-! ## The rows -/

section
variable {o t n1 n0 d kind x1 x0 c1 c0 common : Byte} {rest : List Cmd} {s : State}

theorem exec_treeWrite {node : Fin 1024} {digit : Fin 10} {e : TreeEntry}
    (hc : CanTake .tariff ⟨o, t, 0x10#8, [n1, n0, d, kind, x1, x0, c1, c0, common]⟩ rest s)
    (hnode : node.val = num2 n1 n0) (hdigit : digit.val = d.toNat) (he : NamesEntry kind x1 x0 c1 c0 common e) :
    exec (.treeWrite o t [n1, n0, d, kind, x1, x0, c1, c0, common]) s =
      .next (doneWith ⟨o, t, 0x10#8, [n1, n0, d, kind, x1, x0, c1, c0, common]⟩ .none
        (bump Ctr.treeWrites (setTreeEntry node digit e (popped rest s)))) :=
  congrArg Host.Outcome.next ((takeCommand_inRange hc (treeWriteArgs_eq_some.mpr ⟨hnode, hdigit, he⟩)).trans
    (answerCommand_carriedOut _ _ _))

theorem exec_treeWrite_outOfRange
    (hc : CanTake .tariff ⟨o, t, 0x10#8, [n1, n0, d, kind, x1, x0, c1, c0, common]⟩ rest s)
    (h : 1024 ≤ num2 n1 n0 ∨ 10 ≤ d.toNat ∨ ∀ e, ¬NamesEntry kind x1 x0 c1 c0 common e) :
    exec (.treeWrite o t [n1, n0, d, kind, x1, x0, c1, c0, common]) s =
      .next (refusal ⟨o, t, 0x10#8, [n1, n0, d, kind, x1, x0, c1, c0, common]⟩ .range (popped rest s)) :=
  congrArg Host.Outcome.next (takeCommand_outOfRange hc (treeWriteArgs_eq_none h))

theorem exec_treeRead (hc : CanTake .read ⟨o, t, 0x70#8, [n1, n0]⟩ rest s) (h : num2 n1 n0 < 1024) :
    exec (.treeRead o t [n1, n0]) s =
      .next (doneWith ⟨o, t, 0x70#8, [n1, n0]⟩ (.tree (s.nodeEntries ⟨num2 n1 n0, h⟩)) (popped rest s)) :=
  congrArg Host.Outcome.next ((takeCommand_inRange (x := nodeArg [n1, n0]) hc (finOf_of_lt h)).trans
    (answerCommand_carriedOut _ _ _))

theorem exec_treeRead_outOfRange (hc : CanTake .read ⟨o, t, 0x70#8, [n1, n0]⟩ rest s) (h : 1024 ≤ num2 n1 n0) :
    exec (.treeRead o t [n1, n0]) s = .next (refusal ⟨o, t, 0x70#8, [n1, n0]⟩ .range (popped rest s)) :=
  congrArg Host.Outcome.next (takeCommand_outOfRange (x := nodeArg [n1, n0]) hc (finOf_of_le h))

end

end Sys2Proof.Machine

section
open Sys2Proof Sys2Proof.Machine

/-- Settles O5: the arguments are in range exactly when they name a node, a digit and an entry (`treeWriteArgs_eq_some`),
and the write reaches that key of the tree alone (`treeEntry_setTreeEntry`). -/
theorem treeWriteAndRead : Obligations.TreeWriteAndRead := by
  refine ⟨?_, ?_⟩
  · intro o t n1 n0 d kind x1 x0 c1 c0 common rest s args hc
    refine ⟨fun e hnode hdigit he => ?_, exec_treeWrite_outOfRange hc⟩
    exact ⟨_, exec_treeWrite (node := ⟨_, hnode⟩) (digit := ⟨_, hdigit⟩) hc rfl rfl he,
      fun n x hx => treeEntry_setTreeEntry ⟨_, hnode⟩ ⟨_, hdigit⟩ e s n hx⟩
  · intro o t n1 n0 rest s hc
    refine ⟨fun h => ?_, exec_treeRead_outOfRange hc⟩
    rw [exec_treeRead hc h, nodeEntries_eq]

end
end

section
/-!
# PLAN WRITE and PLAN READ (R28, R29)
-/

namespace Sys2Proof.Machine

/-! ## The arguments -/

section
variable {p r1 r0 tag st : Byte}

/-- A PLAN WRITE is in range exactly when each of its fields is (R28). -/
theorem planWriteArgs_eq_some {q : Fin 8} {x : Plan} :
    planWriteArgs [p, r1, r0, tag, st] = some (q, x) ↔
      q.val = p.toNat ∧ x.root.val = num2 r1 r0 ∧ x.tag.val = tag.toNat ∧ st.toNat ≤ 1
        ∧ x.enabled = decide (st = 1#8) := by
  obtain ⟨root, planTag, enabled⟩ := x
  rw [← finOf_eq_some, ← finOf_eq_some, ← finOf_eq_some, ← flagOf_eq_some]
  unfold planWriteArgs
  dsimp only
  split
  next hp hr ht hs => simp [hp, hr, ht, hs]
  next unnamed =>
    refine ⟨nofun, ?_⟩
    rintro ⟨hp, hr, ht, hs⟩
    exact (unnamed _ _ _ _ hp hr ht hs).elim

theorem planWriteArgs_eq_none (h : 8 ≤ p.toNat ∨ 1024 ≤ num2 r1 r0 ∨ 64 ≤ tag.toNat ∨ 2 ≤ st.toNat) :
    planWriteArgs [p, r1, r0, tag, st] = none := by
  rw [Option.eq_none_iff_forall_ne_some]
  rintro ⟨q, x⟩ named
  obtain ⟨hp, hr, ht, hs, -⟩ := planWriteArgs_eq_some.mp named
  omega

end

/-! ## The rows -/

section
variable {o t p r1 r0 tag st : Byte} {rest : List Cmd} {s : State}

theorem exec_planWrite {q : Fin 8} {x : Plan}
    (hc : CanTake .tariff ⟨o, t, 0x11#8, [p, r1, r0, tag, st]⟩ rest s)
    (hx : planWriteArgs [p, r1, r0, tag, st] = some (q, x)) :
    exec (.planWrite o t [p, r1, r0, tag, st]) s =
      .next (doneWith ⟨o, t, 0x11#8, [p, r1, r0, tag, st]⟩ .none (bump Ctr.planWrites (setPlan q x (popped rest s)))) :=
  congrArg Host.Outcome.next ((takeCommand_inRange hc hx).trans (answerCommand_carriedOut _ _ _))

theorem exec_planWrite_outOfRange (hc : CanTake .tariff ⟨o, t, 0x11#8, [p, r1, r0, tag, st]⟩ rest s)
    (h : 8 ≤ p.toNat ∨ 1024 ≤ num2 r1 r0 ∨ 64 ≤ tag.toNat ∨ 2 ≤ st.toNat) :
    exec (.planWrite o t [p, r1, r0, tag, st]) s =
      .next (refusal ⟨o, t, 0x11#8, [p, r1, r0, tag, st]⟩ .range (popped rest s)) :=
  congrArg Host.Outcome.next (takeCommand_outOfRange hc (planWriteArgs_eq_none h))

theorem exec_planRead (hc : CanTake .read ⟨o, t, 0x71#8, [p]⟩ rest s) (hp : p.toNat < 8) :
    exec (.planRead o t [p]) s =
      .next (doneWith ⟨o, t, 0x71#8, [p]⟩ (.plan (s.route.plans.get ⟨p.toNat, hp⟩)) (popped rest s)) :=
  congrArg Host.Outcome.next ((takeCommand_inRange (x := byteArg 8 [p]) hc (finOf_of_lt hp)).trans
    (answerCommand_carriedOut _ _ _))

theorem exec_planRead_outOfRange (hc : CanTake .read ⟨o, t, 0x71#8, [p]⟩ rest s) (hp : 8 ≤ p.toNat) :
    exec (.planRead o t [p]) s = .next (refusal ⟨o, t, 0x71#8, [p]⟩ .range (popped rest s)) :=
  congrArg Host.Outcome.next (takeCommand_outOfRange (x := byteArg 8 [p]) hc (finOf_of_le hp))

end

end Sys2Proof.Machine

section
open Sys2Proof Sys2Proof.Machine

/-- Settles O6: the arguments are in range exactly when each field is (`planWriteArgs_eq_some`), and the write replaces
that record whole. -/
theorem planWriteAndRead : Obligations.PlanWriteAndRead := by
  refine ⟨?_, ?_⟩
  · intro o t p r1 r0 tag st rest s args hc
    refine ⟨fun hp hr ht hs => ?_, exec_planWrite_outOfRange hc⟩
    have named : planWriteArgs args =
        some (⟨p.toNat, hp⟩, { root := ⟨num2 r1 r0, hr⟩, tag := ⟨tag.toNat, ht⟩, enabled := decide (st = 1#8) }) :=
      planWriteArgs_eq_some.mpr ⟨rfl, rfl, rfl, hs, rfl⟩
    exact exec_planWrite hc named
  · intro o t p rest s hc
    exact ⟨exec_planRead hc, exec_planRead_outOfRange hc⟩

end
end

section
/-!
# What leaves the Route Unit alone

Only a walk step, a fence, a restart and the writes of tree and plans reach the Route Unit. Of every other operation one
lemma here says so: its branches are split as the definition writes them, and the lemmas of the operations it calls
close each.
-/

namespace Sys2Proof.Machine

variable {b : Booth} {s : State}

theorem route_foldl {β : Type} {f : State → β → State} (h : ∀ t x, (f t x).route = t.route) (l : List β) :
    (l.foldl f s).route = s.route :=
  foldl_closed (P := fun t => t.route = s.route) (fun t x ht => (h t x).trans ht) l rfl

/-! ## What is posted, reported and queued (R135, R146 to R149, R177, R181) -/

@[simp] theorem route_postTo (f : BoothLine → BoothLine) : (postTo b f s).route = s.route := by
  unfold postTo
  split <;> simp

@[simp] theorem route_postSignal (sig : Signal) : (postSignal b sig s).route = s.route := by simp [postSignal]

@[simp] theorem route_postDebit (w : DebitWork) : (postDebit b w s).route = s.route := by simp [postDebit]

@[simp] theorem route_postCardAction (a : CardAction) : (postCardAction b a s).route = s.route := by
  simp [postCardAction]

@[simp] theorem route_withdrawCardAction : (withdrawCardAction b s).route = s.route := rfl

@[simp] theorem route_clearPending : (clearPending b s).route = s.route := rfl

@[simp] theorem route_notePending (c : NoticeCause) : (notePending c s).route = s.route := rfl

@[simp] theorem route_reportFault (kind : FaultKind) (plan : Fin 8) (digits : List Digit)
    (card : Option (BitVec 16 × BitVec 32)) :
    (reportFault kind b plan digits card s).route = s.route := by
  unfold reportFault
  split <;> simp

@[simp] theorem route_signalBooths (p : Booth → Bool) (sig : Signal) : (signalBooths p sig s).route = s.route :=
  route_foldl (fun t x => by split <;> simp) _

@[simp] theorem route_releaseCard (reason : CardReason) : (releaseCard b reason s).route = s.route := by
  unfold releaseCard
  repeat' split
  all_goals simp

@[simp] theorem route_queueSig (f : SigFrame) : (queueSig f s).route = s.route := by
  unfold queueSig
  split <;> simp

@[simp] theorem route_oweHangup (ch : Channel) : (oweHangup ch s).route = s.route := by
  unfold oweHangup
  split <;> simp

@[simp] theorem route_joinWaiting : (joinWaiting b s).route = s.route := rfl

@[simp] theorem route_leaveWaiting : (leaveWaiting b s).route = s.route := rfl

@[simp] theorem route_offerSlot : (offerSlot s).route = s.route := by
  unfold offerSlot
  repeat' split
  all_goals simp

@[simp] theorem route_offerSlotsFuel (n : Nat) : (offerSlotsFuel n s).route = s.route := by
  induction n generalizing s with
  | zero => rfl
  | succ n ih =>
    unfold offerSlotsFuel
    split <;> simp [ih]

@[simp] theorem route_offerSlots : (offerSlots s).route = s.route := by simp [offerSlots]

@[simp] theorem route_forward (d : Digit) : (forward b d s).route = s.route := by
  unfold forward
  dsimp only
  split_ifs <;> simp

@[simp] theorem route_releaseHeldFuel (n : Nat) : (releaseHeldFuel n b s).route = s.route := by
  induction n generalizing s with
  | zero => rfl
  | succ n ih =>
    unfold releaseHeldFuel
    repeat' split
    all_goals simp [ih]

@[simp] theorem route_releaseHeld : (releaseHeld b s).route = s.route := by simp [releaseHeld]

@[simp] theorem route_releaseChannel (owe : Bool) : (releaseChannel b owe s).route = s.route := by
  unfold releaseChannel
  dsimp only
  split <;> simp

/-! ## Booth health, drains, tickets and bands -/

@[simp] theorem route_enterTaken : (enterTaken b s).route = s.route := by simp [enterTaken]

@[simp] theorem route_honourMark : (honourMark b s).route = s.route := by
  unfold honourMark
  split <;> simp

@[simp] theorem route_checkDrain : (checkDrain s).route = s.route := by
  unfold checkDrain
  split <;> simp

@[simp] theorem route_writeTicket : (writeTicket b s).route = s.route := by
  unfold writeTicket
  dsimp only
  split <;> simp

@[simp] theorem route_giveBackReservation : (giveBackReservation s).route = s.route := rfl

@[simp] theorem route_evaluateBand : (evaluateBand b s).route = s.route := by
  unfold evaluateBand
  split <;> simp

@[simp] theorem route_evaluateAll : (evaluateAll s).route = s.route := route_foldl (fun t x => by split <;> simp) _

/-! ## The ends of calls (R11, R16 to R20, R22) -/

@[simp] theorem route_freeContext : (freeContext b s).route = s.route := rfl

@[simp] theorem route_complete (eject : Bool) : (complete b eject s).route = s.route := by
  unfold complete
  dsimp only
  repeat' split
  all_goals simp

@[simp] theorem route_postCancel (i : Nat) (e : CardEntry) (n : Nat) (final : Bool) :
    (postCancel b i e n final s).route = s.route := by
  simp [postCancel]

@[simp] theorem route_settled : (settled b s).route = s.route := by simp [settled]

@[simp] theorem route_finalTest : (finalTest b s).route = s.route := by
  unfold finalTest
  dsimp only
  repeat' split
  all_goals simp

@[simp] theorem route_beginSettle : (beginSettle b s).route = s.route := by
  unfold beginSettle
  split <;> simp

@[simp] theorem route_enterEnding (cause : EndCause) : (enterEnding b cause s).route = s.route := by
  unfold enterEnding
  split <;> simp

@[simp] theorem route_settleOn (final : Bool) : (settleOn b final s).route = s.route := by
  unfold settleOn
  split <;> simp

@[simp] theorem route_makeUncertain (a : Ask) (report : Bool) : (makeUncertain b a report s).route = s.route := by
  unfold makeUncertain
  dsimp only
  split_ifs <;> simp

@[simp] theorem route_dropOutstanding (report : Bool) : (dropOutstanding b report s).route = s.route := by
  unfold dropOutstanding
  split <;> simp

@[simp] theorem route_cutShort : (cutShort b s).route = s.route := by simp [cutShort]

@[simp] theorem route_endForHealth (cause : EndCause) : (endForHealth b cause s).route = s.route := by
  unfold endForHealth
  dsimp only
  split_ifs <;> simp [route_endBeforeAnswer]

@[simp] theorem route_endForReset (cause : EndCause) : (endForReset cause b s).route = s.route := by
  unfold endForReset
  dsimp only
  split_ifs <;> simp

/-! ## The Debit Unit (R71 to R76, R104 to R117) -/

@[simp] theorem route_enterSwap (cause : EndCause) : (enterSwap b cause s).route = s.route := by
  unfold enterSwap
  split <;> simp

@[simp] theorem route_exhaust : (exhaust b s).route = s.route := by simp [exhaust]

@[simp] theorem route_unitsDue : (unitsDue b s).route = s.route := by
  unfold unitsDue
  dsimp only
  repeat' split
  all_goals simp

@[simp] theorem route_lowCreditTest (i : Nat) : (lowCreditTest b i s).route = s.route := by
  unfold lowCreditTest
  repeat' split
  all_goals simp

@[simp] theorem route_countSignals (i : Nat) : (countSignals b i s).route = s.route := by
  unfold countSignals
  repeat' split
  all_goals simp

@[simp] theorem route_setSlotCount (i count : Nat) : (setSlotCount b i count s).route = s.route := by
  unfold setSlotCount
  repeat' split
  all_goals simp

@[simp] theorem route_dropRecord (i k : Nat) : (dropRecord b i k s).route = s.route := by
  unfold dropRecord
  repeat' split
  all_goals simp

@[simp] theorem route_confirm (i k count : Nat) : (confirm b i k count s).route = s.route := by simp [confirm]

@[simp] theorem route_goOn (final : Bool) : (goOn b final s).route = s.route := by
  unfold goOn
  split <;> simp

@[simp] theorem route_clearOutstanding : (clearOutstanding b s).route = s.route := rfl

@[simp] theorem route_countFault (i : Nat) : (countFault b i s).route = s.route := by
  unfold countFault
  dsimp only
  split_ifs <;> simp

@[simp] theorem route_countReply (a : Ask) (count : Nat) : (countReply b a count s).route = s.route := by
  unfold countReply
  repeat' split
  all_goals simp

@[simp] theorem route_writeErrorReply (a : Ask) (count : Nat) : (writeErrorReply b a count s).route = s.route := by
  unfold writeErrorReply
  dsimp only
  repeat' split
  all_goals simp

@[simp] theorem route_markCardLeft : (markCardLeft b s).route = s.route := rfl

@[simp] theorem route_cardGone (final : Bool) : (cardGone b final s).route = s.route := by
  unfold cardGone
  split <;> simp

@[simp] theorem route_noCardReply (a : Ask) : (noCardReply b a s).route = s.route := by simp [noCardReply]

@[simp] theorem route_missedCancel (a : Ask) : (missedCancel b a s).route = s.route := by simp [missedCancel]

@[simp] theorem route_uncertainReply (a : Ask) : (uncertainReply b a s).route = s.route := by simp [uncertainReply]

@[simp] theorem route_debitOutcome (reply : Option BoothReply) : (debitOutcome b reply s).route = s.route := by
  unfold debitOutcome
  repeat' split
  all_goals simp

@[simp] theorem route_compareCount (i count : Nat) : (compareCount b i count s).route = s.route := by
  unfold compareCount
  repeat' split
  all_goals simp

@[simp] theorem route_lateResolution (u : Uncertain) (count : Nat) :
    (lateResolution b u count s).route = s.route := by
  unfold lateResolution
  repeat' split
  all_goals simp

@[simp] theorem route_takeCount (i count : Nat) : (takeCount b i count s).route = s.route := by
  unfold takeCount
  dsimp only
  repeat' split
  all_goals simp

@[simp] theorem route_countAtStatus (identity : BitVec 16 × BitVec 32) (count : Nat) :
    (countAtStatus b identity count s).route = s.route := by
  unfold countAtStatus
  repeat' split
  all_goals simp

@[simp] theorem route_joinList : (joinList b s).route = s.route := by
  unfold joinList
  split <;> simp

@[simp] theorem route_returnToSpeech : (returnToSpeech b s).route = s.route := by simp [returnToSpeech]

@[simp] theorem route_swapOffer : (swapOffer b s).route = s.route := by
  unfold swapOffer
  dsimp only
  repeat' split
  all_goals simp

@[simp] theorem route_startDebit : (startDebit b s).route = s.route := by simp [startDebit]

@[simp] theorem route_chargeTotal : (chargeTotal b s).route = s.route := by
  unfold chargeTotal
  dsimp only
  split <;> simp

@[simp] theorem route_chargeBalance : (chargeBalance b s).route = s.route := by
  unfold chargeBalance
  dsimp only
  split <;> simp

@[simp] theorem route_timeLimitCheck : (timeLimitCheck b s).route = s.route := by
  unfold timeLimitCheck
  dsimp only
  split <;> simp

@[simp] theorem route_takeTick : (takeTick b s).route = s.route := by simp [takeTick]

/-! ## Admission, digits, the exchange (R3 to R14) -/

@[simp] theorem route_walkFault (kind : FaultKind) (str : List Digit) : (walkFault b kind str s).route = s.route := by
  unfold walkFault
  split <;> simp

@[simp] theorem route_enterRouted : (enterRouted b s).route = s.route := by simp [enterRouted]

@[simp] theorem route_creditCheckWaiting : (creditCheckWaiting b s).route = s.route := by
  unfold creditCheckWaiting
  split <;> simp [route_endBeforeAnswer]

@[simp] theorem route_admitCall : (admitCall b s).route = s.route := by simp [admitCall]

@[simp] theorem route_refuseAdmission (cause : RefusalCause) : (refuseAdmission b cause s).route = s.route := by
  unfold refuseAdmission
  split <;> simp

@[simp] theorem route_hookOffEvent : (hookOffEvent b s).route = s.route := by
  unfold hookOffEvent
  dsimp only
  repeat' split
  all_goals simp

@[simp] theorem route_hookOnEvent : (hookOnEvent b s).route = s.route := by
  unfold hookOnEvent
  dsimp only
  split_ifs <;> simp [route_endBeforeAnswer]

@[simp] theorem route_storeLeaf (snap : Snapshot) (common : Bool) : (storeLeaf b snap common s).route = s.route := rfl

@[simp] theorem route_storeDigit (d : Digit) : (storeDigit b d s).route = s.route := rfl

@[simp] theorem route_enterCardWait (d : Digit) : (enterCardWait b d s).route = s.route := by simp [enterCardWait]

@[simp] theorem route_takeWalk (d : Digit) (o : WalkOutcome) : (takeWalk b d o s).route = s.route := by
  cases o with
  | leaf snap common => exact (route_takeWalk_leaf b d snap common s).1
  | branch next => simp [takeWalk]
  | empty => exact route_endBeforeAnswer b .unobtainable s
  | bar => exact route_endBeforeAnswer b .barred s
  | fault => exact route_endBeforeAnswer b .barred s

@[simp] theorem route_digitCardWait (d : Digit) : (digitCardWait b d s).route = s.route := by
  unfold digitCardWait
  split <;> simp

@[simp] theorem route_digitAfterLeaf (d : Digit) : (digitAfterLeaf b d s).route = s.route := by
  unfold digitAfterLeaf
  dsimp only
  split <;> simp

@[simp] theorem route_answerEvent : (answerEvent b s).route = s.route := by
  unfold answerEvent
  split <;> simp [route_endBeforeAnswer]

@[simp] theorem route_clearEvent : (clearEvent b s).route = s.route := by
  unfold clearEvent
  split_ifs <;> simp [route_endBeforeAnswer]

@[simp] theorem route_forceClearEvent : (forceClearEvent b s).route = s.route := by
  unfold forceClearEvent
  split <;> simp [route_endBeforeAnswer]

/-! ## The Card Unit (R82 to R91) -/

@[simp] theorem route_slotBecameValid : (slotBecameValid b s).route = s.route := by
  unfold slotBecameValid
  repeat' split
  all_goals simp

@[simp] theorem route_slotLeftValid (wasCurrent : Bool) : (slotLeftValid b wasCurrent s).route = s.route := by
  unfold slotLeftValid
  repeat' split
  all_goals simp [route_endBeforeAnswer]

@[simp] theorem route_emptySlotReported : (emptySlotReported b s).route = s.route := by
  unfold emptySlotReported
  split <;> simp

@[simp] theorem route_countProbe (r : CardRecord) : (countProbe r s).route = s.route := by
  unfold countProbe
  repeat' split
  all_goals simp

@[simp] theorem route_acceptCard (r : CardRecord) (unitValue warn : Nat) :
    (acceptCard b r unitValue warn s).route = s.route := by
  simp [acceptCard]

@[simp] theorem route_refuseCard (r : CardRecord) (reason : CardReason) (action : StopAction) :
    (refuseCard b r reason action s).route = s.route := by
  unfold refuseCard
  split <;> simp

@[simp] theorem route_refuseOutOfOrder (r : CardRecord) : (refuseOutOfOrder b r s).route = s.route := by
  simp [refuseOutOfOrder]

@[simp] theorem route_judgeCard (r : CardRecord) : (judgeCard b r s).route = s.route := by
  unfold judgeCard
  repeat' split
  all_goals simp

@[simp] theorem route_replaceCard (r : CardRecord) : (replaceCard b r s).route = s.route := by simp [replaceCard]

@[simp] theorem route_cardInEvent (marker : Bool) (r : CardRecord) : (cardInEvent b marker r s).route = s.route := by
  unfold cardInEvent
  dsimp only
  repeat' split
  all_goals simp

@[simp] theorem route_cardOutEvent : (cardOutEvent b s).route = s.route := by
  unfold cardOutEvent
  split <;> simp

@[simp] theorem route_enterReader : (enterReader b s).route = s.route := by simp [enterReader]

@[simp] theorem route_readerFaultEvent : (readerFaultEvent b s).route = s.route := by
  unfold readerFaultEvent
  dsimp only
  split <;> simp

@[simp] theorem route_enterLost : (enterLost b s).route = s.route := by simp [enterLost]

@[simp] theorem route_emptyRefused : (emptyRefused b s).route = s.route := by
  unfold emptyRefused
  split <;> simp

@[simp] theorem route_ejectOutcome (reply : BoothReply) : (ejectOutcome b reply s).route = s.route := by
  unfold ejectOutcome
  split <;> simp

@[simp] theorem route_retainOutcome (reply : BoothReply) : (retainOutcome b reply s).route = s.route := by
  unfold retainOutcome
  repeat' split
  all_goals simp

/-! ## The Line Controllers (R127 to R138) -/

@[simp] theorem route_sendGrant (g : Segment) (k : WorkClass) : (sendGrant g k b s).route = s.route := by
  simp [sendGrant]

@[simp] theorem route_arbiterTurn (g : Segment) : (arbiterTurn g s).route = s.route := by
  unfold arbiterTurn
  repeat' split
  all_goals simp

@[simp] theorem route_handMiss (t : Transaction) : (handMiss t s).route = s.route := by
  unfold handMiss
  split <;> simp

@[simp] theorem route_missHealth : (missHealth b s).route = s.route := by
  unfold missHealth
  dsimp only
  repeat' split
  all_goals simp

@[simp] theorem route_missProbe : (missProbe b s).route = s.route := by
  unfold missProbe
  split <;> simp

@[simp] theorem route_closeMiss (g : Segment) (t : Transaction) : (closeMiss g t s).route = s.route := by
  unfold closeMiss
  split_ifs <;> simp

@[simp] theorem route_garbledFrame (g : Segment) : (garbledFrame g s).route = s.route := by
  unfold garbledFrame
  dsimp only
  split <;> simp

@[simp] theorem route_probeReturn : (probeReturn b s).route = s.route := by
  unfold probeReturn
  split <;> simp

@[simp] theorem route_clearServed (t : Transaction) : (clearServed t s).route = s.route := by
  unfold clearServed
  cases t.request <;> rfl

@[simp] theorem route_windowExpiry (g : Segment) : (windowExpiry g s).route = s.route := by
  unfold windowExpiry
  split <;> simp

@[simp] theorem route_windowHoldExpiry (g : Segment) : (windowHoldExpiry g s).route = s.route := by
  unfold windowHoldExpiry
  split <;> simp

@[simp] theorem route_probeExpiry : (probeExpiry b s).route = s.route := by
  unfold probeExpiry
  split <;> simp

/-! ## Timers and clock (R8, R63, R72) -/

@[simp] theorem route_digitWaitExpires : (digitWaitExpires b s).route = s.route := by
  unfold digitWaitExpires
  dsimp only
  repeat' split
  all_goals simp [route_endBeforeAnswer]

@[simp] theorem route_cardWaitExpires : (cardWaitExpires b s).route = s.route := by
  unfold cardWaitExpires
  dsimp only
  repeat' split
  all_goals simp [route_endBeforeAnswer]

@[simp] theorem route_swapWindowExpires : (swapWindowExpires b s).route = s.route := by
  unfold swapWindowExpires
  dsimp only
  repeat' split
  all_goals simp

@[simp] theorem route_tickEvent : (tickEvent b s).route = s.route := by
  unfold tickEvent
  repeat' split
  all_goals simp

@[simp] theorem route_clockAdvance : (clockAdvance s).route = s.route := by
  unfold clockAdvance
  dsimp only
  split_ifs <;> simp

@[simp] theorem route_minuteTurn : (minuteTurn s).route = s.route := by
  unfold minuteTurn
  split <;> simp

/-! ## The Trunk Port and the replies (R141 to R152) -/

@[simp] theorem route_validFrame : (validFrame s).route = s.route := rfl

@[simp] theorem route_discardFrame (reason : TrunkDiscard) : (discardFrame reason s).route = s.route := bump_route _ _

@[simp] theorem route_answerFrame (ch : Channel) : (answerFrame ch s).route = s.route := by
  unfold answerFrame
  dsimp only
  split <;> simp

@[simp] theorem route_clearFrame (ch : Channel) : (clearFrame ch s).route = s.route := by
  unfold clearFrame
  dsimp only
  split <;> simp

@[simp] theorem route_commandFrame (c : Cmd) : (commandFrame c s).route = s.route := by
  unfold commandFrame
  dsimp only
  split <;> simp

@[simp] theorem route_dropLink : (dropLink s).route = s.route := by simp [dropLink]

@[simp] theorem route_endUnanswered : (endUnanswered s).route = s.route :=
  route_foldl (fun t x => by split <;> simp [route_endBeforeAnswer]) _

@[simp] theorem route_silenceExpiry : (silenceExpiry s).route = s.route := by
  unfold silenceExpiry
  split <;> simp

@[simp] theorem route_syncExpiry : (syncExpiry s).route = s.route := rfl

@[simp] theorem route_transmit (f : OutFrame) : (transmit f s).route = s.route := rfl

@[simp] theorem route_sendSync : (sendSync s).route = s.route := rfl

@[simp] theorem route_sendHangup (ch : Channel) : (sendHangup ch s).route = s.route := rfl

@[simp] theorem route_sendSig (f : SigFrame) : (sendSig f s).route = s.route := by simp [sendSig]

@[simp] theorem route_sendReply (r : Reply) : (sendReply r s).route = s.route := rfl

@[simp] theorem route_sendNotice : (sendNotice s).route = s.route := by
  unfold sendNotice
  dsimp only
  split <;> simp

@[simp] theorem route_chooseFrame : (chooseFrame s).route = s.route := by
  unfold chooseFrame
  repeat' split
  all_goals simp

@[simp] theorem route_transmitStart : (transmitStart s).route = s.route := by
  unfold transmitStart
  split <;> simp

@[simp] theorem route_transmitComplete : (transmitComplete s).route = s.route := by
  unfold transmitComplete
  split <;> simp

@[simp] theorem route_noticeHoldExpiry : (noticeHoldExpiry s).route = s.route := by
  unfold noticeHoldExpiry
  split <;> simp

@[simp] theorem route_offerReply (r : Reply) : (offerReply r s).route = s.route := by
  unfold offerReply
  split <;> simp

/-! ## Resets and the Booth Map (R125, R170, R171) -/

theorem route_forBooths {p : Booth → Bool} {f : Booth → State → State} (h : ∀ x t, (f x t).route = t.route) :
    (forBooths p f s).route = s.route := route_foldl (fun t x => by split <;> simp [h]) _

@[simp] theorem route_oweAll (chs : List Channel) : (oweAll chs s).route = s.route :=
  route_foldl (fun _ ch => route_oweHangup ch) _

@[simp] theorem route_resetBooths (p : Booth → Bool) : (resetBooths p s).route = s.route :=
  route_forBooths fun _ _ => rfl

@[simp] theorem route_withdrawSegment (g : Segment) : (withdrawSegment g s).route = s.route := by
  simp [withdrawSegment]

@[simp] theorem route_segmentResetPart (g : Segment) : (segmentResetPart g s).route = s.route := by
  simp [segmentResetPart, route_forBooths]

@[simp] theorem route_setEntry (e : MapEntry) : (setEntry b e s).route = s.route := rfl

@[simp] theorem route_orphanOpen (g : Segment) : (orphanOpen b g s).route = s.route := by simp [orphanOpen]

@[simp] theorem route_disableBooth (g : Segment) : (disableBooth b g s).route = s.route := by simp [disableBooth]

@[simp] theorem route_enableBooth : (enableBooth b s).route = s.route := rfl

@[simp] theorem route_mapEffect (old new : MapEntry) : (mapEffect b old new s).route = s.route := by
  unfold mapEffect
  repeat' split
  all_goals simp

end Sys2Proof.Machine
end

section
/-!
# The Tariff Cache serves a lookup from one entry at most (R42 to R50)
-/

namespace Sys2Proof.Machine

/-! ## Lists of entries that no two lookups share -/

theorem hits_iff {str : List Digit} {tag : Fin 64} {e : CacheEntry} :
    e.hits str tag = true ↔ e.digits = str ∧ (e.scope = .common ∨ e.scope = .tag tag) := by
  simp [CacheEntry.hits]

theorem cacheLookup_eq_none {str : List Digit} {tag : Fin 64} {cache : List CacheEntry} :
    cacheLookup str tag cache = none ↔ ∀ x ∈ cache, ¬(x.digits = str ∧ (x.scope = .common ∨ x.scope = .tag tag)) := by
  refine ⟨fun missed x hx served => ?_, cacheLookup_none⟩
  exact List.find?_eq_none.mp missed x hx (hits_iff.mpr served)

/-- No lookup is served by both entries (R44). -/
def CacheEntry.Apart (e f : CacheEntry) : Prop := ∀ str tag, ¬(e.hits str tag = true ∧ f.hits str tag = true)

theorem CacheEntry.Apart.symm {e f : CacheEntry} (h : e.Apart f) : f.Apart e := fun str tag hit => h str tag hit.symm

/-- At most 32 entries, no two of which serve one lookup (R42, R44). -/
def Unambiguous (cache : List CacheEntry) : Prop := cache.length ≤ 32 ∧ cache.Pairwise CacheEntry.Apart

theorem cacheUnambiguous_iff {s : State} : CacheUnambiguous s ↔ Unambiguous s.route.cache := Iff.rfl

namespace Unambiguous
variable {cache : List CacheEntry}

theorem nil : Unambiguous [] := ⟨Nat.zero_le _, .nil⟩

/-- What a fence leaves (R50). -/
theorem filter (h : Unambiguous cache) (p : CacheEntry → Bool) : Unambiguous (cache.filter p) :=
  ⟨(List.length_filter_le p cache).trans h.1, h.2.filter p⟩

/-- A hit only moves its entry (R43). -/
theorem touch (h : Unambiguous cache) {e : CacheEntry} (he : e ∈ cache) : Unambiguous (cacheTouch e cache) := by
  have moved : cache.Perm (cacheTouch e cache) := List.perm_cons_erase he
  exact ⟨moved.length_eq ▸ h.1, (moved.pairwise_iff CacheEntry.Apart.symm).mp h.2⟩

/-- A fill that stands apart from the entries it is put before keeps the cache unambiguous, for the entries past the
32nd are dropped (R48). -/
theorem insert {kept : List CacheEntry} (h : kept.Pairwise CacheEntry.Apart) {e : CacheEntry}
    (he : ∀ x ∈ kept, e.Apart x) : Unambiguous ((e :: kept).take Config.cacheEntries) :=
  ⟨List.length_take_le _ _, (List.pairwise_cons.mpr ⟨he, h⟩).sublist (List.take_sublist _ _)⟩

/-- A fill after a miss (R45): a COMMON entry has swept its string from the cache (R47), and an entry with a tag serves
only the lookup that missed. -/
theorem fill (h : Unambiguous cache) {str : List Digit} {tag : Fin 64} (common : Bool) (cls : Fin 256) (cardless : Bool)
    (hm : cacheLookup str tag cache = none) :
    Unambiguous
      (cacheFill { digits := str, scope := if common then .common else .tag tag, cls := cls, cardless := cardless }
        cache) := by
  rw [cacheFill_eq]
  cases common with
  | true =>
    refine insert (h.2.filter _) fun x hx sought t ⟨own, other⟩ => ?_
    have swept : x.digits ≠ str := by simpa using (List.mem_filter.mp hx).2
    exact swept ((hits_iff.mp other).1.trans (hits_iff.mp own).1.symm)
  | false =>
    refine insert h.2 fun x hx sought t ⟨own, other⟩ => List.find?_eq_none.mp hm x hx ?_
    obtain ⟨hstr, hscope⟩ := hits_iff.mp own
    have htag : tag = t := by simpa using hscope
    rw [htag, show str = sought from hstr]
    exact other

end Unambiguous

/-! ## The walk step (R31 to R37) -/

section
variable {b : Booth} {s : State}

theorem cacheUnambiguous_of_cache {cache : List CacheEntry} (h : s.route.cache = cache) (hc : Unambiguous cache) :
    CacheUnambiguous s := by
  rw [cacheUnambiguous_iff, h]
  exact hc

/-- What leaves the Route Unit alone leaves the cache unambiguous. -/
theorem CacheUnambiguous.of_route {t : State} (hs : CacheUnambiguous s) (h : t.route = s.route) : CacheUnambiguous t :=
  cacheUnambiguous_of_cache (congrArg Route.cache h) hs

theorem cacheUnambiguous_walkHit (hs : CacheUnambiguous s) {str : List Digit} {e : CacheEntry}
    (he : e ∈ s.route.cache) : CacheUnambiguous (walkHit b str e s).2 := by
  have touched : CacheUnambiguous (entryTouched e s) := Unambiguous.touch hs he
  rw [walkHit_eq]
  split
  · exact touched
  · exact touched.of_route (route_walkFault _ _)

theorem cacheUnambiguous_walkMiss (hs : CacheUnambiguous s) {str : List Digit} (d : Digit) {tag : Fin 64}
    (hm : cacheLookup str tag s.route.cache = none) : CacheUnambiguous (walkMiss b str d tag s).2 := by
  cases read : s.route.treeEntry (s.ctx b).node d with
  | empty => rw [walkMiss_empty read]; exact hs.of_route rfl
  | bar => rw [walkMiss_bar read]; exact hs.of_route rfl
  | branch next =>
    rw [walkMiss_branch read]
    split
    · exact hs.of_route rfl
    · exact hs.of_route (route_walkFault _ _)
  | leaf cls common =>
    rw [walkMiss_leaf read]
    split
    · exact Unambiguous.fill hs common cls _ hm
    · exact hs.of_route (route_walkFault _ _)

theorem cacheUnambiguous_walkStep (hs : CacheUnambiguous s) (b : Booth) (d : Digit) :
    CacheUnambiguous (walkStep b d s).2 := by
  have counted : CacheUnambiguous (bump Ctr.digitsWalked s) := hs.of_route (bump_route _ _)
  cases found : cacheLookup ((s.ctx b).digits ++ [d]) (s.route.plans.get (s.ctx b).plan).tag s.route.cache with
  | some e =>
    rw [walkStep_hit found]
    exact cacheUnambiguous_walkHit counted (List.mem_of_find?_eq_some found)
  | none =>
    rw [walkStep_miss (cacheLookup_eq_none.mp found)]
    exact cacheUnambiguous_walkMiss counted d found

/-! ## The booth lines, from a digit to a reply (R6, R129 to R131) -/

theorem cacheUnambiguous_digitDialling (hs : CacheUnambiguous s) (b : Booth) (d : Digit) :
    CacheUnambiguous (digitDialling b d s) := by
  unfold digitDialling
  split
  · exact hs.of_route (route_endBeforeAnswer _ _ _)
  · exact (cacheUnambiguous_walkStep hs b d).of_route (route_takeWalk _ _)

theorem cacheUnambiguous_digitEvent (hs : CacheUnambiguous s) (b : Booth) (d : Digit) :
    CacheUnambiguous (digitEvent b d s) := by
  unfold digitEvent
  cases (s.ctx b).state with
  | dialling => exact cacheUnambiguous_digitDialling hs b d
  | cardWait => exact hs.of_route (route_digitCardWait d)
  | routed => exact hs.of_route (route_digitAfterLeaf d)
  | speech => exact hs.of_route (route_digitAfterLeaf d)
  | swap => exact hs.of_route (route_digitAfterLeaf d)
  | free => exact hs.of_route (bump_route _ _)
  | ending => exact hs.of_route (bump_route _ _)

theorem cacheUnambiguous_boothEvent (hs : CacheUnambiguous s) (b : Booth) (marker : Bool) (e : BoothEvent) :
    CacheUnambiguous (boothEvent b marker e s) := by
  cases e with
  | hookOff => cases marker; exacts [hs.of_route route_hookOffEvent, hs.of_route rfl]
  | hookOn => cases marker; exacts [hs.of_route route_hookOnEvent, hs.of_route rfl]
  | digit d => exact cacheUnambiguous_digitEvent hs b d
  | cardIn r => exact hs.of_route (route_cardInEvent marker r)
  | cardOut => exact hs.of_route route_cardOutEvent
  | readerFault => exact hs.of_route route_readerFaultEvent

theorem cacheUnambiguous_boothEvents (hs : CacheUnambiguous s) (b : Booth) (marker : Bool) (evs : List BoothEvent) :
    CacheUnambiguous (boothEvents b marker evs s) := by
  unfold boothEvents
  exact foldl_closed (P := CacheUnambiguous) (fun _ e ht => cacheUnambiguous_boothEvent ht b marker e) evs hs

theorem cacheUnambiguous_takeBatch (hs : CacheUnambiguous s) (b : Booth) (batch : Bool) (evs : List BoothEvent) :
    CacheUnambiguous (takeBatch b batch evs s) := by
  unfold takeBatch
  split
  · exact cacheUnambiguous_boothEvents (hs.of_route (modBoothLine_route _ _ _)) b false evs
  · exact hs

theorem cacheUnambiguous_statusIntake (hs : CacheUnambiguous s) (b : Booth) (batch : Bool) (evs : List BoothEvent) :
    CacheUnambiguous (statusIntake b batch evs s) := by
  unfold statusIntake
  dsimp only
  have taken : CacheUnambiguous (boothEvents b true evs (modBoothLine b
      (fun l => if l.firstStatus then { l with expectBit := !batch, firstStatus := false } else l) s)) :=
    cacheUnambiguous_boothEvents (hs.of_route (modBoothLine_route _ _ _)) b true evs
  split
  · exact taken
  · exact taken.of_route route_cardOutEvent

theorem cacheUnambiguous_handGood (hs : CacheUnambiguous s) (t : Transaction) (reply : BoothReply) :
    CacheUnambiguous (handGood t reply s) := by
  have served : CacheUnambiguous (clearServed t s) := hs.of_route (route_clearServed t)
  unfold handGood
  dsimp only
  generalize clearServed t s = u at served ⊢
  cases reply
  case events more batch status evs =>
    cases t.request with
    | poll bit =>
      dsimp only
      split
      · exact served.of_route route_probeReturn
      · exact cacheUnambiguous_takeBatch served _ _ _
    | _ => exact cacheUnambiguous_statusIntake served _ _ _
  case' fail reason count => cases reason
  case fail.readerFault => exact served.of_route route_readerFaultEvent
  all_goals
    cases t.request with
    | cancel n serial => exact served.of_route (route_debitOutcome _)
    | verify serial => exact served.of_route (route_debitOutcome _)
    | eject => exact served.of_route (route_ejectOutcome _)
    | retain serial => exact served.of_route (route_retainOutcome _)
    | _ => exact served

theorem cacheUnambiguous_goodReply (hs : CacheUnambiguous s) (g : Segment) (t : Transaction) (reply : BoothReply) :
    CacheUnambiguous (goodReply g t reply s) := by
  have closed : CacheUnambiguous
      (modSeg g (fun x => { x with transaction := none, followOn := s.followOnAfter t reply }) s) :=
    hs.of_route (modSeg_route _ _ _)
  unfold goodReply
  dsimp only
  split
  · exact closed
  · exact cacheUnambiguous_handGood (closed.of_route (modBoothLine_route _ _ _)) t reply

theorem cacheUnambiguous_receiveReply (hs : CacheUnambiguous s) (g : Segment) (drop tag : Byte) (reply : BoothReply) :
    CacheUnambiguous (receiveReply g drop tag reply s) := by
  have garbled : CacheUnambiguous (garbledFrame g s) := hs.of_route (route_garbledFrame g)
  unfold receiveReply
  split_ifs
  · split
    · exact hs.of_route rfl
    next t _ =>
      split_ifs
      · exact cacheUnambiguous_goodReply hs g t reply
      · exact garbled
      · exact hs.of_route rfl
  · exact garbled

/-! ## A command and its owner (R165, R166) -/

variable {owner : State → Carried}

theorem cacheUnambiguous_answerCommand (c : Cmd) {r : Carried} (hr : CacheUnambiguous r.state) :
    CacheUnambiguous (answerCommand c r) := by
  unfold answerCommand
  refine CacheUnambiguous.of_route ?_ (route_offerReply _)
  split <;> exact hr.of_route rfl

theorem cacheUnambiguous_takeFront (hs : CacheUnambiguous s) {c : Cmd}
    (ho : ∀ u, CacheUnambiguous u → CacheUnambiguous (owner u).state) : CacheUnambiguous (takeFront c owner s) := by
  unfold takeFront
  split
  · dsimp only
    split
    · exact hs.of_route rfl
    · exact cacheUnambiguous_answerCommand c (ho _ (hs.of_route rfl))
  · exact hs

theorem cacheUnambiguous_takeCommand (hs : CacheUnambiguous s) {g : Group} {c : Cmd} {good : Bool}
    (ho : ∀ u, CacheUnambiguous u → CacheUnambiguous (owner u).state) :
    CacheUnambiguous (takeCommand g c good owner s) := by
  refine cacheUnambiguous_takeFront hs fun u hu => ?_
  unfold checked
  split_ifs
  · exact hu.of_route rfl
  · exact hu.of_route rfl
  · exact ho u hu

theorem cacheUnambiguous_inRange (hs : CacheUnambiguous s) {α : Type} {x : Option α} {f : α → State → Carried}
    (hf : ∀ a, CacheUnambiguous (f a s).state) : CacheUnambiguous (inRange x f s).state := by
  cases x with
  | none => exact hs
  | some a => exact hf a

end

/-! ## Owners that leave the Route Unit alone -/

/-- The owner changes nothing of the Route Unit. -/
def LeavesRoute (owner : State → Carried) : Prop := ∀ s, (owner s).state.route = s.route

theorem LeavesRoute.inRange {α : Type} {x : Option α} {f : α → State → Carried} (hf : ∀ a, LeavesRoute (f a)) :
    LeavesRoute (inRange x f) := by
  cases x with
  | none => exact fun _ => rfl
  | some a => exact hf a

/-- An owner that only reads. -/
theorem LeavesRoute.read {α : Type} {x : Option α} (f : α → State → ReplyData) :
    LeavesRoute (Machine.inRange x fun a s => carriedOut (f a s) s) := .inRange fun _ _ => rfl

theorem LeavesRoute.onEnabled {args : List Byte} {f : Booth → State → Carried} (hf : ∀ b, LeavesRoute (f b)) :
    LeavesRoute (onEnabled args f) :=
  .inRange fun b s => by
    split
    · exact hf b s
    · rfl

section
variable (args : List Byte) (b : Booth)

theorem leavesRoute_classWriteOwner : LeavesRoute (classWriteOwner args) := .inRange fun _ _ => rfl
theorem leavesRoute_profileWriteOwner : LeavesRoute (profileWriteOwner args) := .inRange fun _ _ => rfl
theorem leavesRoute_bandWriteOwner : LeavesRoute (bandWriteOwner args) := .inRange fun _ _ => rfl
theorem leavesRoute_holidayWriteOwner : LeavesRoute (holidayWriteOwner args) := .inRange fun _ _ => rfl

theorem leavesRoute_seriesWriteOwner : LeavesRoute (seriesWriteOwner args) :=
  .inRange fun (k, r) s => by
    dsimp only
    split <;> rfl

theorem leavesRoute_stopAddOwner : LeavesRoute (stopAddOwner args) :=
  .inRange fun ((series, serial), a) s => by
    dsimp only
    split_ifs <;> rfl

theorem leavesRoute_stopRemoveOwner : LeavesRoute (stopRemoveOwner args) :=
  .inRange fun (series, serial) s => by
    dsimp only
    split <;> rfl

theorem leavesRoute_boothMapOwner : LeavesRoute (boothMapOwner args) :=
  .inRange fun (b, e) s => by
    dsimp only
    split
    · rfl
    · exact route_mapEffect _ _

theorem leavesRoute_segmentSetupOwner : LeavesRoute (segmentSetupOwner args) :=
  .inRange fun _ _ => modSeg_route _ _ _

theorem leavesRoute_takeOutBooth : LeavesRoute (takeOutBooth b) := fun s => by
  unfold takeOutBooth
  dsimp only
  split_ifs
  · rfl
  · exact route_enterTaken
  · rfl

theorem leavesRoute_bringBack : LeavesRoute (bringBack b) := fun s => by
  unfold bringBack
  dsimp only
  split_ifs
  · rfl
  · exact route_postSignal _
  · rfl

theorem leavesRoute_forceClearBooth : LeavesRoute (forceClearBooth b) := fun s => by
  unfold forceClearBooth
  split
  · rfl
  · exact route_forceClearEvent

theorem leavesRoute_segmentResetOwner : LeavesRoute (segmentResetOwner args) :=
  .inRange fun g s => by
    split
    · rfl
    · exact route_segmentResetPart g

theorem leavesRoute_ticketFetchOwner : LeavesRoute (ticketFetchOwner args) := .inRange fun _ _ => rfl

theorem leavesRoute_ticketReleaseOwner : LeavesRoute (ticketReleaseOwner args) :=
  .inRange fun n s => by
    dsimp only [carriedOut]
    split
    · rw [bump_route, bumpBy_route, bump_route, modRing_route]
    · rw [bumpBy_route, bump_route, modRing_route]

theorem leavesRoute_ringSetupOwner : LeavesRoute (ringSetupOwner args) := .inRange fun _ _ => rfl

theorem leavesRoute_serviceStartOwner : LeavesRoute serviceStartOwner := fun s => by
  unfold serviceStartOwner
  split
  · rfl
  · rfl
  · split
    · exact route_signalBooths _ _
    · rfl

theorem leavesRoute_serviceStopOwner : LeavesRoute serviceStopOwner := fun s => by
  unfold serviceStopOwner
  split
  · exact route_checkDrain
  · rfl


theorem leavesRoute_clockSetOwner : LeavesRoute (clockSetOwner args) :=
  .inRange fun c s => by
    dsimp only [carriedOut]
    rw [route_evaluateAll, bump_route]
    rfl

theorem leavesRoute_limitsOwner : LeavesRoute (limitsOwner args) := .inRange fun _ _ => rfl
theorem leavesRoute_noticeSetupOwner : LeavesRoute (noticeSetupOwner args) := .inRange fun _ _ => rfl
theorem leavesRoute_noticeClearOwner : LeavesRoute (noticeClearOwner args) := .inRange fun _ _ => rfl
theorem leavesRoute_accessWriteOwner : LeavesRoute (accessWriteOwner args) := .inRange fun _ _ => rfl

theorem leavesRoute_counterReadOwner : LeavesRoute (counterReadOwner args) :=
  .inRange fun (g, clear) s => by
    dsimp only [carriedOut]
    split <;> rfl

end

/-! ## Owners that change the Route Unit (R26, R28, R50, R170) -/

section
variable {s : State}

theorem cache_treeWriteOwner (args : List Byte) : (treeWriteOwner args s).state.route.cache = s.route.cache := by
  unfold treeWriteOwner
  cases treeWriteArgs args <;> rfl

theorem cache_planWriteOwner (args : List Byte) : (planWriteOwner args s).state.route.cache = s.route.cache := by
  unfold planWriteOwner
  cases planWriteArgs args <;> rfl

theorem cacheUnambiguous_cacheFenceOwner (hs : CacheUnambiguous s) (args : List Byte) :
    CacheUnambiguous (cacheFenceOwner args s).state := by
  refine cacheUnambiguous_inRange hs ?_
  rintro ⟨tag, pfx⟩
  change Unambiguous (s.route.cache.filter fun e => !fenceSelects tag pfx e)
  exact Unambiguous.filter hs _

theorem cache_restartPart (s : State) : (restartPart s).route.cache = [] := by
  unfold restartPart
  rw [route_signalBooths, route_oweAll, restartTrunk, modTrunk_route, modSeg_route, modSeg_route, route_resetBooths,
    setCache_route]

theorem cacheUnambiguous_restartOwner (hs : CacheUnambiguous s) : CacheUnambiguous (restartOwner s).state := by
  unfold restartOwner
  split
  · exact hs
  · exact cacheUnambiguous_of_cache (cache_restartPart s) .nil

end

/-! ## The rows -/

section
variable {s t : State}

/-- A row that answers a state with an unambiguous cache. -/
theorem CacheUnambiguous.next {u : State} (hu : CacheUnambiguous u)
    (he : (.next u : Host.Outcome State Fault Refusal) = .next t) : CacheUnambiguous t := by
  injection he with he
  exact he ▸ hu

/-- A row that leaves the Route Unit alone. -/
theorem CacheUnambiguous.next_of_route {u : State} (hs : CacheUnambiguous s) (h : u.route = s.route)
    (he : (.next u : Host.Outcome State Fault Refusal) = .next t) : CacheUnambiguous t := (hs.of_route h).next he

/-- The row of a command whose owner leaves the Route Unit alone. -/
theorem CacheUnambiguous.next_takeCommand (hs : CacheUnambiguous s) {g : Group} {c : Cmd} {good : Bool}
    {owner : State → Carried} (ho : LeavesRoute owner)
    (he : (.next (takeCommand g c good owner s) : Host.Outcome State Fault Refusal) = .next t) : CacheUnambiguous t :=
  (cacheUnambiguous_takeCommand hs fun u hu => hu.of_route (ho u)).next he

/-- A BOOTH CONTROL row whose owner leaves the Route Unit alone. -/
theorem CacheUnambiguous.next_controlRow (hs : CacheUnambiguous s) {want : Option BoothAction} {c : Cmd}
    {owner : State → Carried} (ho : LeavesRoute owner)
    (he : (.next (controlRow want c owner s) : Host.Outcome State Fault Refusal) = .next t) : CacheUnambiguous t := by
  unfold controlRow at he
  split at he
  · exact hs.next_takeCommand ho he
  · exact hs.next he

theorem cacheUnambiguous_execAnswer (hs : CacheUnambiguous s) {ch : Byte} (he : execAnswer ch s = .next t) :
    CacheUnambiguous t := by
  unfold execAnswer at he
  split at he
  · exact hs.next_of_route (route_answerFrame _) he
  · exact hs.next_of_route (route_discardFrame _) he

theorem cacheUnambiguous_execClear (hs : CacheUnambiguous s) {ch : Byte} (he : execClear ch s = .next t) :
    CacheUnambiguous t := by
  unfold execClear at he
  split at he
  · exact hs.next_of_route (route_clearFrame _) he
  · exact hs.next_of_route (route_discardFrame _) he

theorem cacheUnambiguous_execCommand (hs : CacheUnambiguous s) {o g code : Byte} {args : List Byte}
    (he : execCommand o g code args s = .next t) : CacheUnambiguous t := by
  unfold execCommand at he
  split at he
  · exact hs.next_of_route (route_commandFrame _) he
  · exact hs.next_of_route (route_discardFrame _) he

theorem cacheUnambiguous_execUnknownCommandCode (hs : CacheUnambiguous s) {o g code : Byte} {args : List Byte}
    (he : execUnknownCommandCode o g code args s = .next t) : CacheUnambiguous t := by
  refine CacheUnambiguous.next ?_ he
  split
  · exact hs
  · exact cacheUnambiguous_takeFront hs fun _ hu => hu.of_route rfl

theorem cacheUnambiguous_exec (hs : CacheUnambiguous s) : ∀ c, exec c s = .next t → CacheUnambiguous t
  | .powerOn => (cacheUnambiguous_iff.mpr .nil).next
  | .sync => hs.next_of_route route_validFrame
  | .answer _ => cacheUnambiguous_execAnswer hs
  | .clear _ => cacheUnambiguous_execClear hs
  | .command _ _ _ _ => cacheUnambiguous_execCommand hs
  | .trunkFrameDiscarded reason => hs.next_of_route (route_discardFrame reason)
  | .silenceTimerExpiry => hs.next_of_route route_silenceExpiry
  | .syncTimerExpiry => hs.next_of_route route_syncExpiry
  | .frameTransmitStart => hs.next_of_route route_transmitStart
  | .frameTransmitComplete => hs.next_of_route route_transmitComplete
  | .holdTimerExpiry => hs.next_of_route route_noticeHoldExpiry
  | .arbiterGrant g => hs.next_of_route (route_arbiterTurn g)
  | .events g drop tag _ _ _ _ => (cacheUnambiguous_receiveReply hs g drop tag _).next
  | .done g drop tag _ => (cacheUnambiguous_receiveReply hs g drop tag _).next
  | .count g drop tag _ _ _ => (cacheUnambiguous_receiveReply hs g drop tag _).next
  | .ack g drop tag => (cacheUnambiguous_receiveReply hs g drop tag _).next
  | .fail g drop tag _ _ => (cacheUnambiguous_receiveReply hs g drop tag _).next
  | .staleBoothFrame g drop tag reply => (cacheUnambiguous_receiveReply hs g drop tag reply).next
  | .boothFrameGarbled g => hs.next_of_route (route_garbledFrame g)
  | .replyWindowExpiry g => hs.next_of_route (route_windowExpiry g)
  | .abandonedWindowHoldExpiry g => hs.next_of_route (route_windowHoldExpiry g)
  | .probeTimerExpiry _ => hs.next_of_route route_probeExpiry
  | .digitWaitExpiry _ => hs.next_of_route route_digitWaitExpires
  | .cardWaitExpiry _ => hs.next_of_route route_cardWaitExpires
  | .swapWindowExpiry _ => hs.next_of_route route_swapWindowExpires
  | .tick _ => hs.next_of_route route_tickEvent
  | .timeLimit _ => hs.next_of_route route_timeLimitCheck
  | .clockSecondAdvance => hs.next_of_route route_clockAdvance
  | .minuteBoundary => hs.next_of_route route_minuteTurn
  | .treeWrite _ _ args =>
    (cacheUnambiguous_takeCommand hs fun _ hu => cacheUnambiguous_of_cache (cache_treeWriteOwner args) hu).next
  | .planWrite _ _ args =>
    (cacheUnambiguous_takeCommand hs fun _ hu => cacheUnambiguous_of_cache (cache_planWriteOwner args) hu).next
  | .cacheFence _ _ args =>
    (cacheUnambiguous_takeCommand hs fun _ hu => cacheUnambiguous_cacheFenceOwner hu args).next
  | .restart _ _ _ => (cacheUnambiguous_takeCommand hs fun _ hu => cacheUnambiguous_restartOwner hu).next
  | .classWrite _ _ args => hs.next_takeCommand (leavesRoute_classWriteOwner args)
  | .profileWrite _ _ args => hs.next_takeCommand (leavesRoute_profileWriteOwner args)
  | .bandWrite _ _ args => hs.next_takeCommand (leavesRoute_bandWriteOwner args)
  | .holidayWrite _ _ args => hs.next_takeCommand (leavesRoute_holidayWriteOwner args)
  | .seriesWrite _ _ args => hs.next_takeCommand (leavesRoute_seriesWriteOwner args)
  | .stopAdd _ _ args => hs.next_takeCommand (leavesRoute_stopAddOwner args)
  | .stopRemove _ _ args => hs.next_takeCommand (leavesRoute_stopRemoveOwner args)
  | .boothMapWrite _ _ args => hs.next_takeCommand (leavesRoute_boothMapOwner args)
  | .takeOut _ _ _ => hs.next_controlRow (.onEnabled leavesRoute_takeOutBooth)
  | .returnBooth _ _ _ => hs.next_controlRow (.onEnabled leavesRoute_bringBack)
  | .forceClear _ _ _ => hs.next_controlRow (.onEnabled leavesRoute_forceClearBooth)
  | .boothControl _ _ _ => hs.next_controlRow fun _ => rfl
  | .segmentSetup _ _ args => hs.next_takeCommand (leavesRoute_segmentSetupOwner args)
  | .segmentReset _ _ args => hs.next_takeCommand (leavesRoute_segmentResetOwner args)
  | .ticketFetch _ _ args => hs.next_takeCommand (leavesRoute_ticketFetchOwner args)
  | .ticketRelease _ _ args => hs.next_takeCommand (leavesRoute_ticketReleaseOwner args)
  | .ringSetup _ _ args => hs.next_takeCommand (leavesRoute_ringSetupOwner args)
  | .serviceStart _ _ _ => hs.next_takeCommand leavesRoute_serviceStartOwner
  | .serviceStop _ _ _ => hs.next_takeCommand leavesRoute_serviceStopOwner
  | .clockSet _ _ args => hs.next_takeCommand (leavesRoute_clockSetOwner args)
  | .limitsWrite _ _ args => hs.next_takeCommand (leavesRoute_limitsOwner args)
  | .faultClear _ _ _ => hs.next_takeCommand fun _ => rfl
  | .noticeSetup _ _ args => hs.next_takeCommand (leavesRoute_noticeSetupOwner args)
  | .noticeClear _ _ args => hs.next_takeCommand (leavesRoute_noticeClearOwner args)
  | .accessWrite _ _ args => hs.next_takeCommand (leavesRoute_accessWriteOwner args)
  | .treeRead _ _ _ => hs.next_takeCommand (.read _)
  | .planRead _ _ _ => hs.next_takeCommand (.read _)
  | .classRead _ _ _ => hs.next_takeCommand (.read _)
  | .seriesRead _ _ _ => hs.next_takeCommand (.read _)
  | .stopProbe _ _ _ => hs.next_takeCommand (.read _)
  | .boothRead _ _ _ => hs.next_takeCommand (.read _)
  | .stopStatus _ _ _ => hs.next_takeCommand fun _ => rfl
  | .statusRead _ _ _ => hs.next_takeCommand fun _ => rfl
  | .faultRead _ _ _ => hs.next_takeCommand fun _ => rfl
  | .counterRead _ _ args => hs.next_takeCommand (leavesRoute_counterReadOwner args)
  | .unknownCommandCode _ _ _ _ => cacheUnambiguous_execUnknownCommandCode hs

end

end Sys2Proof.Machine

section
open Sys2Proof Sys2Proof.Machine

/-- Settles O54: a hit moves its entry, a fill follows a miss, a fence and a restart only remove (`Unambiguous.touch`,
`Unambiguous.fill`, `Unambiguous.filter`), and nothing else writes the cache. -/
theorem cacheStaysUnambiguous : Obligations.CacheStaysUnambiguous := by
  intro s t hs ht
  unfold step at ht
  split at ht
  · exact hs.next_of_route (u := idle s) rfl ht
  next c rest _ =>
    have taken : CacheUnambiguous { s with pending := rest } := hs.of_route rfl
    exact cacheUnambiguous_exec taken c ht

end
end

section
/-!
# CACHE FENCE (R49, R50)
-/

namespace Sys2Proof.Machine

/-! ## The arguments -/

/-- The digits that a fence names are in range exactly when each of its bytes is 0–9 (R49). -/
theorem prefixOf_eq_some {bytes : List Byte} {pfx : List Digit} :
    prefixOf bytes = some pfx ↔ bytes.map BitVec.toNat = pfx.map Fin.val ∧ ∀ d ∈ pfx, d.val < 10 := by
  induction bytes generalizing pfx with
  | nil => cases pfx <;> simp [prefixOf]
  | cons b rest ih =>
    unfold prefixOf
    constructor
    · intro named
      split at named
      next l hl =>
        obtain ⟨same, digits⟩ := ih.mp hl
        split_ifs at named with hb
        cases named
        exact ⟨by simp [same], List.forall_mem_cons.mpr ⟨hb, digits⟩⟩
      next => cases named
    · rintro ⟨same, digits⟩
      cases pfx with
      | nil => cases same
      | cons d l =>
        obtain ⟨head, tail⟩ := List.cons_eq_cons.mp same
        obtain ⟨hd, hl⟩ := List.forall_mem_cons.mp digits
        rw [ih.mpr ⟨tail, hl⟩]
        simp [head, hd]

theorem flagOf_eq_true {b : Byte} (h : flagOf b = some true) : b = 1#8 :=
  of_decide_eq_true (flagOf_eq_some.mp h).2.symm

theorem flagOf_eq_false {b : Byte} (h : flagOf b = some false) : b = 0#8 := by
  by_contra set
  unfold flagOf at h
  rw [if_neg set] at h
  split at h <;> cases h

/-- The tag that the first two bytes of a fence name: none when no tag is present (R49). -/
def NamesTag (present tag : Byte) (scope : Option (Fin 64)) : Prop :=
  (present = 0#8 ∧ scope = none) ∨ (present = 1#8 ∧ ∃ h : tag.toNat < 64, scope = some ⟨tag.toNat, h⟩)

section
variable {present tag n : Byte} {ds : List Byte} {scope : Option (Fin 64)} {pfx : List Digit}

theorem NamesTag.present_le (h : NamesTag present tag scope) : present.toNat ≤ 1 := by
  rcases h with ⟨rfl, -⟩ | ⟨rfl, -⟩ <;> decide

theorem exists_namesTag (hp : present.toNat ≤ 1) (ht : present = 1#8 → tag.toNat < 64) :
    ∃ scope, NamesTag present tag scope := by
  rcases (by omega : present.toNat = 0 ∨ present.toNat = 1) with h | h
  · exact ⟨none, .inl ⟨BitVec.eq_of_toNat_eq h, rfl⟩⟩
  · have set : present = 1#8 := BitVec.eq_of_toNat_eq h
    exact ⟨some ⟨tag.toNat, ht set⟩, .inr ⟨set, ht set, rfl⟩⟩

/-- A fence is in range exactly when tag, digit count and digits each are (R49). -/
theorem cacheFenceArgs_eq_some :
    cacheFenceArgs (present :: tag :: n :: ds) = some (scope, pfx) ↔
      NamesTag present tag scope ∧ n.toNat ≤ 8 ∧ prefixOf (ds.take n.toNat) = some pfx := by
  constructor
  · intro named
    unfold cacheFenceArgs at named
    dsimp only at named
    split at named
    next l hflag hl =>
      split_ifs at named with hn
      obtain ⟨i, hi, pair⟩ := Option.map_eq_some_iff.mp named
      cases pair
      have value : i.val = tag.toNat := finOf_eq_some.mp hi
      exact ⟨.inr ⟨flagOf_eq_true hflag, value ▸ i.isLt, congrArg some (Fin.ext value)⟩, hn, hl⟩
    next l hflag hl =>
      split_ifs at named with hn
      cases named
      exact ⟨.inl ⟨flagOf_eq_false hflag, rfl⟩, hn, hl⟩
    next => cases named
  · rintro ⟨⟨rfl, rfl⟩ | ⟨rfl, ht, rfl⟩, hn, hl⟩
    · simp [cacheFenceArgs, flagOf, hn, hl]
    · simp [cacheFenceArgs, flagOf, hn, hl, finOf_of_lt ht]

theorem cacheFenceArgs_eq_none
    (h : 8 < n.toNat ∨ (present = 1#8 ∧ 64 ≤ tag.toNat) ∨ 2 ≤ present.toNat ∨ ∃ d ∈ ds.take n.toNat, 10 ≤ d.toNat) :
    cacheFenceArgs (present :: tag :: n :: ds) = none := by
  rw [Option.eq_none_iff_forall_ne_some]
  rintro ⟨scope, pfx⟩ named
  obtain ⟨hscope, hn, hpfx⟩ := cacheFenceArgs_eq_some.mp named
  rcases h with many | ⟨set, far⟩ | flag | ⟨d, hd, big⟩
  · omega
  · rcases hscope with ⟨unset, -⟩ | ⟨-, near, -⟩
    · rw [unset] at set
      cases set
    · omega
  · have := hscope.present_le
    omega
  · obtain ⟨same, digits⟩ := prefixOf_eq_some.mp hpfx
    have listed : d.toNat ∈ pfx.map Fin.val := same ▸ List.mem_map_of_mem hd
    obtain ⟨x, hx, value⟩ := List.mem_map.mp listed
    have := digits x hx
    omega

/-! ## The entries selected -/

/-- A tag selects the entries of that tag, digits the strings that begin with them (R50). -/
theorem fenceSelects_iff (hs : NamesTag present tag scope) (e : CacheEntry) :
    fenceSelects scope pfx e = true ↔
      pfx <+: e.digits ∧ (present = 1#8 → ∃ h : tag.toNat < 64, e.scope = .tag ⟨tag.toNat, h⟩) := by
  unfold fenceSelects
  rcases hs with ⟨rfl, rfl⟩ | ⟨rfl, ht, rfl⟩
  · simp
  · simp [ht]

/-! ## The row -/

variable {o t : Byte} {rest : List Cmd} {s : State}

theorem exec_cacheFence_eq (hlen : ds.length = 8) :
    exec (.cacheFence o t (present :: tag :: n :: ds)) s =
      .next (takeCommand .tariff ⟨o, t, 0x16#8, present :: tag :: n :: ds⟩ true
        (cacheFenceOwner (present :: tag :: n :: ds)) s) := by
  have good : ((present :: tag :: n :: ds).length == 11) = true := by simp [hlen]
  rw [← good]
  rfl

theorem exec_cacheFence (hlen : ds.length = 8)
    (hc : CanTake .tariff ⟨o, t, 0x16#8, present :: tag :: n :: ds⟩ rest s)
    (ha : cacheFenceArgs (present :: tag :: n :: ds) = some (scope, pfx)) :
    exec (.cacheFence o t (present :: tag :: n :: ds)) s =
      .next (doneWith ⟨o, t, 0x16#8, present :: tag :: n :: ds⟩ (.fenced (s.fenced scope pfx))
        (bump Ctr.cacheFences
          (setCache (s.route.cache.filter fun e => !fenceSelects scope pfx e) (popped rest s)))) := by
  rw [exec_cacheFence_eq hlen]
  exact congrArg Host.Outcome.next ((takeCommand_inRange hc ha).trans (answerCommand_carriedOut _ _ _))

theorem exec_cacheFence_outOfRange (hlen : ds.length = 8)
    (hc : CanTake .tariff ⟨o, t, 0x16#8, present :: tag :: n :: ds⟩ rest s)
    (ha : cacheFenceArgs (present :: tag :: n :: ds) = none) :
    exec (.cacheFence o t (present :: tag :: n :: ds)) s =
      .next (refusal ⟨o, t, 0x16#8, present :: tag :: n :: ds⟩ .range (popped rest s)) := by
  rw [exec_cacheFence_eq hlen]
  exact congrArg Host.Outcome.next (takeCommand_outOfRange hc ha)

end

end Sys2Proof.Machine

section
open Sys2Proof Sys2Proof.Machine

/-- Settles O7: the arguments are in range exactly when tag, digit count and digits are (`cacheFenceArgs_eq_some`), and
the entries removed are those that `fenceSelects_iff` describes. -/
theorem cacheFenceInvalidates : Obligations.CacheFenceInvalidates := by
  intro o t present tag n ds rest s args hlen hc
  refine ⟨fun pfx hn hpfx hd hp ht selected hsel => ?_, fun h =>
    exec_cacheFence_outOfRange hlen hc (cacheFenceArgs_eq_none h)⟩
  obtain ⟨scope, hscope⟩ := exists_namesTag hp ht
  have same : selected = fenceSelects scope pfx :=
    funext fun e => Bool.eq_iff_iff.mpr ((hsel e).trans (fenceSelects_iff hscope e).symm)
  subst same
  exact exec_cacheFence hlen hc (cacheFenceArgs_eq_some.mpr ⟨hscope, hn, prefixOf_eq_some.mpr ⟨hpfx, hd⟩⟩)

end
end

section
/-!
# The books: what an event can do to the money of a call

The invariants of the balance (R69, R70) speak of a few fields of each booth's context, debit record and slot. They are
the booth's account here; with the prices they come from, the Tariff Class Table and the Series Table, the accounts are
the part's books. `Account.Move` lists what an event can do to one account and `Books.Move` to the books; what every
step keeps is then a case analysis of these moves and not of the rows.
-/

namespace Sys2Proof.Machine

/-- SPEECH, SWAP and ENDING: the call has been answered. -/
def CtxState.answered : CtxState → Bool
  | .speech | .swap | .ending => true
  | _ => false

/-- The two states belong to the same part of a call's life: no call, a call not yet answered, an answered call. -/
def CtxState.SamePhase (x y : CtxState) : Prop := x.preAnswer = y.preAnswer ∧ x.answered = y.answered

/-- The unit value of a VALID slot. -/
def CardSlot.unitValue : CardSlot → Option Nat
  | .valid _ v _ _ => some v
  | _ => none

/-- What the balance of a booth's call rests on. `values` are the unit values of the card list in its order, `card` that
of the slot's VALID card. -/
structure Account where
  state : CtxState
  snap : Option Snapshot
  p : Int
  charged : Nat
  covered : Nat
  debtSaturated : Bool
  chargeSaturated : Bool
  values : List Nat
  outstanding : Outstanding
  uncertain : Option Uncertain
  card : Option Nat

def State.account (s : State) (b : Booth) : Account :=
  { state := (s.ctx b).state, snap := (s.ctx b).snap, p := (s.debit b).p, charged := (s.debit b).charged,
    covered := (s.debit b).covered, debtSaturated := (s.debit b).debtSaturated,
    chargeSaturated := (s.debit b).chargeSaturated, values := (s.debit b).cards.map CardEntry.unitValue,
    outstanding := (s.debit b).outstanding, uncertain := (s.debit b).uncertain, card := (s.slot b).unitValue }

/-- The accounts of the booths and the prices they are fed from. -/
@[ext] structure Books where
  classes : SMap ClassRecord
  series : Vector SeriesRecord 32
  account : Booth → Account

def State.books (s : State) : Books :=
  { classes := s.tariff.classes, series := s.card.series, account := s.account }

/-- The books with one account replaced. -/
def Books.set (B : Books) (b : Booth) (a : Account) : Books := { B with account := Function.update B.account b a }

namespace Books

@[simp] theorem set_account_self (B : Books) (b : Booth) (a : Account) : (B.set b a).account b = a :=
  Function.update_self ..

theorem set_account_ne {b x : Booth} (h : x ≠ b) (B : Books) (a : Account) : (B.set b a).account x = B.account x :=
  Function.update_of_ne h ..

@[simp] theorem set_set (B : Books) (b : Booth) (a a' : Account) : (B.set b a).set b a' = B.set b a' := by
  simp [set]

@[simp] theorem set_self (B : Books) (b : Booth) : B.set b (B.account b) = B := by simp [set]

end Books

/-! ## The elementary updates -/

section
variable {b : Booth} {s : State}

/-- An update of what one booth holds replaces that booth's account. -/
theorem books_eq_set {t : State} {a : Account} (hm : t.tariff.classes = s.tariff.classes)
    (hs : t.card.series = s.card.series) (hb : t.account b = a) (hx : ∀ x, x ≠ b → t.account x = s.account x) :
    t.books = s.books.set b a := by
  refine Books.ext hm hs (funext fun x => ?_)
  by_cases h : x = b
  · subst h
    rw [Books.set_account_self]
    exact hb
  · rw [Books.set_account_ne h]
    exact hx x h

theorem books_modCtx (f : Ctx → Ctx) :
    (modCtx b f s).books =
      s.books.set b { s.books.account b with state := (f (s.ctx b)).state, snap := (f (s.ctx b)).snap } :=
  books_eq_set rfl rfl (by simp [State.books, State.account]) fun x hx => by simp [State.account, ctx_modCtx_ne hx]

theorem books_modDebit (f : Debit → Debit) :
    (modDebit b f s).books =
      s.books.set b
        { s.books.account b with
          p := (f (s.debit b)).p, charged := (f (s.debit b)).charged, covered := (f (s.debit b)).covered,
          debtSaturated := (f (s.debit b)).debtSaturated, chargeSaturated := (f (s.debit b)).chargeSaturated,
          values := (f (s.debit b)).cards.map CardEntry.unitValue, outstanding := (f (s.debit b)).outstanding,
          uncertain := (f (s.debit b)).uncertain } :=
  books_eq_set rfl rfl (by simp [State.books, State.account]) fun x hx => by simp [State.account, debit_modDebit_ne hx]

theorem books_setSlot (x : CardSlot) :
    (setSlot b x s).books = s.books.set b { s.books.account b with card := x.unitValue } :=
  books_eq_set rfl rfl (by simp [State.books, State.account]) fun y hy => by simp [State.account, slot_setSlot_ne hy]

/-- What an account holds of the debit record. -/
@[simp] abbrev Debit.money (d : Debit) : (Int × Nat × Nat × Bool × Bool) × List Nat × Outstanding × Option Uncertain :=
  ((d.p, d.charged, d.covered, d.debtSaturated, d.chargeSaturated), d.cards.map CardEntry.unitValue, d.outstanding,
    d.uncertain)

@[simp] theorem books_modCtx_kept {f : Ctx → Ctx} (hs : ∀ c, (f c).state = c.state) (hp : ∀ c, (f c).snap = c.snap) :
    (modCtx b f s).books = s.books := by
  rw [books_modCtx, hs, hp]
  exact Books.set_self s.books b

@[simp] theorem books_modDebit_kept {f : Debit → Debit} (h : ∀ d, (f d).money = d.money) :
    (modDebit b f s).books = s.books := by
  have kept := h (s.debit b)
  simp only [Debit.money, Prod.mk.injEq] at kept
  obtain ⟨⟨hp, hc, hv, hd, hq⟩, hl, ho, hu⟩ := kept
  rw [books_modDebit, hp, hc, hv, hd, hq, hl, ho, hu]
  exact Books.set_self s.books b

@[simp] theorem books_setSlot_kept {x : CardSlot} (h : x.unitValue = (s.slot b).unitValue) :
    (setSlot b x s).books = s.books := by
  rw [books_setSlot, h]
  exact Books.set_self s.books b

@[simp] theorem map_unitValue_modify {f : CardEntry → CardEntry} (h : ∀ e, (f e).unitValue = e.unitValue)
    (l : List CardEntry) (i : Nat) : (l.modify i f).map CardEntry.unitValue = l.map CardEntry.unitValue := by
  ext1 j
  rw [List.getElem?_map, List.getElem?_map, List.getElem?_modify]
  cases l[j]? with
  | none => rfl
  | some e =>
    by_cases hj : i = j <;> simp [hj, h]

@[simp] theorem books_modBoothLine (f : BoothLine → BoothLine) : (modBoothLine b f s).books = s.books := rfl
@[simp] theorem books_modTrunk (f : Trunk → Trunk) : (modTrunk f s).books = s.books := rfl
@[simp] theorem books_modRing (f : Ring → Ring) : (modRing f s).books = s.books := rfl
@[simp] theorem books_modMgmt (f : Mgmt → Mgmt) : (modMgmt f s).books = s.books := rfl
@[simp] theorem books_modNotices (f : Notices → Notices) : (modNotices f s).books = s.books := rfl
@[simp] theorem books_setCache (c : List CacheEntry) : (setCache c s).books = s.books := rfl
@[simp] theorem books_reach (i : Instant) : (reach i s).books = s.books := rfl
@[simp] theorem books_bumpBy (c : CounterId) (n : Nat) : (bumpBy c n s).books = s.books := rfl
@[simp] theorem books_bump (c : CounterId) : (bump c s).books = s.books := rfl
@[simp] theorem books_modSeg (g : Segment) (f : SegLine → SegLine) : (modSeg g f s).books = s.books := by
  cases g <;> rfl

theorem books_foldl {β : Type} {f : State → β → State} (h : ∀ t x, (f t x).books = t.books) (l : List β) :
    (l.foldl f s).books = s.books :=
  foldl_closed (P := fun t => t.books = s.books) (fun t x ht => (h t x).trans ht) l rfl

end

end Sys2Proof.Machine
end

section
/-!
# What leaves the books as they are

Signals, posted work, fault reports, notices, the Trunk Port's queues, booth health, tickets, band evaluations and the
walk reach nothing of the books. Of each operation one lemma here says so; the lemmas of the operations it calls close
its branches.
-/

namespace Sys2Proof.Machine

variable {b : Booth} {s : State}

/-! ## What is posted, reported and queued (R135, R146 to R149, R177, R181) -/

@[simp] theorem books_postTo (f : BoothLine → BoothLine) : (postTo b f s).books = s.books := by
  unfold postTo
  split <;> simp

@[simp] theorem books_postSignal (sig : Signal) : (postSignal b sig s).books = s.books := by simp [postSignal]

@[simp] theorem books_postDebit (w : DebitWork) : (postDebit b w s).books = s.books := by simp [postDebit]

@[simp] theorem books_postCardAction (a : CardAction) : (postCardAction b a s).books = s.books := by
  simp [postCardAction]

@[simp] theorem books_withdrawCardAction : (withdrawCardAction b s).books = s.books := rfl

@[simp] theorem books_clearPending : (clearPending b s).books = s.books := rfl

@[simp] theorem books_notePending (c : NoticeCause) : (notePending c s).books = s.books := rfl

@[simp] theorem books_reportFault (kind : FaultKind) (plan : Fin 8) (digits : List Digit)
    (card : Option (BitVec 16 × BitVec 32)) : (reportFault kind b plan digits card s).books = s.books := by
  unfold reportFault
  split <;> simp

@[simp] theorem books_signalBooths (p : Booth → Bool) (sig : Signal) : (signalBooths p sig s).books = s.books :=
  books_foldl (fun t x => by split <;> simp) _

@[simp] theorem books_queueSig (f : SigFrame) : (queueSig f s).books = s.books := by
  unfold queueSig
  split <;> simp

@[simp] theorem books_oweHangup (ch : Channel) : (oweHangup ch s).books = s.books := by
  unfold oweHangup
  split <;> simp

@[simp] theorem books_joinWaiting : (joinWaiting b s).books = s.books := rfl

@[simp] theorem books_leaveWaiting : (leaveWaiting b s).books = s.books := rfl

@[simp] theorem books_offerSlot : (offerSlot s).books = s.books := by
  unfold offerSlot
  repeat' split
  all_goals simp

@[simp] theorem books_offerSlotsFuel (n : Nat) : (offerSlotsFuel n s).books = s.books := by
  induction n generalizing s with
  | zero => rfl
  | succ n ih =>
    unfold offerSlotsFuel
    split <;> simp [ih]

@[simp] theorem books_offerSlots : (offerSlots s).books = s.books := books_offerSlotsFuel _

@[simp] theorem books_forward (d : Digit) : (forward b d s).books = s.books := by
  unfold forward
  dsimp only
  split_ifs <;> simp

@[simp] theorem books_releaseHeldFuel (n : Nat) : (releaseHeldFuel n b s).books = s.books := by
  induction n generalizing s with
  | zero => rfl
  | succ n ih =>
    unfold releaseHeldFuel
    repeat' split
    all_goals simp [ih]

@[simp] theorem books_releaseHeld : (releaseHeld b s).books = s.books := books_releaseHeldFuel _

@[simp] theorem books_releaseChannel (owe : Bool) : (releaseChannel b owe s).books = s.books := by
  unfold releaseChannel
  dsimp only
  split <;> simp

/-! ## Booth health, drains, tickets and bands -/

@[simp] theorem books_enterTaken : (enterTaken b s).books = s.books := by simp [enterTaken]

@[simp] theorem books_honourMark : (honourMark b s).books = s.books := by
  unfold honourMark
  split <;> simp

@[simp] theorem books_checkDrain : (checkDrain s).books = s.books := by
  unfold checkDrain
  split <;> simp

@[simp] theorem books_writeTicket : (writeTicket b s).books = s.books := by
  unfold writeTicket
  dsimp only
  split <;> simp

@[simp] theorem books_giveBackReservation : (giveBackReservation s).books = s.books := rfl

@[simp] theorem books_evaluateBand : (evaluateBand b s).books = s.books := by
  unfold evaluateBand
  split <;> simp

@[simp] theorem books_evaluateAll : (evaluateAll s).books = s.books := books_foldl (fun t x => by split <;> simp) _

/-! ## The card list's marks and the slot's count (R104, R113, R119) -/

@[simp] theorem books_lowCreditTest (i : Nat) : (lowCreditTest b i s).books = s.books := by
  unfold lowCreditTest
  repeat' split
  all_goals simp

@[simp] theorem books_countSignals (i : Nat) : (countSignals b i s).books = s.books := by
  unfold countSignals
  repeat' split
  all_goals simp

@[simp] theorem books_setSlotCount (i count : Nat) : (setSlotCount b i count s).books = s.books := by
  unfold setSlotCount
  split
  · split
    next slot => exact books_setSlot_kept (by rw [slot]; rfl)
    · rfl
  · rfl

@[simp] theorem books_markCardLeft : (markCardLeft b s).books = s.books := by simp [markCardLeft]

/-! ## The walk and the admission (R4, R31 to R37) -/

@[simp] theorem books_walkFault (kind : FaultKind) (str : List Digit) : (walkFault b kind str s).books = s.books := by
  unfold walkFault
  dsimp only
  split <;> simp

@[simp] theorem books_walkHit (str : List Digit) (e : CacheEntry) : (walkHit b str e s).2.books = s.books := by
  unfold walkHit
  dsimp only
  split <;> simp

@[simp] theorem books_walkMiss (str : List Digit) (d : Digit) (tag : Fin 64) :
    (walkMiss b str d tag s).2.books = s.books := by
  unfold walkMiss
  dsimp only
  repeat' split
  all_goals simp

@[simp] theorem books_walkStep (d : Digit) : (walkStep b d s).2.books = s.books := by
  unfold walkStep
  dsimp only
  split <;> simp

@[simp] theorem books_refuseAdmission (cause : RefusalCause) : (refuseAdmission b cause s).books = s.books := by
  unfold refuseAdmission
  dsimp only
  split <;> simp

@[simp] theorem books_storeDigit (d : Digit) : (storeDigit b d s).books = s.books := by simp [storeDigit]

@[simp] theorem books_digitCardWait (d : Digit) : (digitCardWait b d s).books = s.books := by
  unfold digitCardWait
  split <;> simp

@[simp] theorem books_digitAfterLeaf (d : Digit) : (digitAfterLeaf b d s).books = s.books := by
  unfold digitAfterLeaf
  dsimp only
  split <;> simp

@[simp] theorem books_countProbe (r : CardRecord) : (countProbe r s).books = s.books := by
  unfold countProbe
  repeat' split
  all_goals simp

/-! ## The Line Controllers (R127 to R138) -/

@[simp] theorem books_arbiterTurn (g : Segment) : (arbiterTurn g s).books = s.books := by
  unfold arbiterTurn sendGrant
  repeat' split
  all_goals simp

@[simp] theorem books_probeReturn : (probeReturn b s).books = s.books := by
  unfold probeReturn
  dsimp only
  split <;> simp

@[simp] theorem books_clearServed (t : Transaction) : (clearServed t s).books = s.books := by
  unfold clearServed
  cases t.request <;> rfl

@[simp] theorem books_windowHoldExpiry (g : Segment) : (windowHoldExpiry g s).books = s.books := by
  unfold windowHoldExpiry
  split <;> simp

@[simp] theorem books_probeExpiry : (probeExpiry b s).books = s.books := by
  unfold probeExpiry
  split <;> simp

/-! ## The clock and the Trunk Port (R63, R141 to R152) -/

@[simp] theorem books_clockAdvance : (clockAdvance s).books = s.books := by
  unfold clockAdvance
  dsimp only
  split_ifs
  · exact books_evaluateAll
  · rfl
  · rfl

@[simp] theorem books_minuteTurn : (minuteTurn s).books = s.books := by
  unfold minuteTurn
  split <;> simp

@[simp] theorem books_validFrame : (validFrame s).books = s.books := rfl

@[simp] theorem books_discardFrame (reason : TrunkDiscard) : (discardFrame reason s).books = s.books := rfl

@[simp] theorem books_commandFrame (c : Cmd) : (commandFrame c s).books = s.books := by
  unfold commandFrame
  dsimp only
  split <;> simp

@[simp] theorem books_dropLink : (dropLink s).books = s.books := by simp [dropLink]

@[simp] theorem books_syncExpiry : (syncExpiry s).books = s.books := rfl

@[simp] theorem books_sendSig (f : SigFrame) : (sendSig f s).books = s.books := by simp [sendSig, transmit]

@[simp] theorem books_sendNotice : (sendNotice s).books = s.books := by
  unfold sendNotice
  dsimp only
  split <;> simp [transmit]

@[simp] theorem books_chooseFrame : (chooseFrame s).books = s.books := by
  unfold chooseFrame
  repeat' split
  all_goals simp [sendSync, sendHangup, sendReply, transmit]

@[simp] theorem books_transmitStart : (transmitStart s).books = s.books := by
  unfold transmitStart
  split <;> simp

@[simp] theorem books_transmitComplete : (transmitComplete s).books = s.books := by
  unfold transmitComplete
  split <;> simp

@[simp] theorem books_noticeHoldExpiry : (noticeHoldExpiry s).books = s.books := by
  unfold noticeHoldExpiry
  split <;> simp

@[simp] theorem books_offerReply (r : Reply) : (offerReply r s).books = s.books := by
  unfold offerReply
  split <;> simp

@[simp] theorem books_answerCommand (c : Cmd) (r : Carried) : (answerCommand c r).books = r.state.books := by
  unfold answerCommand
  dsimp only
  split <;> simp

/-! ## Resets (R154, R170, R171) -/

@[simp] theorem books_oweAll (chs : List Channel) : (oweAll chs s).books = s.books :=
  books_foldl (fun _ _ => books_oweHangup _) _

@[simp] theorem books_restartManagement : (restartManagement s).books = s.books := rfl

@[simp] theorem books_restartTrunk : (restartTrunk s).books = s.books := rfl

@[simp] theorem books_withdrawSegment (g : Segment) : (withdrawSegment g s).books = s.books := by
  simp [withdrawSegment]

@[simp] theorem books_orphanOpen (g : Segment) : (orphanOpen b g s).books = s.books := by simp [orphanOpen]

@[simp] theorem books_enableBooth : (enableBooth b s).books = s.books := rfl

end Sys2Proof.Machine
end

section
/-!
# The moves of an account and of the books
-/

namespace Sys2Proof.Machine

namespace Account

/-- An account emptied: the debit record's values of R69 and R100, no class, and the state given (R3, R123). -/
def emptied (st : CtxState) (a : Account) : Account :=
  { state := st, snap := none, p := 0, charged := 0, covered := 0, debtSaturated := false, chargeSaturated := false,
    values := [], outstanding := .none, uncertain := none, card := a.card }

/-- The call is over: the context FREE, the card list and the uncertain record gone (R1, R11, R17, R111). -/
def freed (a : Account) : Account := { a with state := .free, snap := none, values := [], uncertain := none }

/-- The slot's VALID card joins the card list (R101). -/
def joined (a : Account) : Account := { a with values := a.values ++ a.card.toList }

/-- A request becomes the uncertain record (R110). -/
def recorded (q : Ask) (a : Account) : Account :=
  { a with outstanding := .none, uncertain := some { entry := q.entry, before := q.before, n := q.n } }

/-- The unit value of a card list entry, 0 where there is none. -/
def valueAt (a : Account) (i : Nat) : Nat := (a.values[i]?).getD 0

/-- k units are confirmed on the entry at place i; from k of 1 on the uncertain record is dropped (R104, R111). -/
def confirmed (i k : Nat) (a : Account) : Account :=
  { a with
    p := a.p + (k * a.valueAt i : Nat), covered := a.covered + k * a.valueAt i,
    uncertain := if k = 0 then a.uncertain else none }

/-- The set-up charge of the call's class. -/
def setupCharged (a : Account) : Nat := (a.snap.map Snapshot.setupCharged).getD 0

/-- The call is answered: P = −s and a charged total of s (R71). -/
def started (a : Account) : Account :=
  { a with state := .speech, p := -(a.setupCharged : Int), charged := a.setupCharged }

/-- A tick of charge t (R72 to R74). -/
def ticked (t : Nat) (a : Account) : Account :=
  { a with
    p := lowerBalance a.p t, debtSaturated := a.debtSaturated || clamps a.p t,
    charged := min Config.maxQuanta (a.charged + t),
    chargeSaturated := a.chargeSaturated || decide (min Config.maxQuanta (a.charged + t) = Config.maxQuanta) }

/-- The record of the Tariff Class Table that a snapshot took its set-up charge from (R36). -/
def Priced (classes : SMap ClassRecord) (p : Snapshot) : Prop := ∃ k, p.setup = (smGet .undefined k classes).setup

/-- What an event can do to one account. -/
inductive Move (B : Books) (a : Account) : Account → Prop
  | emptied (st : CtxState) : Move B a (a.emptied st)
  | freed (h : a.state.preAnswer = true ∨ a.outstanding = .none) : Move B a a.freed
  | goes {st : CtxState} (h : a.state.SamePhase st) : Move B a { a with state := st }
  | priced {p : Snapshot} (h : Priced B.classes p) : Move B a { a with snap := some p }
  | cardLeaves : Move B a { a with card := none }
  | cardAccepted (k : Fin 32) : Move B a { a with card := some (B.series.get k).unitValue }
  | joined : Move B a a.joined
  | asks {q : Ask} (hs : a.state.answered = true) (hp : a.p < 0) {v : Nat} (hv : a.values[q.entry]? = some v)
      (hn : q.n ≤ ceilDiv a.p.natAbs v) : Move B a { a with outstanding := .cancel q }
  | verifies {q : Ask} (h : a.outstanding = .cancel q) : Move B a { a with outstanding := .verify q }
  | drops : Move B a { a with outstanding := .none }
  | recorded {q : Ask} (h : a.outstanding.ask = some q) : Move B a (a.recorded q)
  | forgets : Move B a { a with uncertain := none }
  | confirmed {q : Ask} {k : Nat} (h : a.outstanding.ask = some q) (hk : k ≤ q.n) :
      Move B a { a.confirmed q.entry k with outstanding := .none }
  | resolved {u : Uncertain} {k : Nat} (ho : a.outstanding = .none) (h : a.uncertain = some u) (hk : k ≤ u.n) :
      Move B a { a.confirmed u.entry k with uncertain := none }
  | started (h : a.state.preAnswer = true) : Move B a a.started
  | ticked (t : Nat) : Move B a (a.ticked t)

end Account

/-- What an event can do to the books. -/
inductive Books.Move (B : Books) : Books → Prop
  | account {b : Booth} {a : Account} (h : (B.account b).Move B a) : Move B (B.set b a)
  | classes {m : SMap ClassRecord} (h : ∀ e ∈ m, e ∈ B.classes ∨ e.2.setup ≤ 4000000) :
      Move B { B with classes := m }
  | series {v : Vector SeriesRecord 32} (h : ∀ k, v.get k = B.series.get k ∨ (v.get k).unitValue ≤ 4000000) :
      Move B { B with series := v }
  | powerOn : Move B State.reset.books

/-- The books of t come from those of s by moves. -/
def Moves (s t : State) : Prop := Relation.ReflTransGen Books.Move s.books t.books

namespace Moves
variable {s t u : State} {b : Booth} {a : Account}

theorem of_books (h : t.books = s.books) : Moves s t := by
  rw [Moves, h]

theorem refl (s : State) : Moves s s := of_books rfl

theorem trans (h : Moves s t) (k : Moves t u) : Moves s u := Relation.ReflTransGen.trans h k

/-- Moves, then an operation that leaves the books. -/
theorem then_books (h : Moves s t) (k : u.books = t.books) : Moves s u := h.trans (of_books k)

/-- An operation that leaves the books, then moves. -/
theorem after_books (h : Moves t u) (k : t.books = s.books) : Moves s u := (of_books k).trans h

theorem of_move (h : s.books.Move t.books) : Moves s t := Relation.ReflTransGen.single h

theorem of_account (h : (s.books.account b).Move s.books a) (k : t.books = s.books.set b a) : Moves s t := by
  refine of_move ?_
  rw [k]
  exact .account h

theorem foldl {β : Type} {f : State → β → State} (h : ∀ t x, Moves t (f t x)) (l : List β) : Moves s (l.foldl f s) :=
  foldl_closed (P := Moves s) (fun t x ht => ht.trans (h t x)) l (refl s)

theorem forBooths {p : Booth → Bool} {f : Booth → State → State} (h : ∀ b t, Moves t (f b t)) :
    Moves s (forBooths p f s) :=
  foldl (fun t b => by
    split
    · exact h b t
    · exact refl t) _

end Moves

/-! ## The ends of calls (R11, R16 to R20, R22) -/

section
variable {b : Booth} {s : State}

@[simp] theorem books_releaseCard (reason : CardReason) :
    (releaseCard b reason s).books = s.books.set b { s.books.account b with card := none } := by
  unfold releaseCard
  split
  · dsimp only
    split_ifs <;> simp [books_setSlot, CardSlot.unitValue]
  next empty =>
    have : (s.slot b).unitValue = none := by
      unfold CardSlot.unitValue
      split
      next slot => exact absurd slot (empty _ _ _ _)
      · rfl
    rw [← this]
    exact (Books.set_self s.books b).symm

@[simp] theorem books_freeContext : (freeContext b s).books = s.books.set b (s.books.account b).freed := by
  simp [freeContext, books_modCtx, books_modDebit]
  rfl

theorem books_endBeforeAnswer (cause : EndCause) :
    (endBeforeAnswer b cause s).books = s.books.set b (s.books.account b).freed := by
  unfold endBeforeAnswer
  dsimp only
  split <;> simp

theorem books_complete (eject : Bool) :
    (complete b eject s).books =
      s.books.set b { (s.books.account b).freed with card := if eject then none else (s.books.account b).card } := by
  unfold complete
  dsimp only
  split <;> cases eject <;> simp <;> rfl

theorem books_postCancel (i : Nat) (e : CardEntry) (n : Nat) (final : Bool) :
    (postCancel b i e n final s).books =
      s.books.set b
        { s.books.account b with
          outstanding := .cancel { entry := i, n := n, before := e.lastKnown, final := final } } := by
  simp [postCancel, books_modDebit]
  rfl

theorem books_makeUncertain (q : Ask) (report : Bool) :
    (makeUncertain b q report s).books = s.books.set b ((s.books.account b).recorded q) := by
  unfold makeUncertain
  dsimp only
  split_ifs <;> simp [books_modDebit] <;> rfl

theorem moves_freeContext (h : (s.ctx b).state.preAnswer = true ∨ (s.debit b).outstanding = .none) :
    Moves s (freeContext b s) := .of_account (.freed h) books_freeContext

theorem moves_endBeforeAnswer (h : (s.ctx b).state.preAnswer = true) (cause : EndCause) :
    Moves s (endBeforeAnswer b cause s) := .of_account (.freed (.inl h)) (books_endBeforeAnswer cause)

theorem moves_releaseCard (reason : CardReason) : Moves s (releaseCard b reason s) :=
  .of_account .cardLeaves (books_releaseCard reason)

theorem moves_complete (ho : (s.debit b).outstanding = .none) (eject : Bool) : Moves s (complete b eject s) := by
  have freed : Moves s (freeContext b s) := moves_freeContext (.inr ho)
  cases eject with
  | false => exact freed.then_books (by rw [books_complete, books_freeContext]; rfl)
  | true => exact freed.trans (.of_account (b := b) .cardLeaves (by rw [books_complete, books_freeContext]; simp))

theorem moves_settled (ho : (s.debit b).outstanding = .none) : Moves s (settled b s) :=
  .after_books (moves_complete (by simpa using ho) true) (by simp)

theorem value_of_currentCard {i : Nat} {e : CardEntry} (h : s.currentCard b = some (i, e)) :
    (s.books.account b).values[i]? = some e.unitValue := by
  change ((s.debit b).cards.map CardEntry.unitValue)[i]? = _
  have listed : (s.debit b).cards[i]? = some e := by
    simp only [State.currentCard, State.slotEntry] at h
    grind
  rw [List.getElem?_map, listed]
  rfl

theorem unitsFor_le (p : Int) (v r : Nat) : unitsFor p v r ≤ ceilDiv p.natAbs v :=
  (Nat.min_le_left _ _).trans (Nat.min_le_left _ _)

/-- A CANCEL for no more units than the debt asks for (R75). -/
theorem moves_postCancel {i : Nat} {e : CardEntry} (hs : (s.ctx b).state.answered = true) (hp : (s.debit b).p < 0)
    (hc : s.currentCard b = some (i, e)) (r : Nat) (final : Bool) :
    Moves s (postCancel b i e (unitsFor (s.debit b).p e.unitValue r) final s) :=
  .of_account (.asks hs hp (value_of_currentCard hc) (unitsFor_le _ _ _)) (books_postCancel ..)

theorem moves_finalTest (hs : (s.ctx b).state.answered = true) (ho : (s.debit b).outstanding = .none) :
    Moves s (finalTest b s) := by
  unfold finalTest
  dsimp only
  split
  next i e hc =>
    split_ifs with due
    · exact .then_books (moves_postCancel hs due.1 hc e.remaining.toNat true) (by simp [books_postCancel])
    · exact moves_settled ho
  · exact moves_settled ho

theorem moves_beginSettle (hs : (s.ctx b).state.answered = true) : Moves s (beginSettle b s) := by
  unfold beginSettle
  split
  next ho => exact moves_finalTest hs ho
  · exact .of_books (by simp)

theorem moves_settleOn (hs : (s.ctx b).state.answered = true) (ho : (s.debit b).outstanding = .none) (final : Bool) :
    Moves s (settleOn b final s) := by
  unfold settleOn
  split
  · exact moves_settled ho
  · exact moves_finalTest hs ho

theorem answered_of_metered {x : CtxState} : x.metered = true → x.answered = true := by
  cases x <;> decide

theorem preAnswer_of_answered {x : CtxState} : x.answered = true → x.preAnswer = false := by
  cases x <;> decide

theorem answered_of_ending {x : CtxState} (h : x = .ending) : x.answered = true := h ▸ rfl

/-- The states of an answered call are one phase. -/
theorem samePhase_of_answered {x y : CtxState} (hx : x.answered = true) (hy : y.answered = true) : x.SamePhase y :=
  ⟨(preAnswer_of_answered hx).trans (preAnswer_of_answered hy).symm, hx.trans hy.symm⟩

theorem books_ending (cause : EndCause) :
    (ending b cause s).books = s.books.set b { s.books.account b with state := .ending } := by
  simp [ending, books_modCtx]
  rfl

theorem moves_ending (h : (s.ctx b).state.metered = true) (cause : EndCause) : Moves s (ending b cause s) :=
  .of_account (.goes (samePhase_of_answered (answered_of_metered h) rfl)) (books_ending cause)

theorem moves_enterEnding (cause : EndCause) : Moves s (enterEnding b cause s) := by
  unfold enterEnding
  split
  next metered =>
    exact (moves_ending metered cause).trans (moves_beginSettle (by rw [ctx_ending]; rfl))
  · exact .refl s

theorem moves_dropOutstanding (report : Bool) : Moves s (dropOutstanding b report s) := by
  unfold dropOutstanding
  split
  next h => exact .of_account (.recorded h) (books_makeUncertain _ report)
  · exact .refl s

theorem outstanding_dropOutstanding (report : Bool) : ((dropOutstanding b report s).debit b).outstanding = .none := by
  unfold dropOutstanding
  split
  next q _ =>
    change ((makeUncertain b q report s).books.account b).outstanding = .none
    rw [books_makeUncertain, Books.set_account_self]
    rfl
  next h =>
    cases ho : (s.debit b).outstanding with
    | none => rfl
    | cancel q => simp [ho, Outstanding.ask] at h
    | verify q => simp [ho, Outstanding.ask] at h

theorem moves_cutShort : Moves s (cutShort b s) := by
  have settled : Moves s (modDebit b Debit.settle (dropOutstanding b true s)) :=
    (moves_dropOutstanding true).then_books (books_modDebit_kept fun _ => rfl)
  refine settled.trans (moves_complete ?_ false)
  rw [debit_modDebit_self]
  exact outstanding_dropOutstanding true

theorem moves_endForHealth (cause : EndCause) : Moves s (endForHealth b cause s) := by
  unfold endForHealth
  dsimp only
  refine Moves.then_books ?_ (books_modCtx_kept (f := fun c => { c with hookOff := false }) (fun _ => rfl) fun _ => rfl)
  split_ifs with unanswered metered ending
  · exact moves_endBeforeAnswer unanswered cause
  · exact (moves_ending metered cause).trans moves_cutShort
  · exact moves_cutShort
  · exact .refl s

theorem moves_endForReset (cause : EndCause) : Moves s (endForReset cause b s) := by
  have emptied (t : State) : Moves t
      (modCtx b (fun c => { c.toFree with hookOff := false }) (modDebit b (fun _ => Debit.reset) t)) :=
    .of_account (.emptied .free) (by simp [books_modCtx, books_modDebit]; rfl)
  have dropped (recorded : EndCause) :
      Moves s (dropOutstanding b false (modCtx b (fun c => { c with endCause := some recorded }) s)) :=
    (Moves.of_books (by simp)).trans (moves_dropOutstanding false)
  unfold endForReset
  dsimp only
  refine .trans ?_ (emptied _)
  split
  · exact .of_books (by simp)
  · split
    · exact (dropped (if (s.ctx b).state = .ending then (s.ctx b).endCause.getD cause else cause)).then_books (by simp)
    · exact .refl s

end

end Sys2Proof.Machine
end

section
/-!
# The moves of the Debit Unit (R71 to R76, R104 to R117)
-/

namespace Sys2Proof.Machine

variable {b : Booth} {s : State}

theorem outstanding_of_books {t : State} {B : Books} {a : Account} (h : t.books = B.set b a) :
    (t.debit b).outstanding = a.outstanding := by
  change (t.books.account b).outstanding = _
  rw [h, Books.set_account_self]

theorem state_of_books {t : State} {B : Books} {a : Account} (h : t.books = B.set b a) : (t.ctx b).state = a.state := by
  change (t.books.account b).state = _
  rw [h, Books.set_account_self]

theorem outstanding_congr {t : State} (h : t.books = s.books) : (t.debit b).outstanding = (s.debit b).outstanding :=
  congrArg (fun B => (B.account b).outstanding) h

/-! ## Units due and exhaustion (R75, R114, R115) -/

theorem moves_enterSwap (cause : EndCause) : Moves s (enterSwap b cause s) := by
  unfold enterSwap
  split
  next speech =>
    refine .of_account (b := b) (.goes (st := .swap) (samePhase_of_answered ?_ rfl)) (by simp [books_modCtx]; rfl)
    change (s.ctx b).state.answered = true
    rw [speech]
    rfl
  · exact .refl s

theorem moves_exhaust : Moves s (exhaust b s) :=
  (((moves_releaseCard .exhausted).after_books (books_postSignal _)).trans (moves_enterSwap .credit)).then_books
    (books_bump _)

theorem moves_unitsDue : Moves s (unitsDue b s) := by
  unfold unitsDue
  dsimp only
  split
  next due =>
    obtain ⟨speech, debt, -⟩ := due
    split
    next i e hc =>
      split_ifs
      · exact moves_postCancel (by rw [speech]; rfl) debt hc _ false
      · exact moves_exhaust
      · exact .refl s
    · exact .refl s
  · exact .refl s

/-! ## Units confirmed (R104, R111) -/

theorem books_dropRecord (i k : Nat) :
    (dropRecord b i k s).books =
      s.books.set b
        { s.books.account b with uncertain := if k = 0 then (s.books.account b).uncertain else none } := by
  unfold dropRecord
  split
  · dsimp only
    split_ifs
    · exact (Books.set_self s.books b).symm
    · rw [books_modDebit]
      rfl
    · rw [books_bump, books_modDebit]
      rfl
  next kept =>
    have unchanged : (if k = 0 then (s.books.account b).uncertain else none) = (s.books.account b).uncertain := by
      split
      · rfl
      · exact kept.symm
    rw [unchanged]
    exact (Books.set_self s.books b).symm

theorem books_confirm (i k count : Nat) :
    (confirm b i k count s).books = s.books.set b ((s.books.account b).confirmed i k) := by
  have value : (((s.debit b).cards[i]?).map CardEntry.unitValue).getD 0 = (s.books.account b).valueAt i := by
    change _ = (((s.debit b).cards.map CardEntry.unitValue)[i]?).getD 0
    rw [List.getElem?_map]
  simp [confirm, books_dropRecord, books_modDebit, value]
  rfl

theorem confirmedUnits_le {count before n k : Nat} (h : confirmedUnits count before n = some k) : k ≤ n := by
  unfold confirmedUnits at h
  split at h
  next bounds =>
    injection h with h
    exact h ▸ bounds.2
  · cases h

theorem books_clearOutstanding :
    (clearOutstanding b s).books = s.books.set b { s.books.account b with outstanding := .none } := books_modDebit _

/-- The state in which the k units of a reply are confirmed and its request is no more. -/
theorem books_replied (i k count : Nat) :
    (confirm b i k count (clearOutstanding b s)).books =
      s.books.set b { (s.books.account b).confirmed i k with outstanding := .none } := by
  rw [books_confirm, books_clearOutstanding, Books.set_account_self, Books.set_set]
  rfl

theorem moves_replied {q : Ask} {k : Nat} (h : (s.debit b).outstanding.ask = some q) (hk : k ≤ q.n) (count : Nat) :
    Moves s (confirm b q.entry k count (clearOutstanding b s)) := .of_account (.confirmed h hk) (books_replied ..)

/-! ## The outcomes of CANCEL and VERIFY (R104 to R110) -/

theorem moves_goOn (ho : (s.debit b).outstanding = .none) (final : Bool) : Moves s (goOn b final s) := by
  unfold goOn
  split
  · exact moves_unitsDue
  next ending => exact moves_settleOn (answered_of_ending ending) ho final
  · exact .refl s

theorem moves_countFault (i : Nat) : Moves s (countFault b i s) := by
  unfold countFault
  dsimp only
  generalize ht : reportFault _ b _ _ _ _ = t
  have faulted : t.books = s.books.set b { s.books.account b with outstanding := .none } := by
    rw [← ht]
    simp [books_modDebit]
    rfl
  have moved : Moves s t := .of_account .drops faulted
  split_ifs with metered ending
  · exact moved.trans (moves_enterEnding .cardFault)
  · have still : (t.ctx b).state = .ending := (state_of_books faulted).trans ending
    exact moved.trans (moves_settleOn (answered_of_ending still) (outstanding_of_books faulted) _)
  · exact moved

variable {q : Ask}

theorem moves_countReply (h : (s.debit b).outstanding.ask = some q) (count : Nat) :
    Moves s (countReply b q count s) := by
  unfold countReply
  split
  next k hk =>
    have replied := moves_replied h (confirmedUnits_le hk) count
    have none : ((confirm b q.entry k count (clearOutstanding b s)).debit b).outstanding = .none :=
      outstanding_of_books (books_replied ..)
    dsimp only
    split_ifs
    · exact replied.trans (moves_goOn none q.final)
    · exact (replied.then_books (books_countSignals _)).trans
        (moves_goOn ((outstanding_congr (books_countSignals _)).trans none) q.final)
  · exact moves_countFault _

/-- The card of a write error is released while its slot is occupied by it. -/
theorem moves_releasedIf {c : Prop} [Decidable c] (ho : (s.debit b).outstanding = .none) (reason : CardReason) :
    Moves s (if c then releaseCard b reason s else s)
      ∧ ((if c then releaseCard b reason s else s).debit b).outstanding = .none := by
  split
  · exact ⟨moves_releaseCard reason, (outstanding_of_books (books_releaseCard reason)).trans ho⟩
  · exact ⟨.refl s, ho⟩

theorem moves_writeErrorReply (h : (s.debit b).outstanding.ask = some q) (count : Nat) :
    Moves s (writeErrorReply b q count s) := by
  unfold writeErrorReply
  split
  next k hk =>
    obtain ⟨moved, none⟩ := moves_releasedIf
      (c := (confirm b q.entry k count (clearOutstanding b s)).slotHolds b q.entry = true)
      (outstanding_of_books (books_replied q.entry k count)) .writeError
    replace moved := ((moves_replied h (confirmedUnits_le hk) count).trans moved).then_books
      (books_bump Ctr.writeErrors)
    dsimp only
    split
    · exact moved.trans (moves_enterSwap _)
    next ending => exact moved.trans (moves_settleOn (answered_of_ending ending) none _)
    · exact moved
  · exact moves_countFault _

theorem moves_cardGone (ho : (s.debit b).outstanding = .none) (final : Bool) : Moves s (cardGone b final s) := by
  unfold cardGone
  split
  · exact moves_enterSwap _
  next ending =>
    have left : (markCardLeft b s).books = s.books := books_markCardLeft
    exact (Moves.of_books left).trans
      (moves_settleOn (s := markCardLeft b s) (answered_of_ending ending) ((outstanding_congr left).trans ho) final)
  · exact .refl s

theorem moves_noCardReply : Moves s (noCardReply b q s) := by
  have cleared : Moves s (clearOutstanding b s) := .of_account .drops books_clearOutstanding
  exact (cleared.then_books (books_bump Ctr.noCardReplies)).trans
    (moves_cardGone (s := bump Ctr.noCardReplies (clearOutstanding b s))
      (outstanding_of_books books_clearOutstanding) q.final)

theorem moves_missedCancel (h : (s.debit b).outstanding = .cancel q) : Moves s (missedCancel b q s) :=
  .of_account (.verifies h) (by simp [missedCancel, books_modDebit]; rfl)

theorem moves_uncertainReply (h : (s.debit b).outstanding.ask = some q) : Moves s (uncertainReply b q s) := by
  have recorded : Moves s (makeUncertain b q true s) := .of_account (.recorded h) (books_makeUncertain q true)
  exact recorded.trans (moves_cardGone (outstanding_of_books (books_makeUncertain q true)) q.final)

theorem moves_debitOutcome (reply : Option BoothReply) : Moves s (debitOutcome b reply s) := by
  unfold debitOutcome
  split
  · exact .of_books (books_bump _)
  next q ho =>
    have asked : (s.debit b).outstanding.ask = some q := by rw [ho]; rfl
    split
    · exact moves_countReply asked _
    · exact moves_writeErrorReply asked _
    · exact moves_noCardReply
    · exact moves_noCardReply
    · exact moves_missedCancel ho
  next q ho =>
    have asked (c : CounterId) : ((bump c s).debit b).outstanding.ask = some q := by rw [debit_bump, ho]; rfl
    split
    · split
      · dsimp only
        split
        · exact (Moves.of_books (books_bump _)).trans (moves_countReply (asked _) _)
        · exact moves_countReply (by rw [ho]; rfl) _
      · exact moves_uncertainReply (by rw [ho]; rfl)
    · exact .refl s
    · exact moves_uncertainReply (by rw [ho]; rfl)
    · exact .refl s

/-! ## Counts taken without a request (R111, R112) -/

theorem moves_compareCount (i count : Nat) : Moves s (compareCount b i count s) := by
  unfold compareCount
  split
  · split_ifs
    · exact .of_books (by simp)
    · exact moves_countFault i
    · exact .refl s
  · exact .refl s

theorem moves_lateResolution {u : Uncertain} (hu : (s.debit b).uncertain = some u) (count : Nat) :
    Moves s (lateResolution b u count s) := by
  have forgets (f : Debit → Debit) (hf : f = fun d => { d with uncertain := none }) :
      (modDebit b f s).books = s.books.set b { s.books.account b with uncertain := none } := by
    rw [hf, books_modDebit]
    rfl
  have forgotten (f : Debit → Debit) (hf : f = fun d => { d with uncertain := none }) : Moves s (modDebit b f s) :=
    .of_account .forgets (forgets f hf)
  unfold lateResolution
  dsimp only
  split
  next ho =>
    split
    next k hk =>
      have resolved : Moves s (confirm b u.entry k count (bump Ctr.lateResolutions
          (modDebit b (fun d => { d with uncertain := none }) s))) := by
        refine .of_account (.resolved ho hu (confirmedUnits_le hk)) ?_
        rw [books_confirm, books_bump, forgets _ rfl, Books.set_account_self, Books.set_set]
        simp [Account.confirmed, Account.valueAt]
      split_ifs
      · exact resolved
      · exact resolved.then_books (books_countSignals _)
    · exact (forgotten _ rfl).trans (moves_countFault _)
  · exact ((forgotten _ rfl).then_books (books_bump _)).trans (moves_compareCount _ _)

theorem moves_takeCount (i count : Nat) : Moves s (takeCount b i count s) := by
  unfold takeCount
  dsimp only
  split_ifs
  · exact .refl s
  · split
    next hu =>
      split_ifs
      · exact moves_lateResolution hu count
      · exact moves_compareCount i count
    · exact moves_compareCount i count

theorem moves_countAtStatus (identity : BitVec 16 × BitVec 32) (count : Nat) :
    Moves s (countAtStatus b identity count s) := by
  unfold countAtStatus
  repeat' split
  · exact .refl s
  · exact moves_takeCount _ count
  · exact .of_books (by simp)
  · exact .refl s
  · exact .refl s

/-! ## The card list and SWAP (R101, R116) -/

theorem Account.joined_of_none {a : Account} (h : a.card = none) : a.joined = a := by
  cases a
  subst h
  simp [joined]

theorem books_joinList : (joinList b s).books = s.books.set b (s.books.account b).joined := by
  unfold joinList
  split
  next slot =>
    have card : (s.books.account b).card = some _ := congrArg CardSlot.unitValue slot
    simp [books_modDebit, Account.joined, card, entryOfSlot]
    rfl
  next empty =>
    have card : (s.books.account b).card = none := by
      change (s.slot b).unitValue = none
      unfold CardSlot.unitValue
      split
      next slot => exact absurd slot (empty _ _ _ _)
      · rfl
    rw [Account.joined_of_none card]
    exact (Books.set_self s.books b).symm

theorem moves_joinList : Moves s (joinList b s) := .of_account .joined books_joinList

theorem moves_returnToSpeech (h : (s.ctx b).state = .swap) : Moves s (returnToSpeech b s) := by
  have speech : Moves s (modCtx b (fun c => { c with state := .speech, swapWindow := none }) s) := by
    refine .of_account (.goes (st := .speech) (samePhase_of_answered ?_ rfl)) (books_modCtx _)
    change (s.ctx b).state.answered = true
    rw [h]
    rfl
  exact (speech.then_books (books_bump _)).trans moves_unitsDue

theorem moves_swapOffer (h : (s.ctx b).state = .swap) : Moves s (swapOffer b s) := by
  unfold swapOffer
  split
  · split
    · dsimp only
      split_ifs with swap
      · exact (moves_takeCount _ _).trans (moves_returnToSpeech swap)
      · exact moves_takeCount _ _
    · split_ifs
      · exact (moves_releaseCard _).then_books (books_bump _)
      · exact moves_joinList.trans (moves_returnToSpeech ((state_of_books books_joinList).trans h))
  · exact .refl s

/-! ## Answer and ticks (R71 to R74) -/

theorem books_chargeTotal : (chargeTotal b s).books = (modDebit b Debit.totalled s).books := by
  obtain ⟨counters, total⟩ := chargeTotal_eq b s
  rw [total]
  rfl

theorem books_chargeBalance : (chargeBalance b s).books = (modDebit b Debit.lowered s).books := by
  obtain ⟨debits, -, -, rest⟩ := balanceCharged_chargeBalance b s
  refine (congrArg State.books rest).trans ?_
  rw [debits]
  rfl

theorem books_charged :
    (chargeBalance b (chargeTotal b s)).books =
      s.books.set b ((s.books.account b).ticked (((s.debit b).t).getD 0)) := by
  have debit : (chargeTotal b s).debit b = (s.debit b).totalled := by
    obtain ⟨counters, total⟩ := chargeTotal_eq b s
    rw [total]
    exact debit_modDebit_self b Debit.totalled s
  rw [books_chargeBalance, books_modDebit, debit, books_chargeTotal, books_modDebit, Books.set_account_self,
    Books.set_set]
  rfl

theorem moves_timeLimitCheck : Moves s (timeLimitCheck b s) := by
  unfold timeLimitCheck
  dsimp only
  split
  · exact moves_enterEnding _
  · exact .refl s

end Sys2Proof.Machine
end

section
/-!
# The moves of the Call Engine and the Card Unit (R2 to R20, R82 to R91)
-/

namespace Sys2Proof.Machine

variable {b : Booth} {s : State}

theorem state_congr {t : State} (h : t.books = s.books) : (t.ctx b).state = (s.ctx b).state :=
  congrArg (fun B => (B.account b).state) h

theorem preAnswer_of_eq {x y : CtxState} (h : x = y) (hy : y.preAnswer = true) : x.preAnswer = true := h ▸ hy

/-! ## Answer and ticks (R12, R71 to R74) -/

theorem moves_startDebit {u : State} (h : (s.ctx b).state.preAnswer = true)
    (hu : u.books = s.books.set b { s.books.account b with state := .speech }) (hd : u.debit b = s.debit b) :
    Moves s (startDebit b u) := by
  have snap : (u.ctx b).snap = (s.ctx b).snap := by
    change (u.books.account b).snap = _
    rw [hu, Books.set_account_self]
    rfl
  unfold startDebit
  dsimp only
  generalize hv : modDebit b _ u = v
  have started : Moves s v := by
    refine .of_account (b := b) (.started h) ?_
    rw [← hv, books_modDebit, hu, Books.set_account_self, Books.set_set, snap, hd]
    rfl
  exact ((started.then_books books_evaluateBand).then_books (books_bump _)).trans moves_unitsDue

theorem moves_answerEvent : Moves s (answerEvent b s) := by
  unfold answerEvent
  split
  next routed =>
    exact moves_startDebit (preAnswer_of_eq routed rfl) (by rw [books_bump, books_modCtx]; rfl) rfl
  next dialling =>
    exact (Moves.of_books (books_bump _)).trans
      (moves_endBeforeAnswer (s := bump Ctr.earlyAnswers s) (preAnswer_of_eq dialling rfl) _)
  next cardWait =>
    exact (Moves.of_books (books_bump _)).trans
      (moves_endBeforeAnswer (s := bump Ctr.earlyAnswers s) (preAnswer_of_eq cardWait rfl) _)
  · exact .of_books (books_oweHangup _)
  · exact .refl s

theorem moves_takeTick : Moves s (takeTick b s) := by
  have scheduled : (bump Ctr.ticks
      (modDebit b (fun d => { d with nextTick := d.nextTick.map (· + Config.tick) }) s)).books = s.books :=
    (books_bump _).trans (books_modDebit_kept fun _ => rfl)
  have charged := (Moves.of_books scheduled).trans (.of_account (b := b) (.ticked _) books_charged)
  exact (charged.trans moves_unitsDue).trans moves_timeLimitCheck

theorem moves_tickEvent : Moves s (tickEvent b s) := by
  unfold tickEvent
  repeat' split
  · exact (Moves.of_books (books_reach _)).trans moves_takeTick
  · exact .refl s
  · exact .refl s

/-! ## Walk results and the credit check (R6, R7, R9) -/

/-- A leaf's snapshot takes its set-up charge from a record of the class table (R36). -/
theorem priced_of_walkStep {d : Digit} {p : Snapshot} {common : Bool} (h : (walkStep b d s).1 = .leaf p common) :
    Account.Priced s.books.classes p := by
  unfold walkStep walkHit walkMiss at h
  dsimp only at h
  split at h
  · split at h
    · obtain ⟨rfl, -⟩ := h
      exact ⟨_, rfl⟩
    · cases h
  · split at h
    · cases h
    · cases h
    · split_ifs at h
    · split at h
      · obtain ⟨rfl, -⟩ := h
        exact ⟨_, rfl⟩
      · cases h

theorem samePhase_of_preAnswer {x y : CtxState} (hx : x.preAnswer = true) (hy : y.preAnswer = true) :
    x.SamePhase y := by
  have unanswered {z : CtxState} (hz : z.preAnswer = true) : z.answered = false :=
    Bool.eq_false_iff.mpr fun ha => by rw [preAnswer_of_answered ha] at hz; cases hz
  exact ⟨hx.trans hy.symm, (unanswered hx).trans (unanswered hy).symm⟩

/-- A context of an unanswered call goes to another state of one. -/
theorem moves_goesUnanswered {f : Ctx → Ctx} {st : CtxState} (h : (s.ctx b).state.preAnswer = true)
    (hst : st.preAnswer = true) (hf : ∀ c, (f c).state = st) (hp : ∀ c, (f c).snap = c.snap) :
    Moves s (modCtx b f s) := by
  refine .of_account (b := b) (.goes (st := st) (samePhase_of_preAnswer h hst)) ?_
  rw [books_modCtx, hf, hp]
  rfl

theorem moves_enterRouted (h : (s.ctx b).state.preAnswer = true) : Moves s (enterRouted b s) :=
  moves_joinList.trans (moves_goesUnanswered (st := .routed)
    (preAnswer_of_eq (state_of_books books_joinList) h) rfl (fun _ => rfl) fun _ => rfl)

theorem moves_creditCheckWaiting (h : (s.ctx b).state.preAnswer = true) : Moves s (creditCheckWaiting b s) := by
  unfold creditCheckWaiting
  split
  · exact (moves_enterRouted h).then_books books_releaseHeld
  · exact moves_endBeforeAnswer h _

theorem moves_enterCardWait (h : (s.ctx b).state.preAnswer = true) (d : Digit) : Moves s (enterCardWait b d s) := by
  have waits : Moves (storeDigit b d s) (modCtx b (fun c =>
        { c with state := .cardWait, held := c.held ++ [d], digitWait := none,
                 cardWait := some (s.now + s.mgmt.limits.cardWait * Config.second) }) (storeDigit b d s)) :=
    moves_goesUnanswered (st := .cardWait) (preAnswer_of_eq (state_congr (books_storeDigit d)) h) rfl (fun _ => rfl)
      fun _ => rfl
  exact (((Moves.of_books (books_storeDigit d)).trans waits).then_books books_leaveWaiting).then_books
    (books_postSignal _)

theorem books_storeLeaf (p : Snapshot) (common : Bool) :
    (storeLeaf b p common s).books = s.books.set b { s.books.account b with snap := some p } := books_modCtx _

theorem moves_takeWalk {d : Digit} {o : WalkOutcome} (h : (s.ctx b).state.preAnswer = true)
    (ho : ∀ p common, o = .leaf p common → Account.Priced s.books.classes p) : Moves s (takeWalk b d o s) := by
  unfold takeWalk
  split
  · refine .of_books ?_
    rw [books_forward, books_storeDigit]
    exact books_modCtx_kept (fun _ => rfl) fun _ => rfl
  next p common =>
    have stored : Moves s (storeLeaf b p common s) := .of_account (.priced (ho p common rfl)) (books_storeLeaf p common)
    have unanswered : ((storeLeaf b p common s).ctx b).state.preAnswer = true :=
      preAnswer_of_eq (state_of_books (books_storeLeaf p common)) h
    dsimp only
    refine stored.trans ?_
    split_ifs
    · have routed : Moves (storeLeaf b p common s)
          (modCtx b (fun c => { c with state := .routed, digitWait := none }) (storeLeaf b p common s)) :=
        moves_goesUnanswered (st := .routed) unanswered rfl (fun _ => rfl) fun _ => rfl
      exact (routed.then_books (books_storeDigit d)).then_books (books_forward _)
    · exact ((moves_enterRouted unanswered).then_books (books_storeDigit d)).then_books (books_forward _)
    · exact moves_endBeforeAnswer unanswered _
    · exact moves_enterCardWait unanswered d
  · exact moves_endBeforeAnswer h _
  · exact moves_endBeforeAnswer h _
  · exact moves_endBeforeAnswer h _

/-! ## Digits, hooks and the exchange's events (R2, R6, R13, R14, R19) -/

theorem moves_digitDialling (h : (s.ctx b).state.preAnswer = true) (d : Digit) : Moves s (digitDialling b d s) := by
  unfold digitDialling
  split
  · exact moves_endBeforeAnswer h _
  · have same : (walkStep b d s).2.books = s.books := books_walkStep d
    refine (Moves.of_books same).trans (moves_takeWalk (preAnswer_of_eq (state_congr same) h) fun p common ho => ?_)
    rw [same]
    exact priced_of_walkStep ho

theorem moves_digitEvent (d : Digit) : Moves s (digitEvent b d s) := by
  unfold digitEvent
  split
  next dialling => exact moves_digitDialling (preAnswer_of_eq dialling rfl) d
  · exact .of_books (books_digitCardWait d)
  · exact .of_books (books_digitAfterLeaf d)
  · exact .of_books (books_digitAfterLeaf d)
  · exact .of_books (books_digitAfterLeaf d)
  · exact .of_books (books_bump _)
  · exact .of_books (books_bump _)

theorem moves_admitCall : Moves s (admitCall b s) := by
  refine .of_account (b := b) (.emptied .dialling) ?_
  simp only [admitCall, books_bump, books_queueSig, books_modRing, books_modDebit, books_modCtx, Books.set_account_self,
    Books.set_set]
  rfl

theorem moves_hookOffEvent : Moves s (hookOffEvent b s) := by
  have hook : Moves s (modCtx b (fun c => { c with hookOff := true }) s) :=
    .of_books (books_modCtx_kept (fun _ => rfl) fun _ => rfl)
  unfold hookOffEvent
  dsimp only
  repeat' split
  · exact hook.then_books (books_refuseAdmission _)
  · exact hook.trans moves_admitCall
  · exact hook

theorem moves_clearOrEnd (cause : EndCause) :
    Moves s (if (s.ctx b).state.preAnswer then endBeforeAnswer b cause s else enterEnding b cause s) := by
  split
  next h => exact moves_endBeforeAnswer h cause
  · exact moves_enterEnding cause

theorem moves_hookOnEvent : Moves s (hookOnEvent b s) := by
  have hook : Moves s (modCtx b (fun c => { c with hookOff := false }) s) :=
    .of_books (books_modCtx_kept (fun _ => rfl) fun _ => rfl)
  exact hook.trans (moves_clearOrEnd .boothHungUp)

theorem moves_forceClearEvent : Moves s (forceClearEvent b s) := moves_clearOrEnd .forced

theorem moves_clearEvent : Moves s (clearEvent b s) := by
  unfold clearEvent
  split_ifs with unanswered
  · exact moves_endBeforeAnswer unanswered _
  · have cleared : Moves s (modCtx b (fun c => { c with exchangeCleared := true }) s) :=
      .of_books (books_modCtx_kept (fun _ => rfl) fun _ => rfl)
    exact cleared.trans (moves_enterEnding _)
  · exact .refl s

/-! ## The slot and the call (R9, R15, R85, R88, R116, R119) -/

theorem moves_slotBecameValid : Moves s (slotBecameValid b s) := by
  unfold slotBecameValid
  split
  · exact .refl s
  · split
    next cardWait => exact moves_creditCheckWaiting (preAnswer_of_eq cardWait rfl)
    next swap => exact moves_swapOffer swap
    · split
      · split
        · exact moves_takeCount _ _
        · exact .refl s
      · exact .refl s
    · exact .refl s

theorem moves_slotLeftValid (wasCurrent : Bool) : Moves s (slotLeftValid b wasCurrent s) := by
  unfold slotLeftValid
  split
  · exact .refl s
  · split
    next routed => exact moves_endBeforeAnswer (preAnswer_of_eq routed rfl) _
    · split
      · exact moves_enterSwap _
      · exact .refl s
    · split
      · exact .of_books books_markCardLeft
      · exact .refl s
    · exact .refl s

/-- A slot that holds no VALID card afterwards. -/
theorem moves_slotLeft {x : CardSlot} (h : x.unitValue = none) : Moves s (setSlot b x s) :=
  .of_account .cardLeaves (by rw [books_setSlot, h])

theorem moves_emptySlotReported : Moves s (emptySlotReported b s) := by
  unfold emptySlotReported
  split
  · exact .refl s
  · exact (moves_slotLeft rfl).trans (moves_slotLeftValid _)
  · exact (moves_slotLeft rfl).then_books books_withdrawCardAction

/-- An accepted card's unit value is that of a record of the Series Table (R84, R85). -/
theorem unitValue_of_verdict {r : CardRecord} {v w : Nat} (h : s.verdict r = .accepted v w) :
    ∃ k, v = (s.books.series.get k).unitValue := by
  have early {rec : SeriesRecord} (found : s.earlyChecks r = .inr rec) : rec ∈ s.card.series.toList := by
    unfold State.earlyChecks at found
    cases table : seriesFind s.card.series r.series with
    | none => rw [table] at found; split_ifs at found
    | some rec' =>
      rw [table] at found
      dsimp only at found
      split_ifs at found
      injection found with same
      exact same ▸ List.mem_of_find?_eq_some table
  unfold State.verdict at h
  split at h
  · cases h
  next rec found =>
    split at h
    · cases h
    · injection h with value
      obtain ⟨i, hi, at_i⟩ := List.mem_iff_getElem.mp (early found)
      exact ⟨⟨i, by simpa using hi⟩, by rw [← value, ← at_i]; rfl⟩

theorem moves_acceptCard {k : Fin 32} {v : Nat} (hv : v = (s.books.series.get k).unitValue) (r : CardRecord) (w : Nat) :
    Moves s (acceptCard b r v w s) := by
  have inserted : Moves s (setSlot b (.valid r v w r.cancelled.toNat) s) :=
    .of_account (.cardAccepted k) (by rw [books_setSlot, ← hv]; rfl)
  exact ((inserted.then_books (books_postSignal _)).trans moves_slotBecameValid).then_books (books_bump _)

theorem moves_refuseCard (r : CardRecord) (reason : CardReason) (action : StopAction) :
    Moves s (refuseCard b r reason action s) := by
  have refused : Moves s (setSlot b (.refused r reason action) s) := moves_slotLeft rfl
  refine refused.then_books ?_
  unfold refuseCard
  dsimp only
  split <;> simp

theorem moves_refuseOutOfOrder (r : CardRecord) : Moves s (refuseOutOfOrder b r s) := by
  have refused : Moves s (setSlot b (.refused r .outOfOrder .eject) s) := moves_slotLeft rfl
  exact refused.then_books (by simp [refuseOutOfOrder])

theorem moves_judgeCard (r : CardRecord) : Moves s (judgeCard b r s) := by
  unfold judgeCard
  split
  · exact moves_refuseOutOfOrder r
  · have probed : (countProbe r s).books = s.books := books_countProbe r
    refine .trans (.of_books probed) ?_
    split
    next v w accepted =>
      obtain ⟨k, hv⟩ := unitValue_of_verdict accepted
      exact moves_acceptCard (k := k) (by rw [probed]; exact hv) r w
    · exact moves_refuseCard r _ _

theorem moves_replaceCard (r : CardRecord) : Moves s (replaceCard b r s) :=
  ((Moves.of_books (books_bump _)).trans moves_emptySlotReported).trans (moves_judgeCard r)

theorem moves_cardInEvent (marker : Bool) (r : CardRecord) : Moves s (cardInEvent b marker r s) := by
  unfold cardInEvent
  dsimp only
  refine (Moves.of_books (t := bump Ctr.cardsIn s) (books_bump _)).trans ?_
  split
  · exact moves_judgeCard r
  next slot =>
    split_ifs
    · exact .refl _
    · exact (Moves.of_books (books_setSlot_kept (by rw [slot]; rfl))).trans (moves_countAtStatus _ _)
    · exact moves_replaceCard r
  · exact moves_replaceCard r

theorem moves_cardOutEvent : Moves s (cardOutEvent b s) := by
  unfold cardOutEvent
  split
  · exact .refl s
  · exact (Moves.of_books (books_bump _)).trans moves_emptySlotReported

/-! ## Booths out of service, EJECT and RETAIN, events from the booths (R89, R91, R131, R132) -/

theorem moves_enterReader : Moves s (enterReader b s) := by
  have ended : Moves s (endForHealth b .readerFault (modBoothLine b
      (fun l => { l with health := .reader, probeTimer := none, probeDue := false }) s)) :=
    (Moves.of_books (books_modBoothLine _)).trans (moves_endForHealth _)
  unfold enterReader
  exact (ended.then_books (by simp)).trans (moves_slotLeft rfl)

theorem moves_readerFaultEvent : Moves s (readerFaultEvent b s) := by
  have reported : (reportFault .readerFault b (s.entry b).plan [] (s.slot b).identity s).books = s.books :=
    books_reportFault ..
  unfold readerFaultEvent
  dsimp only
  split
  · exact .of_books reported
  · exact (Moves.of_books reported).trans moves_enterReader

theorem moves_enterLost : Moves s (enterLost b s) := by
  unfold enterLost
  exact ((Moves.of_books (by simp)).trans (moves_endForHealth _)).trans (moves_slotLeft rfl)

theorem moves_emptyRefused : Moves s (emptyRefused b s) := by
  unfold emptyRefused
  split
  · exact moves_slotLeft rfl
  · exact .refl s

theorem moves_ejectOutcome (reply : BoothReply) : Moves s (ejectOutcome b reply s) := by
  unfold ejectOutcome
  split
  · exact .of_books (books_bump _)
  · exact moves_emptyRefused
  · exact .refl s

theorem moves_retainOutcome (reply : BoothReply) : Moves s (retainOutcome b reply s) := by
  unfold retainOutcome
  split
  · split
    · exact (moves_slotLeft rfl).then_books (books_bump _)
    · exact .refl s
  · exact .of_books (books_bump _)
  · exact .refl s

theorem moves_boothEvent (marker : Bool) (e : BoothEvent) : Moves s (boothEvent b marker e s) := by
  have hook (off : Bool) : Moves s (modCtx b (fun c => { c with hookOff := off }) s) :=
    .of_books (books_modCtx_kept (fun _ => rfl) fun _ => rfl)
  unfold boothEvent
  cases e with
  | hookOff => cases marker with
    | true => exact hook true
    | false => exact moves_hookOffEvent
  | hookOn => cases marker with
    | true => exact hook false
    | false => exact moves_hookOnEvent
  | digit d => exact moves_digitEvent d
  | cardIn r => exact moves_cardInEvent marker r
  | cardOut => exact moves_cardOutEvent
  | readerFault => exact moves_readerFaultEvent

theorem moves_boothEvents (marker : Bool) (evs : List BoothEvent) : Moves s (boothEvents b marker evs s) :=
  .foldl (fun _ e => moves_boothEvent marker e) evs

end Sys2Proof.Machine
end

section
/-!
# The moves of the booth lines, the timers and the trunk (R8, R21, R129 to R133, R144)
-/

namespace Sys2Proof.Machine

variable {b : Booth} {s : State}

theorem moves_handMiss (t : Transaction) : Moves s (handMiss t s) := by
  unfold handMiss
  split
  · exact (Moves.of_books (books_modBoothLine _)).trans (moves_debitOutcome _)
  · exact moves_debitOutcome _
  · exact .of_books (books_postTo _)
  · exact .refl s

theorem moves_missHealth : Moves s (missHealth b s) := by
  unfold missHealth
  dsimp only
  split
  · exact .of_books (books_modBoothLine _)
  · split
    · exact (Moves.of_books (books_modBoothLine _)).trans moves_enterLost
    · exact .of_books (books_modBoothLine _)
  · exact .of_books (books_modBoothLine _)
  · exact .of_books (books_modBoothLine _)
  · exact .refl s

theorem moves_missProbe : Moves s (missProbe b s) := by
  unfold missProbe
  split
  · exact .of_books (books_modBoothLine _)
  · exact moves_missHealth

theorem moves_closeMiss (g : Segment) (t : Transaction) : Moves s (closeMiss g t s) := by
  unfold closeMiss
  dsimp only
  refine Moves.trans (t := bump (Ctr.misses g) (modSeg g (fun x => { x with transaction := none, followOn := none }) s))
    (.of_books (by simp)) ?_
  split_ifs
  · exact .refl _
  · exact moves_missProbe
  · exact (moves_handMiss t).trans moves_missHealth

theorem moves_garbledFrame (g : Segment) : Moves s (garbledFrame g s) := by
  unfold garbledFrame
  dsimp only
  split
  · exact (Moves.of_books (books_bump _)).trans (moves_closeMiss g _)
  · exact .of_books (books_bump _)

theorem moves_takeBatch (batch : Bool) (evs : List BoothEvent) : Moves s (takeBatch b batch evs s) := by
  unfold takeBatch
  split
  · exact (Moves.of_books (books_modBoothLine _)).trans (moves_boothEvents false evs)
  · exact .refl s

theorem moves_statusIntake (batch : Bool) (evs : List BoothEvent) : Moves s (statusIntake b batch evs s) := by
  unfold statusIntake
  have taken (f : BoothLine → BoothLine) : Moves s (boothEvents b true evs (modBoothLine b f s)) :=
    (Moves.of_books (books_modBoothLine f)).trans (moves_boothEvents true evs)
  dsimp only
  split
  · exact taken _
  · exact (taken _).trans moves_cardOutEvent

theorem moves_handGood (t : Transaction) (reply : BoothReply) : Moves s (handGood t reply s) := by
  have served : Moves s (clearServed t s) := .of_books (books_clearServed t)
  unfold handGood
  dsimp only
  generalize clearServed t s = u at served ⊢
  refine served.trans ?_
  cases reply
  case events more batch status evs =>
    cases t.request with
    | poll bit =>
      dsimp only
      split
      · exact .of_books books_probeReturn
      · exact moves_takeBatch _ _
    | _ => exact moves_statusIntake _ _
  case' fail reason count => cases reason
  case fail.readerFault => exact moves_readerFaultEvent
  all_goals
    cases t.request with
    | cancel n serial => exact moves_debitOutcome _
    | verify serial => exact moves_debitOutcome _
    | eject => exact moves_ejectOutcome _
    | retain serial => exact moves_retainOutcome _
    | _ => exact .refl _

theorem moves_goodReply (g : Segment) (t : Transaction) (reply : BoothReply) : Moves s (goodReply g t reply s) := by
  unfold goodReply
  dsimp only
  split
  · exact .of_books (books_modSeg g _)
  · exact ((Moves.of_books (books_modSeg g _)).then_books (books_modBoothLine _)).trans (moves_handGood t reply)

theorem moves_receiveReply (g : Segment) (drop tag : Byte) (reply : BoothReply) :
    Moves s (receiveReply g drop tag reply s) := by
  unfold receiveReply
  split
  · split
    · exact .of_books (books_bump _)
    · split_ifs
      · exact moves_goodReply g _ reply
      · exact moves_garbledFrame g
      · exact .of_books (books_bump _)
  · exact moves_garbledFrame g

theorem moves_windowExpiry (g : Segment) : Moves s (windowExpiry g s) := by
  unfold windowExpiry
  split
  · exact (Moves.of_books (books_reach _)).trans (moves_closeMiss g _)
  · exact .refl s

/-! ## The timers of a call (R8) -/

theorem moves_digitWaitExpires : Moves s (digitWaitExpires b s) := by
  unfold digitWaitExpires
  split
  next i _ =>
    have stopped : Moves s (modCtx b (fun c => { c with digitWait := none }) (reach i s)) :=
      (Moves.of_books (books_reach i)).then_books (books_modCtx_kept (fun _ => rfl) fun _ => rfl)
    dsimp only
    split
    next dialling => exact stopped.trans (moves_endBeforeAnswer (preAnswer_of_eq dialling rfl) _)
    · exact stopped
  · exact .refl s

theorem moves_cardWaitExpires : Moves s (cardWaitExpires b s) := by
  unfold cardWaitExpires
  split
  next i _ =>
    have stopped : Moves s (modCtx b (fun c => { c with cardWait := none }) (reach i s)) :=
      (Moves.of_books (books_reach i)).then_books (books_modCtx_kept (fun _ => rfl) fun _ => rfl)
    dsimp only
    split
    next cardWait => exact stopped.trans (moves_endBeforeAnswer (preAnswer_of_eq cardWait rfl) _)
    · exact stopped
  · exact .refl s

theorem moves_swapWindowExpires : Moves s (swapWindowExpires b s) := by
  unfold swapWindowExpires
  split
  next i _ _ =>
    have stopped : Moves s (modCtx b (fun c => { c with swapWindow := none }) (reach i s)) :=
      (Moves.of_books (books_reach i)).then_books (books_modCtx_kept (fun _ => rfl) fun _ => rfl)
    dsimp only
    split
    · exact stopped.trans (moves_enterEnding _)
    · exact stopped
  · exact .refl s

/-! ## The trunk (R21, R144) -/

theorem moves_answerFrame (ch : Channel) : Moves s (answerFrame ch s) := by
  unfold answerFrame
  dsimp only
  split
  · exact ((Moves.of_books books_validFrame).then_books (books_bump _)).trans moves_answerEvent
  · exact .of_books (by simp)

theorem moves_clearFrame (ch : Channel) : Moves s (clearFrame ch s) := by
  unfold clearFrame
  dsimp only
  split
  · exact ((Moves.of_books books_validFrame).then_books (books_bump _)).trans moves_clearEvent
  · exact .of_books (by simp)

theorem moves_endUnanswered : Moves s (endUnanswered s) :=
  .foldl (fun t b => by
    split
    next h => exact moves_endBeforeAnswer h _
    · exact .refl t) _

theorem moves_silenceExpiry : Moves s (silenceExpiry s) := by
  unfold silenceExpiry
  split
  · exact ((Moves.of_books (books_reach _)).then_books books_dropLink).trans moves_endUnanswered
  · exact .refl s

/-! ## The owners of the commands -/

/-- Carrying out the command moves the books. -/
def MovesBooks (owner : State → Carried) : Prop := ∀ s, Moves s (owner s).state

namespace MovesBooks

theorem inRange {α : Type} {x : Option α} {f : α → State → Carried} (hf : ∀ a, x = some a → MovesBooks (f a)) :
    MovesBooks (inRange x f) := by
  cases x with
  | none => exact fun s => .refl s
  | some a => exact hf a rfl

theorem inRange_kept {α : Type} {x : Option α} {f : α → State → Carried} (hf : ∀ a s, (f a s).state.books = s.books) :
    MovesBooks (Machine.inRange x f) := .inRange fun a _ s => .of_books (hf a s)

theorem read {α : Type} {x : Option α} (f : α → State → ReplyData) :
    MovesBooks (Machine.inRange x fun a s => carriedOut (f a s) s) := .inRange_kept fun _ _ => rfl

theorem onEnabled {args : List Byte} {f : Booth → State → Carried} (hf : ∀ b, MovesBooks (f b)) :
    MovesBooks (onEnabled args f) :=
  .inRange fun b _ s => by
    split
    · exact hf b s
    · exact .refl s

end MovesBooks

theorem setup_of_classWriteArgs {args : List Byte} {cls : Fin 256} {r : ClassRecord}
    (h : classWriteArgs args = some (cls, r)) : r.setup ≤ 4000000 := by
  unfold classWriteArgs at h
  split at h
  · split at h
    · split_ifs at h with range
      obtain ⟨-, rfl⟩ := h
      exact range.1
    · cases h
  · cases h

theorem movesBooks_classWriteOwner (args : List Byte) : MovesBooks (classWriteOwner args) :=
  .inRange fun (cls, r) h s => by
    refine .of_move (.classes (m := smPut .undefined cls.val r s.tariff.classes) fun e he => ?_)
    rcases smPut_mem _ _ _ _ _ he with new | old
    · exact .inr (new ▸ setup_of_classWriteArgs h)
    · exact .inl old

theorem unitValue_of_seriesWriteArgs {args : List Byte} {k : Fin 32} {r : SeriesRecord}
    (h : seriesWriteArgs args = some (k, r)) : r.unitValue ≤ 4000000 := by
  unfold seriesWriteArgs at h
  split at h
  · split at h
    · split_ifs at h with range
      obtain ⟨-, rfl⟩ := h
      exact range.2.1
    · cases h
  · cases h

theorem movesBooks_seriesWriteOwner (args : List Byte) : MovesBooks (seriesWriteOwner args) :=
  .inRange fun (k, r) h s => by
    dsimp only
    split
    · exact .refl s
    · refine .of_move (.series (v := s.card.series.set k.val r k.isLt) fun j => ?_)
      rw [get_set]
      split
      · exact .inr (unitValue_of_seriesWriteArgs h)
      · exact .inl rfl

theorem moves_disableBooth (g : Segment) : Moves s (disableBooth b g s) := by
  unfold disableBooth
  exact ((Moves.of_books (books_orphanOpen g)).then_books (books_modBoothLine _)).trans (moves_slotLeft rfl)

theorem moves_mapEffect (old new : MapEntry) : Moves s (mapEffect b old new s) := by
  unfold mapEffect
  split
  · exact .refl s
  · exact moves_disableBooth _
  · exact .of_books books_enableBooth
  · split
    · exact .refl s
    · exact (moves_disableBooth _).then_books books_enableBooth

theorem movesBooks_boothMapOwner (args : List Byte) : MovesBooks (boothMapOwner args) :=
  .inRange fun (b, e) _ s => by
    have written : (setEntry b e s).books = s.books := rfl
    dsimp only
    split
    · exact .refl s
    · exact ((Moves.of_books written).trans (moves_mapEffect _ _)).then_books (books_bump _)

theorem movesBooks_takeOutBooth (b : Booth) : MovesBooks (takeOutBooth b) := fun s => by
  unfold takeOutBooth
  dsimp only
  split_ifs
  · exact .refl s
  · exact .of_books books_enterTaken
  · exact .of_books (books_modBoothLine _)

theorem movesBooks_bringBack (b : Booth) : MovesBooks (bringBack b) := fun s => by
  unfold bringBack
  dsimp only
  split_ifs
  · exact .of_books (books_modBoothLine _)
  · exact (Moves.of_books (books_modBoothLine _)).then_books (books_postSignal _)
  · exact .refl s

theorem movesBooks_forceClearBooth (b : Booth) : MovesBooks (forceClearBooth b) := fun s => by
  unfold forceClearBooth
  split
  · exact .refl s
  · exact moves_forceClearEvent

theorem moves_resetBooths (p : Booth → Bool) : Moves s (resetBooths p s) :=
  Moves.forBooths fun b _ => (moves_slotLeft (b := b) rfl).then_books (books_modBoothLine _)

theorem moves_endAllForReset (cause : EndCause) (p : Booth → Bool) : Moves s (forBooths p (endForReset cause) s) :=
  .forBooths fun _ _ => moves_endForReset cause

theorem moves_segmentResetPart (g : Segment) : Moves s (segmentResetPart g s) := by
  have emptied := ((moves_endAllForReset (s := s) .segmentReset (s.onSegment g)).then_books books_checkDrain).trans
    (moves_resetBooths (s.onSegment g))
  have withdrawn := (emptied.then_books (books_modSeg g SegLine.afterReset)).then_books (books_withdrawSegment g)
  unfold segmentResetPart
  dsimp only
  exact (withdrawn.then_books (books_oweAll _)).then_books (books_foldl (fun t b => by split <;> simp) _)

theorem movesBooks_segmentResetOwner (args : List Byte) : MovesBooks (segmentResetOwner args) :=
  .inRange fun g _ s => by
    split
    · exact .refl s
    · exact moves_segmentResetPart g

theorem moves_restartPart : Moves s (restartPart s) := by
  have ended := (Moves.of_books books_restartManagement).trans
    (moves_endAllForReset (s := restartManagement s) .restart fun _ => true)
  have emptied := (ended.then_books (books_setCache [])).trans (moves_resetBooths fun _ => true)
  have reset := ((emptied.then_books (books_modSeg .west SegLine.afterReset)).then_books
    (books_modSeg .east SegLine.afterReset)).then_books books_restartTrunk
  unfold restartPart
  dsimp only
  exact (reset.then_books (books_oweAll _)).then_books (books_signalBooths _ _)

theorem movesBooks_restartOwner : MovesBooks restartOwner := fun s => by
  unfold restartOwner
  split
  · exact .refl s
  · exact moves_restartPart

theorem movesBooks_ticketReleaseOwner (args : List Byte) : MovesBooks (ticketReleaseOwner args) :=
  .inRange_kept fun n s => by
    dsimp only [carriedOut]
    split
    · rw [books_bump, books_bumpBy, books_bump, books_modRing]
    · rw [books_bumpBy, books_bump, books_modRing]

theorem movesBooks_stopAddOwner (args : List Byte) : MovesBooks (stopAddOwner args) :=
  .inRange_kept fun ((series, serial), a) s => by
    dsimp only
    split_ifs <;> rfl

theorem movesBooks_stopRemoveOwner (args : List Byte) : MovesBooks (stopRemoveOwner args) :=
  .inRange_kept fun (series, serial) s => by
    dsimp only
    split <;> rfl

theorem movesBooks_serviceStartOwner : MovesBooks serviceStartOwner := fun s => by
  unfold serviceStartOwner
  split
  · exact .refl s
  · exact .of_books rfl
  · split
    · exact .of_books (books_signalBooths _ _)
    · exact .refl s

theorem movesBooks_serviceStopOwner : MovesBooks serviceStopOwner := fun s => by
  unfold serviceStopOwner
  split
  · exact .of_books books_checkDrain
  · exact .refl s

theorem movesBooks_clockSetOwner (args : List Byte) : MovesBooks (clockSetOwner args) :=
  .inRange_kept fun c s => by
    dsimp only [carriedOut]
    rw [books_evaluateAll, books_bump]
    rfl

theorem movesBooks_counterReadOwner (args : List Byte) : MovesBooks (counterReadOwner args) :=
  .inRange_kept fun (g, clear) s => by
    dsimp only [carriedOut]
    split <;> rfl

/-! ## The rows -/

theorem moves_takeFront {c : Cmd} {carry : State → Carried} (h : MovesBooks carry) : Moves s (takeFront c carry s) := by
  unfold takeFront
  split
  · have taken : Moves s (modMgmt (fun m => { m with cmdQueue := m.cmdQueue.tail }) s) := .of_books (books_modMgmt _)
    dsimp only
    split
    · exact taken.then_books (books_bump _)
    · exact (taken.trans (h _)).then_books (books_answerCommand c _)
  · exact .refl s

theorem moves_takeCommand {g : Group} {c : Cmd} {good : Bool} {owner : State → Carried} (h : MovesBooks owner) :
    Moves s (takeCommand g c good owner s) :=
  moves_takeFront fun u => by
    unfold checked
    split_ifs
    · exact .of_books (books_bump _)
    · exact .of_books (books_bump _)
    · exact h u

theorem moves_controlRow {want : Option BoothAction} {c : Cmd} {owner : State → Carried} (h : MovesBooks owner) :
    Moves s (controlRow want c owner s) := by
  unfold controlRow
  split
  · exact moves_takeCommand h
  · exact .refl s

section
variable {t : State}

/-- A row that answers a state the books of which have moved. -/
theorem Moves.next {u : State} (h : Moves s u) (he : (.next u : Host.Outcome State Fault Refusal) = .next t) :
    Moves s t := by
  injection he with he
  exact he ▸ h

theorem Moves.next_of_books {u : State} (h : u.books = s.books)
    (he : (.next u : Host.Outcome State Fault Refusal) = .next t) : Moves s t := (Moves.of_books h).next he

theorem Moves.next_takeCommand {g : Group} {c : Cmd} {good : Bool} {owner : State → Carried} (h : MovesBooks owner)
    (he : (.next (takeCommand g c good owner s) : Host.Outcome State Fault Refusal) = .next t) : Moves s t :=
  (moves_takeCommand h).next he

/-- A command whose owner changes nothing that the books hold. -/
theorem Moves.next_kept {g : Group} {c : Cmd} {good : Bool} {α : Type} {x : Option α} {f : α → State → Carried}
    (hf : ∀ a s, (f a s).state.books = s.books)
    (he : (.next (takeCommand g c good (inRange x f) s) : Host.Outcome State Fault Refusal) = .next t) : Moves s t :=
  (moves_takeCommand (.inRange_kept hf)).next he

theorem moves_execAnswer {ch : Byte} (he : execAnswer ch s = .next t) : Moves s t := by
  unfold execAnswer at he
  split at he
  · exact (moves_answerFrame _).next he
  · exact .next_of_books (books_discardFrame _) he

theorem moves_execClear {ch : Byte} (he : execClear ch s = .next t) : Moves s t := by
  unfold execClear at he
  split at he
  · exact (moves_clearFrame _).next he
  · exact .next_of_books (books_discardFrame _) he

theorem moves_execCommand {o g code : Byte} {args : List Byte} (he : execCommand o g code args s = .next t) :
    Moves s t := by
  unfold execCommand at he
  split at he
  · exact .next_of_books (books_commandFrame _) he
  · exact .next_of_books (books_discardFrame _) he

theorem moves_execUnknownCommandCode {o g code : Byte} {args : List Byte}
    (he : execUnknownCommandCode o g code args s = .next t) : Moves s t := by
  refine Moves.next ?_ he
  split
  · exact .refl s
  · exact moves_takeFront fun _ => .of_books (books_bump _)

/-- Every row but POWER ON moves the books by what the blocks do; POWER ON resets them. -/
theorem moves_exec : ∀ c, exec c s = .next t → Moves s t
  | .powerOn => (Moves.of_move (t := { State.reset with pending := s.pending }) .powerOn).next
  | .sync => .next_of_books books_validFrame
  | .answer _ => moves_execAnswer
  | .clear _ => moves_execClear
  | .command _ _ _ _ => moves_execCommand
  | .trunkFrameDiscarded reason => .next_of_books (books_discardFrame reason)
  | .silenceTimerExpiry => moves_silenceExpiry.next
  | .syncTimerExpiry => .next_of_books books_syncExpiry
  | .frameTransmitStart => .next_of_books books_transmitStart
  | .frameTransmitComplete => .next_of_books books_transmitComplete
  | .holdTimerExpiry => .next_of_books books_noticeHoldExpiry
  | .arbiterGrant g => .next_of_books (books_arbiterTurn g)
  | .events g drop tag _ _ _ _ => (moves_receiveReply g drop tag _).next
  | .done g drop tag _ => (moves_receiveReply g drop tag _).next
  | .count g drop tag _ _ _ => (moves_receiveReply g drop tag _).next
  | .ack g drop tag => (moves_receiveReply g drop tag _).next
  | .fail g drop tag _ _ => (moves_receiveReply g drop tag _).next
  | .staleBoothFrame g drop tag reply => (moves_receiveReply g drop tag reply).next
  | .boothFrameGarbled g => (moves_garbledFrame g).next
  | .replyWindowExpiry g => (moves_windowExpiry g).next
  | .abandonedWindowHoldExpiry g => .next_of_books (books_windowHoldExpiry g)
  | .probeTimerExpiry _ => .next_of_books books_probeExpiry
  | .digitWaitExpiry _ => moves_digitWaitExpires.next
  | .cardWaitExpiry _ => moves_cardWaitExpires.next
  | .swapWindowExpiry _ => moves_swapWindowExpires.next
  | .tick _ => moves_tickEvent.next
  | .timeLimit _ => moves_timeLimitCheck.next
  | .clockSecondAdvance => .next_of_books books_clockAdvance
  | .minuteBoundary => .next_of_books books_minuteTurn
  | .treeWrite _ _ _ => .next_kept fun _ _ => rfl
  | .planWrite _ _ _ => .next_kept fun _ _ => rfl
  | .cacheFence _ _ _ => .next_kept fun _ _ => rfl
  | .classWrite _ _ args => .next_takeCommand (movesBooks_classWriteOwner args)
  | .profileWrite _ _ _ => .next_kept fun _ _ => rfl
  | .bandWrite _ _ _ => .next_kept fun _ _ => rfl
  | .holidayWrite _ _ _ => .next_kept fun _ _ => rfl
  | .seriesWrite _ _ args => .next_takeCommand (movesBooks_seriesWriteOwner args)
  | .stopAdd _ _ args => .next_takeCommand (movesBooks_stopAddOwner args)
  | .stopRemove _ _ args => .next_takeCommand (movesBooks_stopRemoveOwner args)
  | .boothMapWrite _ _ args => .next_takeCommand (movesBooks_boothMapOwner args)
  | .takeOut _ _ _ => (moves_controlRow (.onEnabled movesBooks_takeOutBooth)).next
  | .returnBooth _ _ _ => (moves_controlRow (.onEnabled movesBooks_bringBack)).next
  | .forceClear _ _ _ => (moves_controlRow (.onEnabled movesBooks_forceClearBooth)).next
  | .boothControl _ _ _ => (moves_controlRow fun u => .refl u).next
  | .segmentSetup _ _ _ => .next_kept fun _ _ => books_modSeg _ _
  | .segmentReset _ _ args => .next_takeCommand (movesBooks_segmentResetOwner args)
  | .restart _ _ _ => .next_takeCommand movesBooks_restartOwner
  | .ticketFetch _ _ _ => .next_kept fun _ _ => rfl
  | .ticketRelease _ _ args => .next_takeCommand (movesBooks_ticketReleaseOwner args)
  | .ringSetup _ _ _ => .next_kept fun _ _ => rfl
  | .serviceStart _ _ _ => .next_takeCommand movesBooks_serviceStartOwner
  | .serviceStop _ _ _ => .next_takeCommand movesBooks_serviceStopOwner
  | .clockSet _ _ args => .next_takeCommand (movesBooks_clockSetOwner args)
  | .limitsWrite _ _ _ => .next_kept fun _ _ => rfl
  | .faultClear _ _ _ => .next_takeCommand fun _ => .of_books rfl
  | .noticeSetup _ _ _ => .next_kept fun _ _ => rfl
  | .noticeClear _ _ _ => .next_kept fun _ _ => rfl
  | .accessWrite _ _ _ => .next_kept fun _ _ => rfl
  | .treeRead _ _ _ => .next_takeCommand (.read _)
  | .planRead _ _ _ => .next_takeCommand (.read _)
  | .classRead _ _ _ => .next_takeCommand (.read _)
  | .seriesRead _ _ _ => .next_takeCommand (.read _)
  | .stopProbe _ _ _ => .next_takeCommand (.read _)
  | .boothRead _ _ _ => .next_takeCommand (.read _)
  | .stopStatus _ _ _ => .next_takeCommand .refl
  | .statusRead _ _ _ => .next_takeCommand .refl
  | .faultRead _ _ _ => .next_takeCommand .refl
  | .counterRead _ _ args => .next_takeCommand (movesBooks_counterReadOwner args)
  | .unknownCommandCode _ _ _ _ => moves_execUnknownCommandCode

/-- Every step moves the books. -/
theorem moves_step (h : step s = .next t) : Moves s t := by
  unfold step at h
  split at h
  · exact .next_of_books (u := idle s) rfl h
  next c rest _ =>
    have taken : Moves s { s with pending := rest } := .of_books rfl
    exact taken.trans (moves_exec c h)

end

end Sys2Proof.Machine
end

section
/-!
# The bounds of the balance (R69, R70)
-/

namespace Sys2Proof.Machine

/-! ## The floor -/

/-- The set-up charge of the call's class is in the range of R61 and the balance at or above the floor (R69). -/
structure Account.Floored (a : Account) : Prop where
  setup : ∀ p, a.snap = some p → p.setup ≤ 4000000
  floor : Config.minBalance ≤ a.p

/-- What `ChargesInRange` says of the books. -/
structure Books.Floored (B : Books) : Prop where
  classes : ∀ e ∈ B.classes, e.2.setup ≤ 4000000
  account : ∀ b, (B.account b).Floored

theorem floored_books {s : State} : s.books.Floored ↔ ChargesInRange s where
  mp h := ⟨fun k r => h.classes (k, r), fun b => (h.account b).setup, fun b => (h.account b).floor⟩
  mpr := fun ⟨classes, setup, floor⟩ => ⟨fun e => classes e.1 e.2, fun b => ⟨setup b, floor b⟩⟩

theorem smGet_mem_or_eq {α : Type} (d : α) (k : Nat) (m : SMap α) : smGet d k m = d ∨ ∃ e ∈ m, e.2 = smGet d k m := by
  induction m with
  | nil => exact .inl rfl
  | cons e m ih =>
    obtain ⟨j, v⟩ := e
    by_cases hj : j = k
    · exact .inr ⟨(j, v), List.mem_cons_self, by simp [smGet, hj]⟩
    · rw [smGet, if_neg hj]
      exact ih.imp_right fun ⟨e, he, same⟩ => ⟨e, List.mem_cons_of_mem _ he, same⟩

theorem setup_le_of_priced {classes : SMap ClassRecord} {p : Snapshot} (h : Account.Priced classes p)
    (hc : ∀ e ∈ classes, e.2.setup ≤ 4000000) : p.setup ≤ 4000000 := by
  obtain ⟨k, setup⟩ := h
  rw [setup]
  rcases smGet_mem_or_eq ClassRecord.undefined k classes with undefined | ⟨e, he, same⟩
  · rw [undefined]
    decide
  · rw [← same]
    exact hc e he

theorem setupCharged_le {a : Account} (h : a.Floored) : a.setupCharged ≤ 4000000 := by
  unfold Account.setupCharged
  cases hp : a.snap with
  | none => exact Nat.zero_le _
  | some p =>
    have := h.setup p hp
    simp only [Option.map_some, Option.getD_some, Snapshot.setupCharged]
    split <;> omega

theorem minBalance_eq : Config.minBalance = -8388608 := rfl

/-- A move keeps the floor of an account. -/
theorem Account.Move.floored {B : Books} {a a' : Account} (h : a.Move B a') (hB : ∀ e ∈ B.classes, e.2.setup ≤ 4000000)
    (ha : a.Floored) : a'.Floored := by
  have floor := ha.floor
  rw [minBalance_eq] at floor
  cases h with
  | emptied st => exact ⟨nofun, (by decide : Config.minBalance ≤ 0)⟩
  | freed => exact ⟨nofun, floor⟩
  | priced priced => exact ⟨fun p hp => Option.some.inj hp ▸ setup_le_of_priced priced hB, floor⟩
  | confirmed => exact ⟨ha.setup, by simp only [Account.confirmed, minBalance_eq]; omega⟩
  | resolved => exact ⟨ha.setup, by simp only [Account.confirmed, minBalance_eq]; omega⟩
  | started =>
    have := setupCharged_le ha
    exact ⟨ha.setup, by simp only [Account.started, minBalance_eq]; omega⟩
  | ticked t => exact ⟨ha.setup, le_max_left _ _⟩
  | _ => exact ⟨ha.setup, floor⟩

theorem Books.Move.floored {B B' : Books} (h : B.Move B') (hB : B.Floored) : B'.Floored := by
  cases h with
  | @account b a move =>
    refine ⟨hB.classes, fun x => ?_⟩
    by_cases hx : x = b
    · subst hx
      rw [Books.set_account_self]
      exact move.floored hB.classes (hB.account x)
    · rw [Books.set_account_ne hx]
      exact hB.account x
  | classes written => exact ⟨fun e he => (written e he).elim (hB.classes e) id, hB.account⟩
  | series => exact ⟨hB.classes, hB.account⟩
  | powerOn => exact floored_books.mpr chargesInRange_reset

/-! ## The ceiling -/

/-- Taking n units of the card at place i leaves P below that card's unit value (R70). -/
def Account.LeavesBelow (a : Account) (i n : Nat) : Prop := ∃ v, a.values[i]? = some v ∧ a.p + (n * v : Nat) < (v : Int)

/-- The balance at or below 3,999,999 and what that rests on (R70). -/
structure Account.Capped (a : Account) : Prop where
  ceiling : a.p ≤ 3999999
  card : ∀ v, a.card = some v → v ≤ 4000000
  values : ∀ v ∈ a.values, v ≤ 4000000
  unanswered : a.state.answered = false → a.outstanding = .none ∧ a.uncertain = none
  asked : ∀ q, a.outstanding.ask = some q → a.LeavesBelow q.entry q.n
  recorded : ∀ u, a.uncertain = some u → a.LeavesBelow u.entry u.n

/-- What `BalanceCeiling` says of the books. -/
structure Books.Capped (B : Books) : Prop where
  series : ∀ k, (B.series.get k).unitValue ≤ 4000000
  account : ∀ b, (B.account b).Capped

theorem unitValue_eq_some {x : CardSlot} {v : Nat} : x.unitValue = some v ↔ ∃ r w l, x = .valid r v w l := by
  cases x <;> simp [CardSlot.unitValue]

theorem answered_eq_false {x : CtxState} : x.answered = false ↔ x.metered = false ∧ x ≠ .ending := by
  cases x <;> decide

theorem leavesBelow_account {s : State} {b : Booth} {i n : Nat} :
    (s.account b).LeavesBelow i n ↔ (s.debit b).leavesBelow i n := by
  unfold Account.LeavesBelow Debit.leavesBelow
  change (∃ v, ((s.debit b).cards.map CardEntry.unitValue)[i]? = some v ∧ (s.debit b).p + _ < _) ↔ _
  simp only [List.getElem?_map, Option.map_eq_some_iff]
  constructor
  · rintro ⟨_, ⟨e, he, rfl⟩, below⟩
    exact ⟨e, he, below⟩
  · rintro ⟨e, he, below⟩
    exact ⟨_, ⟨e, he, rfl⟩, below⟩

theorem capped_books {s : State} : s.books.Capped ↔ BalanceCeiling s where
  mp h := ⟨h.series, fun b =>
    have a := h.account b
    ⟨a.ceiling, fun r v w l slot => a.card v (unitValue_eq_some.mpr ⟨r, w, l, slot⟩),
      fun e he => a.values _ (List.mem_map_of_mem he),
      fun unmetered notEnding => a.unanswered (answered_eq_false.mpr ⟨unmetered, notEnding⟩),
      fun q hq => leavesBelow_account.mp (a.asked q hq), fun u hu => leavesBelow_account.mp (a.recorded u hu)⟩⟩
  mpr := fun ⟨series, account⟩ => ⟨series, fun b =>
    have ⟨ceiling, card, values, unanswered, asked, recorded⟩ := account b
    { ceiling
      card := fun v hv => by
        obtain ⟨r, w, l, slot⟩ := unitValue_eq_some.mp hv
        exact card r v w l slot
      values := fun v hv => by
        obtain ⟨e, he, rfl⟩ := List.mem_map.mp hv
        exact values e he
      unanswered := fun h => unanswered (answered_eq_false.mp h).1 (answered_eq_false.mp h).2
      asked := fun q hq => leavesBelow_account.mpr (asked q hq)
      recorded := fun u hu => leavesBelow_account.mpr (recorded u hu) }⟩

namespace Account
variable {a : Account} {i n : Nat}

/-- The units that a debt asks for leave it below the unit value: of ⌈|P| / V⌉ the last is not covered in full. -/
theorem leavesBelow_of_le_ceilDiv {v : Nat} (hp : a.p < 0) (hv : a.values[i]? = some v)
    (hn : n ≤ ceilDiv a.p.natAbs v) : a.LeavesBelow i n := by
  refine ⟨v, hv, ?_⟩
  have units : n * v ≤ ceilDiv a.p.natAbs v * v := Nat.mul_le_mul_right v hn
  have round : ceilDiv a.p.natAbs v * v ≤ a.p.natAbs + v - 1 := Nat.div_mul_le_self _ _
  omega

/-- A lower balance leaves at least as much below. -/
theorem LeavesBelow.lower {a' : Account} (h : a.LeavesBelow i n) (hv : a'.values = a.values) (hp : a'.p ≤ a.p) :
    a'.LeavesBelow i n := by
  obtain ⟨v, value, below⟩ := h
  exact ⟨v, by rw [hv, value], by omega⟩

/-- A longer card list leaves its entries as they are. -/
theorem LeavesBelow.joined (h : a.LeavesBelow i n) : a.joined.LeavesBelow i n := by
  obtain ⟨v, value, below⟩ := h
  exact ⟨v, (List.getElem?_append_left (List.getElem?_eq_some_iff.mp value).1).trans value, below⟩

/-- Confirmed units leave the balance below the unit value, which is at most 4,000,000. -/
theorem LeavesBelow.confirmed_le {k : Nat} (h : a.LeavesBelow i n) (hk : k ≤ n) (hv : ∀ v ∈ a.values, v ≤ 4000000) :
    (a.confirmed i k).p ≤ 3999999 := by
  obtain ⟨v, value, below⟩ := h
  have bound := hv v (List.mem_of_getElem? value)
  have units : k * v ≤ n * v := Nat.mul_le_mul_right v hk
  have at_i : a.valueAt i = v := by
    unfold valueAt
    rw [value]
    rfl
  simp only [confirmed, at_i]
  omega

/-- What a record keeps of an account's bound when units were confirmed: either none were, or the record is gone. -/
theorem Capped.confirmed_recorded (ha : a.Capped) {k : Nat} {u : Uncertain} 
    (hu : (a.confirmed i k).uncertain = some u) : (a.confirmed i k).LeavesBelow u.entry u.n := by
  simp only [confirmed] at hu
  split at hu
  next none => exact (ha.recorded u hu).lower rfl (by simp [confirmed, none])
  · cases hu

theorem Capped.unanswered_of_preAnswer (ha : a.Capped) (h : a.state.preAnswer = true) :
    a.outstanding = .none ∧ a.uncertain = none :=
  ha.unanswered (Bool.eq_false_iff.mpr fun answered => by rw [preAnswer_of_answered answered] at h; cases h)

theorem not_asked {q : Ask} (h : a.outstanding = .none) : a.outstanding.ask ≠ some q := by
  rw [h]
  nofun

/-- Only an answered call asks for units. -/
theorem Capped.not_unanswered_of_ask (ha : a.Capped) {q : Ask} (h : a.outstanding.ask = some q) :
    ¬ a.state.answered = false := fun unanswered => not_asked (ha.unanswered unanswered).1 h

/-- A move keeps the ceiling of an account that keeps the floor. -/
theorem Move.capped {B : Books} {a' : Account} (h : a.Move B a') (hB : ∀ k, (B.series.get k).unitValue ≤ 4000000)
    (floored : a.Floored) (ha : a.Capped) : a'.Capped := by
  cases h with
  | emptied st =>
    exact ⟨(by decide : (0 : Int) ≤ 3999999), ha.card, nofun, fun _ => ⟨rfl, rfl⟩, nofun, nofun⟩
  | freed settled =>
    have none : a.outstanding = .none := settled.elim (fun h => (ha.unanswered_of_preAnswer h).1) id
    exact ⟨ha.ceiling, ha.card, nofun, fun _ => ⟨none, rfl⟩, fun q hq => (not_asked none hq).elim, nofun⟩
  | goes samePhase =>
    exact ⟨ha.ceiling, ha.card, ha.values, fun h => ha.unanswered (samePhase.2.trans h), ha.asked, ha.recorded⟩
  | priced => exact ⟨ha.ceiling, ha.card, ha.values, ha.unanswered, ha.asked, ha.recorded⟩
  | cardLeaves => exact ⟨ha.ceiling, nofun, ha.values, ha.unanswered, ha.asked, ha.recorded⟩
  | cardAccepted k =>
    exact ⟨ha.ceiling, fun v hv => Option.some.inj hv ▸ hB k, ha.values, ha.unanswered, ha.asked, ha.recorded⟩
  | joined =>
    refine ⟨ha.ceiling, ha.card, fun v hv => ?_, ha.unanswered, fun q hq => (ha.asked q hq).joined,
      fun u hu => (ha.recorded u hu).joined⟩
    rcases List.mem_append.mp hv with old | new
    · exact ha.values v old
    · exact ha.card v (Option.mem_toList.mp new)
  | asks answered debt value units =>
    refine ⟨ha.ceiling, ha.card, ha.values, fun h => (Bool.eq_false_iff.mp h answered).elim, fun q hq => ?_,
      ha.recorded⟩
    obtain rfl := Option.some.inj hq
    exact leavesBelow_of_le_ceilDiv debt value units
  | @verifies q cancel =>
    have ask : a.outstanding.ask = some q := by rw [cancel]; rfl
    refine ⟨ha.ceiling, ha.card, ha.values, fun h => (ha.not_unanswered_of_ask ask h).elim, fun q' hq => ?_,
      ha.recorded⟩
    obtain rfl := Option.some.inj hq
    exact ha.asked q ask
  | drops => exact ⟨ha.ceiling, ha.card, ha.values, fun h => ⟨rfl, (ha.unanswered h).2⟩, nofun, ha.recorded⟩
  | recorded ask =>
    refine ⟨ha.ceiling, ha.card, ha.values, fun h => (ha.not_unanswered_of_ask ask h).elim, nofun, fun u hu => ?_⟩
    obtain rfl := Option.some.inj hu
    exact ha.asked _ ask
  | forgets => exact ⟨ha.ceiling, ha.card, ha.values, fun h => ⟨(ha.unanswered h).1, rfl⟩, ha.asked, nofun⟩
  | confirmed ask units =>
    refine ⟨(ha.asked _ ask).confirmed_le units ha.values, ha.card, ha.values,
      fun h => (ha.not_unanswered_of_ask ask h).elim, nofun, fun u hu => ha.confirmed_recorded hu⟩
  | @resolved u k none record units =>
    refine ⟨(ha.recorded u record).confirmed_le units ha.values, ha.card, ha.values, fun _ => ⟨none, rfl⟩,
      fun q hq => ?_, nofun⟩
    exact (not_asked none hq).elim
  | started unanswered =>
    obtain ⟨none, forgotten⟩ := ha.unanswered_of_preAnswer unanswered
    refine ⟨?_, ha.card, ha.values, fun _ => ⟨none, forgotten⟩, fun q hq => ?_, fun u hu => ?_⟩
    · change -(a.setupCharged : Int) ≤ 3999999
      omega
    · exact (not_asked none hq).elim
    · change a.uncertain = some u at hu
      rw [forgotten] at hu
      cases hu
  | ticked t =>
    have lower : lowerBalance a.p t ≤ a.p := max_le floored.floor (by omega)
    exact ⟨lower.trans ha.ceiling, ha.card, ha.values, ha.unanswered, fun q hq => (ha.asked q hq).lower rfl lower,
      fun u hu => (ha.recorded u hu).lower rfl lower⟩

end Account

theorem Books.Move.capped {B B' : Books} (h : B.Move B') (floored : B.Floored) (hB : B.Capped) : B'.Capped := by
  cases h with
  | @account b a move =>
    refine ⟨hB.series, fun x => ?_⟩
    by_cases hx : x = b
    · subst hx
      rw [Books.set_account_self]
      exact move.capped hB.series (floored.account x) (hB.account x)
    · rw [Books.set_account_ne hx]
      exact hB.account x
  | classes => exact ⟨hB.series, hB.account⟩
  | series written => exact ⟨fun k => (written k).elim (fun same => same ▸ hB.series k) id, hB.account⟩
  | powerOn => exact capped_books.mpr balanceCeiling_reset

/-! ## Steps -/

/-- What every move of the books keeps, every step keeps. -/
theorem Moves.keeps {P : Books → Prop} (hP : ∀ B B', Books.Move B B' → P B → P B') {s t : State} (h : Moves s t)
    (hs : P s.books) : P t.books := by
  unfold Moves at h
  generalize t.books = B at h
  induction h with
  | refl => exact hs
  | tail _ move ih => exact hP _ _ move ih

end Sys2Proof.Machine

section
open Sys2Proof Sys2Proof.Machine

/-- Settles O58: a step moves the books (`moves_step`), and each move keeps the floor and, the floor given, the
ceiling. -/
theorem balanceKeepsItsFloor : Obligations.BalanceKeepsItsFloor := by
  constructor
  · intro s t hs ht
    exact floored_books.mp
      ((moves_step ht).keeps (P := Books.Floored) (fun _ _ move => move.floored) (floored_books.mpr hs))
  · rintro s t ⟨range, ceiling⟩ ht
    obtain ⟨floored, capped⟩ := (moves_step ht).keeps (P := fun B => B.Floored ∧ B.Capped)
      (fun _ _ move hB => ⟨move.floored hB.1, move.capped hB.1 hB.2⟩)
      ⟨floored_books.mpr range, capped_books.mpr ceiling⟩
    exact ⟨floored_books.mp floored, capped_books.mp capped⟩

end
end

section
/-!
# CLASS WRITE and CLASS READ (R57)
-/

namespace Sys2Proof.Machine

/-! ## The arguments -/

section
variable {c1 c0 st s3 s2 s1 s0 b3 b2 b1 b0 p f : Byte}

/-- A CLASS WRITE is in range exactly when each of its fields is (R57). -/
theorem classWriteArgs_eq_some {cls : Fin 256} {r : ClassRecord} :
    classWriteArgs [c1, c0, st, s3, s2, s1, s0, b3, b2, b1, b0, p, f] = some (cls, r) ↔
      cls.val = num2 c1 c0 ∧ (st.toNat ≤ 1 ∧ r.defined = decide (st = 1#8)) ∧ r.profile.val = p.toNat
        ∧ (f.toNat ≤ 1 ∧ r.cardless = decide (f = 1#8)) ∧ (num4 s3 s2 s1 s0 ≤ 4000000 ∧ num4 b3 b2 b1 b0 ≤ 65535)
        ∧ r.setup = num4 s3 s2 s1 s0 ∧ r.base = num4 b3 b2 b1 b0 := by
  obtain ⟨defined, setup, base, profile, cardless⟩ := r
  rw [← finOf_eq_some, ← flagOf_eq_some, ← finOf_eq_some, ← flagOf_eq_some]
  unfold classWriteArgs
  dsimp only
  split
  next hcls hdefined hprofile hcardless =>
    split_ifs with range
    · simp [hcls, hdefined, hprofile, hcardless, range, eq_comm, and_comm, and_assoc, and_left_comm]
    · simp [range]
  next unnamed =>
    refine ⟨nofun, ?_⟩
    rintro ⟨hcls, hdefined, hprofile, hcardless, -⟩
    exact (unnamed _ _ _ _ hcls hdefined hprofile hcardless).elim

theorem classWriteArgs_eq_none
    (h : 256 ≤ num2 c1 c0 ∨ 2 ≤ st.toNat ∨ 4000000 < num4 s3 s2 s1 s0 ∨ 65535 < num4 b3 b2 b1 b0 ∨ 4 ≤ p.toNat
      ∨ 2 ≤ f.toNat) :
    classWriteArgs [c1, c0, st, s3, s2, s1, s0, b3, b2, b1, b0, p, f] = none := by
  rw [Option.eq_none_iff_forall_ne_some]
  rintro ⟨cls, r⟩ named
  obtain ⟨hcls, ⟨hst, -⟩, hp, ⟨hf, -⟩, ⟨hsetup, hbase⟩, -⟩ := classWriteArgs_eq_some.mp named
  omega

end

/-! ## The table -/

/-- A written record is read back, and every other record is as before (R57). -/
theorem classRecord_setClass (cls : Fin 256) (r : ClassRecord) (s : State) (k : Fin 256) :
    (setClass cls r s).tariff.classRecord k = if k.val = cls.val then r else s.tariff.classRecord k := by
  change smGet .undefined k.val (smPut .undefined cls.val r s.tariff.classes) = _
  split
  next same => rw [same, smGet_smPut_self]
  next other => exact smGet_smPut_ne _ other _ _

/-! ## The rows -/

section
variable {o t c1 c0 : Byte} {args : List Byte} {rest : List Cmd} {s : State}

theorem exec_classWrite {cls : Fin 256} {r : ClassRecord} (hc : CanTake .tariff ⟨o, t, 0x12#8, args⟩ rest s)
    (hlen : args.length = 13) (hx : classWriteArgs args = some (cls, r)) :
    exec (.classWrite o t args) s =
      .next (doneWith ⟨o, t, 0x12#8, args⟩ .none (bump Ctr.classWrites (setClass cls r (popped rest s)))) := by
  change Host.Outcome.next (takeCommand _ _ (args.length == 13) (classWriteOwner args) s) = _
  rw [hlen]
  exact congrArg Host.Outcome.next ((takeCommand_inRange hc hx).trans (answerCommand_carriedOut _ _ _))

theorem exec_classWrite_outOfRange (hc : CanTake .tariff ⟨o, t, 0x12#8, args⟩ rest s) (hlen : args.length = 13)
    (hx : classWriteArgs args = none) :
    exec (.classWrite o t args) s = .next (refusal ⟨o, t, 0x12#8, args⟩ .range (popped rest s)) := by
  change Host.Outcome.next (takeCommand _ _ (args.length == 13) (classWriteOwner args) s) = _
  rw [hlen]
  exact congrArg Host.Outcome.next (takeCommand_outOfRange hc hx)

theorem exec_classRead (hc : CanTake .read ⟨o, t, 0x72#8, [c1, c0]⟩ rest s) (h : num2 c1 c0 < 256) :
    exec (.classRead o t [c1, c0]) s =
      .next (doneWith ⟨o, t, 0x72#8, [c1, c0]⟩ (.cls (s.tariff.classRecord ⟨num2 c1 c0, h⟩)) (popped rest s)) :=
  congrArg Host.Outcome.next ((takeCommand_inRange (x := classArg [c1, c0]) hc (finOf_of_lt h)).trans
    (answerCommand_carriedOut _ _ _))

theorem exec_classRead_outOfRange (hc : CanTake .read ⟨o, t, 0x72#8, [c1, c0]⟩ rest s) (h : 256 ≤ num2 c1 c0) :
    exec (.classRead o t [c1, c0]) s = .next (refusal ⟨o, t, 0x72#8, [c1, c0]⟩ .range (popped rest s)) :=
  congrArg Host.Outcome.next (takeCommand_outOfRange (x := classArg [c1, c0]) hc (finOf_of_le h))

end

end Sys2Proof.Machine

section
open Sys2Proof Sys2Proof.Machine

/-- Settles O8: the arguments are in range exactly when each field is (`classWriteArgs_eq_some`), and the write reaches
that record of the table alone (`classRecord_setClass`). -/
theorem classWriteAndRead : Obligations.ClassWriteAndRead := by
  refine ⟨?_, ?_⟩
  · intro o t c1 c0 st s3 s2 s1 s0 b3 b2 b1 b0 p f rest s args hc
    refine ⟨fun hcls hp hst hsetup hbase hf => ?_, fun h =>
      exec_classWrite_outOfRange hc rfl (classWriteArgs_eq_none h)⟩
    have named : classWriteArgs args = some (⟨num2 c1 c0, hcls⟩,
        { defined := decide (st = 1#8), setup := num4 s3 s2 s1 s0, base := num4 b3 b2 b1 b0,
          profile := ⟨p.toNat, hp⟩, cardless := decide (f = 1#8) }) :=
      classWriteArgs_eq_some.mpr ⟨rfl, ⟨hst, rfl⟩, rfl, ⟨hf, rfl⟩, ⟨hsetup, hbase⟩, rfl, rfl⟩
    exact ⟨_, exec_classWrite hc rfl named, classRecord_setClass _ _ s⟩
  · intro o t c1 c0 rest s hc
    exact ⟨exec_classRead hc, exec_classRead_outOfRange hc⟩

end
end

section
/-!
# PROFILE WRITE, BAND WRITE and HOLIDAY WRITE (R58, R60, R61)
-/

namespace Sys2Proof.Machine

/-! ## PROFILE WRITE -/

section
variable {o t p a1 a0 b1 b0 c1 c0 d1 d0 e1 e0 f1 f0 : Byte} {rest : List Cmd} {s : State}

theorem exec_profileWrite
    (hc : CanTake .tariff ⟨o, t, 0x13#8, [p, a1, a0, b1, b0, c1, c0, d1, d0, e1, e0, f1, f0]⟩ rest s)
    (hp : p.toNat < 4) :
    exec (.profileWrite o t [p, a1, a0, b1, b0, c1, c0, d1, d0, e1, e0, f1, f0]) s =
      .next (doneWith ⟨o, t, 0x13#8, [p, a1, a0, b1, b0, c1, c0, d1, d0, e1, e0, f1, f0]⟩ .none
        (bump Ctr.profileWrites (setProfile ⟨p.toNat, hp⟩
          #v[word16 a1 a0, word16 b1 b0, word16 c1 c0, word16 d1 d0, word16 e1 e0, word16 f1 f0] (popped rest s)))) :=
  congrArg Host.Outcome.next ((takeCommand_inRange
    (x := profileWriteArgs [p, a1, a0, b1, b0, c1, c0, d1, d0, e1, e0, f1, f0]) hc
    (congrArg (Option.map _) (finOf_of_lt hp))).trans (answerCommand_carriedOut _ _ _))

theorem exec_profileWrite_outOfRange
    (hc : CanTake .tariff ⟨o, t, 0x13#8, [p, a1, a0, b1, b0, c1, c0, d1, d0, e1, e0, f1, f0]⟩ rest s)
    (hp : 4 ≤ p.toNat) :
    exec (.profileWrite o t [p, a1, a0, b1, b0, c1, c0, d1, d0, e1, e0, f1, f0]) s =
      .next (refusal ⟨o, t, 0x13#8, [p, a1, a0, b1, b0, c1, c0, d1, d0, e1, e0, f1, f0]⟩ .range (popped rest s)) :=
  congrArg Host.Outcome.next (takeCommand_outOfRange
    (x := profileWriteArgs [p, a1, a0, b1, b0, c1, c0, d1, d0, e1, e0, f1, f0]) hc
    (congrArg (Option.map _) (finOf_of_le hp)))

end

/-! ## The argument bytes of BAND WRITE -/

/-- The minute and band of a boundary, as BAND WRITE carries them. -/
def Boundary.pair (x : Boundary) : Nat × Nat := (x.minute, x.band.val)

theorem boundaryBytes_eq (l : List Boundary) : boundaryBytes l = pairBytes (l.map Boundary.pair) := by
  simp [boundaryBytes, pairBytes, Boundary.pair, List.flatMap_map]

theorem length_pairBytes (l : List (Nat × Nat)) : (pairBytes l).length = 3 * l.length := by
  induction l with
  | nil => rfl
  | cons x l ih =>
    change (pairBytes l).length + 3 = 3 * (l.length + 1)
    omega

theorem toNat_byte (n : Nat) : (byte n).toNat = n % 256 := by simp [byte]

theorem num2_bytes {n : Nat} (h : n < 65536) : num2 (byte (n / 256)) (byte n) = n := by
  simp only [num2, toNat_byte]
  omega

theorem readBoundaries_pairBytes {l : List (Nat × Nat)} (h : ∀ x ∈ l, x.1 < 65536 ∧ x.2 < 256) :
    readBoundaries (pairBytes l) = l := by
  induction l with
  | nil => rfl
  | cons x l ih =>
    obtain ⟨⟨minute, band⟩, others⟩ := List.forall_mem_cons.mp h
    change (num2 (byte (x.1 / 256)) (byte x.1), (byte x.2).toNat) :: readBoundaries (pairBytes l) = x :: l
    rw [num2_bytes minute, toNat_byte, Nat.mod_eq_of_lt band, ih others]

theorem bandArgsGood_pairBytes {l : List (Nat × Nat)} (h : l.length < 256) (d : Byte) :
    bandArgsGood (d :: byte l.length :: pairBytes l) = true := by
  change ((pairBytes l).length + 2 == 2 + 3 * (byte l.length).toNat) = true
  rw [length_pairBytes, toNat_byte, Nat.mod_eq_of_lt h, Nat.add_comm]
  exact beq_self_eq_true _

/-- Pairs name boundaries exactly when each band and minute is in range (R60). -/
theorem boundariesOf_eq_some {pairs : List (Nat × Nat)} {l : List Boundary} :
    boundariesOf pairs = some l ↔ pairs = l.map Boundary.pair ∧ ∀ x ∈ l, x.minute ≤ 1439 := by
  induction pairs generalizing l with
  | nil => cases l <;> simp [boundariesOf]
  | cons q pairs ih =>
    obtain ⟨m, b⟩ := q
    constructor
    · intro h
      unfold boundariesOf at h
      split at h
      next band l' hband hl =>
        split_ifs at h with hm
        obtain rfl := Option.some.inj h
        obtain ⟨same, minutes⟩ := ih.mp hl
        have hb : band.val = b := finOf_eq_some.mp hband
        exact ⟨by simp [Boundary.pair, hb, same], List.forall_mem_cons.mpr ⟨hm, minutes⟩⟩
      · cases h
    · rintro ⟨same, minutes⟩
      cases l with
      | nil => cases same
      | cons x l =>
        obtain ⟨hm, minutes⟩ := List.forall_mem_cons.mp minutes
        rw [List.map_cons, List.cons.injEq] at same
        obtain ⟨hq, tail⟩ := same
        obtain ⟨rfl, rfl⟩ := Prod.mk.inj hq
        rw [boundariesOf, finOf_of_lt x.band.isLt, ih.mpr ⟨tail, minutes⟩]
        exact if_pos hm

theorem Boundary.pair_injective : Function.Injective Boundary.pair := by
  rintro ⟨m, b⟩ ⟨m', b'⟩ same
  obtain ⟨hm, hb⟩ := Prod.mk.inj same
  exact congrArg₂ Boundary.mk hm (Fin.ext hb)

theorem ascending_iff {l : List Boundary} : ascending l = true ↔ (l.map Boundary.minute).Pairwise (· < ·) := by
  rw [← List.isChain_iff_pairwise]
  induction l with
  | nil => simp [ascending]
  | cons x l ih =>
    cases l with
    | nil => simp [ascending]
    | cons y l => simp_all [ascending]

/-- A BAND WRITE of pairs of bytes is in range exactly when they name boundaries, at most six and ascending (R60). -/
theorem bandWriteArgs_eq_some {d : Byte} {pairs : List (Nat × Nat)} {day : Fin 4} {l : List Boundary}
    (hlen : pairs.length < 256) (hpairs : ∀ x ∈ pairs, x.1 < 65536 ∧ x.2 < 256) :
    bandWriteArgs (d :: byte pairs.length :: pairBytes pairs) = some (day, l) ↔
      day.val = d.toNat ∧ (pairs = l.map Boundary.pair ∧ ∀ x ∈ l, x.minute ≤ 1439) ∧ pairs.length ≤ 6
        ∧ (l.map Boundary.minute).Pairwise (· < ·) := by
  rw [← finOf_eq_some, ← boundariesOf_eq_some, ← ascending_iff]
  unfold bandWriteArgs
  dsimp only
  rw [readBoundaries_pairBytes hpairs, toNat_byte, Nat.mod_eq_of_lt hlen]
  split
  next day' l' hday hl =>
    rw [hday, hl, Option.some_inj, Option.some_inj]
    split_ifs with range
    · rw [Option.some_inj, Prod.mk.injEq]
      constructor
      · rintro ⟨rfl, rfl⟩
        exact ⟨rfl, rfl, range⟩
      · rintro ⟨sameDay, sameList, -⟩
        exact ⟨sameDay, sameList⟩
    · refine ⟨nofun, ?_⟩
      rintro ⟨-, rfl, inRange⟩
      exact (range inRange).elim
  next unnamed =>
    refine ⟨nofun, ?_⟩
    rintro ⟨hday, hl, -⟩
    exact (unnamed _ _ hday hl).elim

/-! ## BAND WRITE -/

section
variable {o t d : Byte} {pairs : List (Nat × Nat)} {rest : List Cmd} {s : State}

theorem exec_bandWrite {day : Fin 4} {l : List Boundary}
    (hc : CanTake .tariff ⟨o, t, 0x14#8, d :: byte pairs.length :: pairBytes pairs⟩ rest s) (hlen : pairs.length < 256)
    (hx : bandWriteArgs (d :: byte pairs.length :: pairBytes pairs) = some (day, l)) :
    exec (.bandWrite o t (d :: byte pairs.length :: pairBytes pairs)) s =
      .next (doneWith ⟨o, t, 0x14#8, d :: byte pairs.length :: pairBytes pairs⟩ .none
        (bump Ctr.bandWrites (setBand day l (popped rest s)))) := by
  change Host.Outcome.next (takeCommand _ _ (bandArgsGood _) (bandWriteOwner _) s) = _
  rw [bandArgsGood_pairBytes hlen]
  exact congrArg Host.Outcome.next ((takeCommand_inRange hc hx).trans (answerCommand_carriedOut _ _ _))

theorem exec_bandWrite_outOfRange
    (hc : CanTake .tariff ⟨o, t, 0x14#8, d :: byte pairs.length :: pairBytes pairs⟩ rest s) (hlen : pairs.length < 256)
    (hx : bandWriteArgs (d :: byte pairs.length :: pairBytes pairs) = none) :
    exec (.bandWrite o t (d :: byte pairs.length :: pairBytes pairs)) s =
      .next (refusal ⟨o, t, 0x14#8, d :: byte pairs.length :: pairBytes pairs⟩ .range (popped rest s)) := by
  change Host.Outcome.next (takeCommand _ _ (bandArgsGood _) (bandWriteOwner _) s) = _
  rw [bandArgsGood_pairBytes hlen]
  exact congrArg Host.Outcome.next (takeCommand_outOfRange hc hx)

end

/-! ## HOLIDAY WRITE -/

section
variable {k present y1 y0 m d : Byte}

theorem dateExists_iff {year month day : Nat} :
    dateExists year month day = true ↔
      2000 ≤ year ∧ year ≤ 2099 ∧ 1 ≤ month ∧ month ≤ 12 ∧ 1 ≤ day ∧ day ≤ daysInMonth year month := decide_eq_true_iff

theorem holidayWriteArgs_present (hk : k.toNat < 32) (hp : present = 1#8)
    (hd : dateExists (num2 y1 y0) m.toNat d.toNat = true) :
    holidayWriteArgs [k, present, y1, y0, m, d] =
      some (⟨k.toNat, hk⟩, some { year := num2 y1 y0, month := m.toNat, day := d.toNat }) := by
  subst hp
  simp [holidayWriteArgs, finOf_of_lt hk, flagOf, hd]

theorem holidayWriteArgs_absent (hk : k.toNat < 32) (hp : present = 0#8) :
    holidayWriteArgs [k, present, y1, y0, m, d] = some (⟨k.toNat, hk⟩, none) := by
  subst hp
  simp [holidayWriteArgs, finOf_of_lt hk, flagOf]

theorem holidayWriteArgs_eq_none
    (h : 32 ≤ k.toNat ∨ 2 ≤ present.toNat ∨ (present = 1#8 ∧ dateExists (num2 y1 y0) m.toNat d.toNat = false)) :
    holidayWriteArgs [k, present, y1, y0, m, d] = none := by
  unfold holidayWriteArgs
  dsimp only
  rcases h with hk | hp | ⟨rfl, hd⟩
  · rw [finOf_of_le hk]
  · rw [flagOf_of_ge hp]
    cases finOf 32 k.toNat <;> rfl
  · rw [hd, show flagOf 1#8 = some true from rfl]
    cases finOf 32 k.toNat <;> rfl

variable {o t : Byte} {rest : List Cmd} {s : State}

theorem exec_holidayWrite {j : Fin 32} {date : Option Date}
    (hc : CanTake .tariff ⟨o, t, 0x15#8, [k, present, y1, y0, m, d]⟩ rest s)
    (hx : holidayWriteArgs [k, present, y1, y0, m, d] = some (j, date)) :
    exec (.holidayWrite o t [k, present, y1, y0, m, d]) s =
      .next (doneWith ⟨o, t, 0x15#8, [k, present, y1, y0, m, d]⟩ .none
        (bump Ctr.holidayWrites (setHoliday j date (popped rest s)))) :=
  congrArg Host.Outcome.next ((takeCommand_inRange hc hx).trans (answerCommand_carriedOut _ _ _))

theorem exec_holidayWrite_outOfRange (hc : CanTake .tariff ⟨o, t, 0x15#8, [k, present, y1, y0, m, d]⟩ rest s)
    (hx : holidayWriteArgs [k, present, y1, y0, m, d] = none) :
    exec (.holidayWrite o t [k, present, y1, y0, m, d]) s =
      .next (refusal ⟨o, t, 0x15#8, [k, present, y1, y0, m, d]⟩ .range (popped rest s)) :=
  congrArg Host.Outcome.next (takeCommand_outOfRange hc hx)

end

end Sys2Proof.Machine

section
open Sys2Proof Sys2Proof.Machine

/-- Settles O9: each write replaces one record whole, and its arguments are in range exactly when they name the record
and its value (`bandWriteArgs_eq_some`; `holidayWriteArgs_present`, `holidayWriteArgs_absent`). -/
theorem profileBandHolidayWrites : Obligations.ProfileBandHolidayWrites := by
  refine ⟨?_, ?_, ?_, ?_⟩
  · intro o t p a1 a0 b1 b0 c1 c0 d1 d0 e1 e0 f1 f0 rest s args hc
    exact ⟨exec_profileWrite hc, exec_profileWrite_outOfRange hc⟩
  · intro o t d l rest s args hc hlen hword
    have paired : args = d :: byte (l.map Boundary.pair).length :: pairBytes (l.map Boundary.pair) := by
      rw [List.length_map, ← boundaryBytes_eq]
    have short : (l.map Boundary.pair).length < 256 := by rw [List.length_map]; omega
    have bytes : ∀ x ∈ l.map Boundary.pair, x.1 < 65536 ∧ x.2 < 256 := fun x hx => by
      obtain ⟨y, hy, rfl⟩ := List.mem_map.mp hx
      exact ⟨hword y hy, Nat.lt_trans y.band.isLt (by decide)⟩
    rw [paired] at hc ⊢
    refine ⟨fun hd minutes ascends => ?_, fun h => ?_⟩
    · have named := (bandWriteArgs_eq_some (day := ⟨d.toNat, hd⟩) short bytes).mpr
        ⟨rfl, ⟨rfl, minutes⟩, by rwa [List.length_map], ascends⟩
      exact exec_bandWrite hc short named
    · refine exec_bandWrite_outOfRange hc short (Option.eq_none_iff_forall_ne_some.mpr ?_)
      rintro ⟨day, l'⟩ named
      obtain ⟨hday, ⟨same, minutes⟩, -, ascends⟩ := (bandWriteArgs_eq_some short bytes).mp named
      obtain rfl := List.map_injective_iff.mpr Boundary.pair_injective same
      rcases h with far | ⟨x, hx, late⟩ | unordered
      · have := day.isLt
        omega
      · exact absurd (minutes x hx) (by omega)
      · exact unordered ascends
  · intro o t d l rest s args hc hlen bytes h
    refine exec_bandWrite_outOfRange hc hlen (Option.eq_none_iff_forall_ne_some.mpr ?_)
    rintro ⟨day, l'⟩ named
    obtain ⟨-, ⟨same, -⟩, six, -⟩ := (bandWriteArgs_eq_some hlen bytes).mp named
    rcases h with long | ⟨x, hx, band⟩
    · omega
    · rw [same] at hx
      obtain ⟨y, -, rfl⟩ := List.mem_map.mp hx
      exact absurd y.band.isLt (by change 5 < y.band.val at band; omega)
  · intro o t k present y1 y0 m d rest s args hc
    refine ⟨fun hk hp y2000 y2099 m1 m12 d1 dLast => ?_, fun hk hp => ?_, fun h => ?_⟩
    · exact exec_holidayWrite hc
        (holidayWriteArgs_present hk hp (dateExists_iff.mpr ⟨y2000, y2099, m1, m12, d1, dLast⟩))
    · exact exec_holidayWrite hc (holidayWriteArgs_absent hk hp)
    · refine exec_holidayWrite_outOfRange hc (holidayWriteArgs_eq_none (h.imp_right (Or.imp_right ?_)))
      rintro ⟨hp, missing⟩
      refine ⟨hp, Bool.eq_false_iff.mpr fun hd => ?_⟩
      obtain ⟨y2000, y2099, m1, m12, d1, dLast⟩ := dateExists_iff.mp hd
      omega

end
end

section
/-!
# Band evaluation (R66)
-/

namespace Sys2Proof.Machine

/-- A debit record with the tick charge of the call's snapshot at the tariff's band; without a snapshot, as it was. -/
def Debit.banded (c : Ctx) (tariff : Tariff) (d : Debit) : Debit :=
  match c.snap with
  | some p => { d with t := some (tariff.charge p) }
  | none => d

theorem banded_of_some {c : Ctx} {p : Snapshot} (h : c.snap = some p) (tariff : Tariff) (d : Debit) :
    d.banded c tariff = { d with t := some (tariff.charge p) } := by
  unfold Debit.banded
  rw [h]

theorem banded_of_none {c : Ctx} (h : c.snap = none) (tariff : Tariff) (d : Debit) : d.banded c tariff = d := by
  unfold Debit.banded
  rw [h]

theorem banded_banded (c : Ctx) (tariff : Tariff) (d : Debit) :
    (d.banded c tariff).banded c tariff = d.banded c tariff := by
  cases h : c.snap with
  | none => rw [banded_of_none h, banded_of_none h]
  | some p => rw [banded_of_some h, banded_of_some h]

/-- What the evaluation of a list of booths does: the tick charges of those in SPEECH or SWAP, and counters (R66). -/
structure BandsEvaluated (l : List Booth) (s t : State) : Prop where
  debit : ∀ b, t.debit b =
    if b ∈ l ∧ (s.ctx b).state.metered = true then (s.debit b).banded (s.ctx b) s.tariff else s.debit b
  rest : t = { s with debits := t.debits, counters := t.counters }

theorem BandsEvaluated.ctx {l : List Booth} {s t : State} (h : BandsEvaluated l s t) (b : Booth) : t.ctx b = s.ctx b :=
  congrArg (fun u => u.ctx b) h.rest

theorem BandsEvaluated.tariff {l : List Booth} {s t : State} (h : BandsEvaluated l s t) : t.tariff = s.tariff :=
  (congrArg State.tariff h.rest).trans rfl

theorem bandsEvaluated_nil (s : State) : BandsEvaluated [] s s := ⟨fun b => by simp, rfl⟩

theorem debit_evaluateBand (b x : Booth) (s : State) :
    (evaluateBand b s).debit x = if x = b then (s.debit b).banded (s.ctx b) s.tariff else s.debit x := by
  unfold evaluateBand
  split
  next p snap =>
    rw [debit_bump, banded_of_some snap]
    split
    next same => rw [same, debit_modDebit_self]
    next other => rw [debit_modDebit_ne other]
  next snap =>
    rw [banded_of_none snap]
    split
    next same => rw [same]
    · rfl

theorem evaluateBand_rest (b : Booth) (s : State) :
    evaluateBand b s = { s with debits := (evaluateBand b s).debits, counters := (evaluateBand b s).counters } := by
  unfold evaluateBand
  split <;> rfl

theorem BandsEvaluated.cons {b : Booth} {l : List Booth} {s u : State}
    (h : BandsEvaluated l (if (s.ctx b).state.metered then evaluateBand b s else s) u) :
    BandsEvaluated (b :: l) s u := by
  split at h
  next metered =>
    have ctx (x : Booth) : (evaluateBand b s).ctx x = s.ctx x := congrArg (fun t => t.ctx x) (evaluateBand_rest b s)
    have tariff : (evaluateBand b s).tariff = s.tariff :=
      (congrArg State.tariff (evaluateBand_rest b s)).trans rfl
    refine ⟨fun x => ?_, ?_⟩
    · rw [h.debit, ctx, tariff, debit_evaluateBand]
      by_cases hx : x = b
      · subst hx
        simp [metered, banded_banded]
      · simp [hx]
    · refine h.rest.trans ?_
      rw [evaluateBand_rest b s]
  next unmetered =>
    refine ⟨fun x => ?_, h.rest⟩
    rw [h.debit]
    by_cases hx : x = b
    · subst hx
      simp [unmetered]
    · simp [hx]

theorem bandsEvaluated_foldl (l : List Booth) (s : State) :
    BandsEvaluated l s (l.foldl (fun t b => if (t.ctx b).state.metered then evaluateBand b t else t) s) := by
  induction l generalizing s with
  | nil => exact bandsEvaluated_nil s
  | cons b l ih => exact (ih _).cons

/-- Every call in SPEECH or SWAP is evaluated (R66). -/
theorem bandsEvaluated_evaluateAll (s : State) : BandsEvaluated allBooths s (evaluateAll s) := bandsEvaluated_foldl _ s

theorem evaluateAll_rest (s : State) :
    evaluateAll s = { s with debits := (evaluateAll s).debits, counters := (evaluateAll s).counters } :=
  (bandsEvaluated_evaluateAll s).rest

theorem tariff_evaluateAll (s : State) : (evaluateAll s).tariff = s.tariff := (bandsEvaluated_evaluateAll s).tariff

theorem debit_evaluateAll (s : State) (b : Booth) :
    (evaluateAll s).debit b =
      if (s.ctx b).state = .speech ∨ (s.ctx b).state = .swap then (s.debit b).banded (s.ctx b) s.tariff
      else s.debit b := by
  rw [(bandsEvaluated_evaluateAll s).debit]
  simp [allBooths, metered_iff]

end Sys2Proof.Machine
end

section
/-!
# CLOCK SET and the clock's seconds (R63, R64)
-/

namespace Sys2Proof.Machine

/-! ## CLOCK SET (R64) -/

section
variable {y1 y0 m d w h mi sec : Byte}

theorem clockSetArgs_of_inRange (hdate : dateExists (num2 y1 y0) m.toNat d.toNat = true) (hw : w.toNat - 1 < 7)
    (hw1 : 1 ≤ w.toNat) (hh : h.toNat ≤ 23) (hmi : mi.toNat ≤ 59) (hsec : sec.toNat ≤ 59) :
    clockSetArgs [y1, y0, m, d, w, h, mi, sec] =
      some { year := num2 y1 y0, month := m.toNat, day := d.toNat, weekday := ⟨w.toNat - 1, hw⟩, hour := h.toNat,
             minute := mi.toNat, second := sec.toNat, valid := true } := by
  unfold clockSetArgs
  dsimp only
  rw [if_pos ⟨hdate, hw1, hh, hmi, hsec⟩, finOf_of_lt hw]
  rfl

theorem clockSetArgs_eq_none
    (out : dateExists (num2 y1 y0) m.toNat d.toNat = false ∨ w.toNat = 0 ∨ 7 < w.toNat ∨ 23 < h.toNat ∨ 59 < mi.toNat
      ∨ 59 < sec.toNat) :
    clockSetArgs [y1, y0, m, d, w, h, mi, sec] = none := by
  unfold clockSetArgs
  dsimp only
  split
  next range =>
    obtain ⟨hdate, hw1, hh, hmi, hsec⟩ := range
    have late : 7 < w.toNat := by
      rw [hdate] at out
      rcases out with out | out | out | out | out | out
      · cases out
      · omega
      · exact out
      · omega
      · omega
      · omega
    rw [finOf_of_le (by omega)]
    rfl
  · rfl

variable {o t : Byte} {rest : List Cmd} {s : State}

theorem exec_clockSet {c : Clock} (hc : CanTake .service ⟨o, t, 0x53#8, [y1, y0, m, d, w, h, mi, sec]⟩ rest s)
    (hx : clockSetArgs [y1, y0, m, d, w, h, mi, sec] = some c) :
    exec (.clockSet o t [y1, y0, m, d, w, h, mi, sec]) s =
      .next (doneWith ⟨o, t, 0x53#8, [y1, y0, m, d, w, h, mi, sec]⟩ .none
        (evaluateAll (bump Ctr.clockSets (setClock c (popped rest s))))) :=
  congrArg Host.Outcome.next ((takeCommand_inRange hc hx).trans (answerCommand_carriedOut _ _ _))

theorem exec_clockSet_outOfRange (hc : CanTake .service ⟨o, t, 0x53#8, [y1, y0, m, d, w, h, mi, sec]⟩ rest s)
    (hx : clockSetArgs [y1, y0, m, d, w, h, mi, sec] = none) :
    exec (.clockSet o t [y1, y0, m, d, w, h, mi, sec]) s =
      .next (refusal ⟨o, t, 0x53#8, [y1, y0, m, d, w, h, mi, sec]⟩ .range (popped rest s)) :=
  congrArg Host.Outcome.next (takeCommand_outOfRange hc hx)

end

/-- At the instant of the clock's last second its fraction is 0. -/
theorem hundredths_of_secondInstant {s : State} (h : s.now = s.tariff.secondInstant) : s.hundredths = 0 := by
  unfold State.hundredths
  rw [h, Nat.sub_self, Nat.zero_div, Nat.min_zero, ite_self]

end Sys2Proof.Machine

section
open Sys2Proof Sys2Proof.Machine

/-- Settles O10: the arguments are in range exactly when they name a date, a weekday and a time, and the evaluation of
all calls at the new clock (`bandsEvaluated_evaluateAll`) changes their tick charges alone. -/
theorem clockSetAndEvaluates : Obligations.ClockSetAndEvaluates := by
  intro o t y1 y0 m d w h mi sec rest s args hc
  refine ⟨fun hw y2000 y2099 m1 m12 d1 dLast w1 hh hmi hsec => ?_, fun out => ?_⟩
  · intro tariff'
    have hdate := dateExists_iff.mpr ⟨y2000, y2099, m1, m12, d1, dLast⟩
    have row := exec_clockSet hc (clockSetArgs_of_inRange hdate hw w1 hh hmi hsec)
    generalize hv : bump Ctr.clockSets (setClock _ (popped rest s)) = v at row
    have set : v = { popped rest s with tariff := tariff', counters := v.counters } := by
      rw [← hv]
      rfl
    have tariff : (evaluateAll v).tariff = tariff' :=
      (tariff_evaluateAll v).trans ((congrArg State.tariff set).trans rfl)
    have whole : evaluateAll v = { popped rest s with
        tariff := (evaluateAll v).tariff, debits := (evaluateAll v).debits, counters := (evaluateAll v).counters } := by
      rw [tariff]
      refine (evaluateAll_rest v).trans ?_
      rw [set]
    have now : (evaluateAll v).now = s.now := (congrArg State.now whole).trans rfl
    refine ⟨evaluateAll v, row, tariff, hundredths_of_secondInstant ?_, fun b => ?_, whole⟩
    · rw [tariff, now]
    · rw [debit_evaluateAll, set]
      rfl
  · refine exec_clockSet_outOfRange hc (clockSetArgs_eq_none ?_)
    by_cases hdate : dateExists (num2 y1 y0) m.toNat d.toNat = true
    · obtain ⟨y2000, y2099, m1, m12, d1, dLast⟩ := dateExists_iff.mp hdate
      omega
    · exact .inl (Bool.eq_false_iff.mpr hdate)

end
end

section
/-!
# The calendar clock (R62, R63)
-/

namespace Sys2Proof.Machine

/-! ## The calendar -/

section
variable {c : Clock}

theorem advance_second (h : c.second < 59) : c.advance = { c with second := c.second + 1 } := if_pos h

theorem advance_minute (h : c.second = 59) (hm : c.minute < 59) :
    c.advance = { c with second := 0, minute := c.minute + 1 } := by
  unfold Clock.advance
  rw [if_neg (by omega), if_pos hm]

theorem advance_hour (h : c.second = 59) (hm : c.minute = 59) (hh : c.hour < 23) :
    c.advance = { c with second := 0, minute := 0, hour := c.hour + 1 } := by
  unfold Clock.advance
  rw [if_neg (by omega), if_neg (by omega), if_pos hh]

theorem advance_date (h : c.second = 59) (hm : c.minute = 59) (hh : c.hour = 23) :
    c.advance = Clock.advanceDate { c with second := 0, minute := 0, hour := 0 } := by
  unfold Clock.advance
  rw [if_neg (by omega), if_neg (by omega), if_neg (by omega)]

theorem advanceDate_day (h : c.day < daysInMonth c.year c.month) :
    c.advanceDate = { c with day := c.day + 1, weekday := c.weekday + 1 } := by
  unfold Clock.advanceDate
  dsimp only
  rw [if_pos h]

theorem advanceDate_month (h : daysInMonth c.year c.month ≤ c.day) (hm : c.month < 12) :
    c.advanceDate = { c with day := 1, month := c.month + 1, weekday := c.weekday + 1 } := by
  unfold Clock.advanceDate
  dsimp only
  rw [if_neg (by omega), if_pos hm]

theorem advanceDate_year (h : daysInMonth c.year c.month ≤ c.day) (hm : c.month = 12) (hy : c.year < 2099) :
    c.advanceDate = { c with day := 1, month := 1, year := c.year + 1, weekday := c.weekday + 1 } := by
  unfold Clock.advanceDate
  dsimp only
  rw [if_neg (by omega), if_neg (by omega), if_pos hy]

theorem advanceDate_century (h : daysInMonth c.year c.month ≤ c.day) (hm : c.month = 12) (hy : c.year = 2099) :
    c.advanceDate = { c with day := 1, month := 1, year := 2000, weekday := c.weekday + 1 } := by
  unfold Clock.advanceDate
  dsimp only
  rw [if_neg (by omega), if_neg (by omega), if_neg (by omega)]

theorem daysInMonth_december (y : Nat) : daysInMonth y 12 = 31 := rfl

theorem daysInMonth_eq (y m : Nat) :
    daysInMonth y m = if m = 2 then (if 4 ∣ y then 29 else 28) else if m ∈ [4, 6, 9, 11] then 30 else 31 := by
  unfold daysInMonth
  simp [Nat.dvd_iff_mod_eq_zero]

/-- An advance on the last second of a minute starts the next minute. -/
theorem second_advance (h : c.second = 59) : c.advance.second = 0 := by
  unfold Clock.advance Clock.advanceDate
  dsimp only
  split_ifs
  · omega
  all_goals rfl

end

/-! ## The advance of the clock -/

section
variable {s : State}

/-- The state one second on, before any band evaluation. -/
def secondOn (s : State) : State :=
  { s with
    now := max s.now (s.tariff.secondInstant + 4000)
    tariff := { s.tariff with clock := s.tariff.clock.advance, secondInstant := s.tariff.secondInstant + 4000 } }

theorem clockAdvance_invalid (h : s.tariff.clock.valid = false) : clockAdvance s = s := by
  unfold clockAdvance
  rw [h]
  rfl

theorem clockAdvance_within (h : s.tariff.clock.valid = true) (hs : s.tariff.clock.second < 59) :
    clockAdvance s = secondOn s := by
  unfold clockAdvance
  dsimp only
  rw [if_pos h, if_neg (by omega)]
  rfl

theorem clockAdvance_rolls (h : s.tariff.clock.valid = true) (hs : s.tariff.clock.second = 59) :
    clockAdvance s = evaluateAll (secondOn s) := by
  unfold clockAdvance
  dsimp only
  rw [if_pos h, if_pos hs]
  rfl

theorem minuteTurn_rolls (hs : s.tariff.clock.second = 59) : minuteTurn s = clockAdvance s := if_pos hs

end

end Sys2Proof.Machine

section
open Sys2Proof Sys2Proof.Machine

/-- Settles O49: the advance by the calendar, case by case (`advance_minute` to `advanceDate_century`), and at the end of
a minute the evaluation of all calls (`bandsEvaluated_evaluateAll`). -/
theorem clockAdvancesAndEvaluates : Obligations.ClockAdvancesAndEvaluates := by
  refine ⟨fun s h => ?_, fun s h hs => ?_, fun s h hs => ?_, fun c hs => ?_, fun y m _ _ _ _ => daysInMonth_eq y m⟩
  · exact congrArg Host.Outcome.next (clockAdvance_invalid h)
  · refine congrArg Host.Outcome.next ((clockAdvance_within h hs).trans ?_)
    unfold secondOn
    rw [advance_second hs]
  · have turn : exec .minuteBoundary s = exec .clockSecondAdvance s :=
      congrArg Host.Outcome.next (minuteTurn_rolls hs)
    have tariff := tariff_evaluateAll (secondOn s)
    refine ⟨turn, evaluateAll (secondOn s), ?_, tariff, ?_, fun b => ?_, ?_⟩
    · exact turn.trans (congrArg Host.Outcome.next (clockAdvance_rolls h hs))
    · rw [tariff]
      exact second_advance hs
    · rw [debit_evaluateAll, tariff]
      rfl
    · have now : (evaluateAll (secondOn s)).now = (secondOn s).now :=
        (congrArg State.now (evaluateAll_rest (secondOn s))).trans rfl
      rw [tariff, now]
      exact evaluateAll_rest (secondOn s)
  · refine ⟨advance_minute hs, advance_hour hs, fun hm hh => ⟨fun hd => ?_, fun hd hmonth => ?_, ?_, ?_⟩⟩
    · rw [advance_date hs hm hh]
      exact advanceDate_day hd
    · rw [advance_date hs hm hh]
      exact advanceDate_month hd.ge hmonth
    · intro hd hmonth hy
      rw [advance_date hs hm hh]
      refine advanceDate_year ?_ hmonth hy
      change daysInMonth c.year c.month ≤ c.day
      rw [hmonth, hd, daysInMonth_december]
    · intro hd hmonth hy
      rw [advance_date hs hm hh]
      refine advanceDate_century ?_ hmonth hy
      change daysInMonth c.year c.month ≤ c.day
      rw [hmonth, hd, daysInMonth_december]

end
end

section
/-!
# The tick charge and the band in force (R59, R65, R67)
-/

namespace Sys2Proof.Machine

theorem tickCharge_eq_iff {b m t : Nat} :
    tickCharge b m = t ↔ 16384 * t ≤ b * m + 8192 ∧ b * m + 8192 < 16384 * (t + 1) := by
  unfold tickCharge
  omega

theorem tickCharge_le {b m : Nat} (hb : b ≤ 65535) (hm : m ≤ 65535) : tickCharge b m ≤ 262136 := by
  have product : b * m ≤ 65535 * 65535 := Nat.mul_le_mul hb hm
  unfold tickCharge
  omega

theorem tickCharge_zero (m : Nat) : tickCharge 0 m = 0 := by simp [tickCharge]

theorem charge_of_cardless {p : Snapshot} (h : p.cardless = true) (u : Tariff) : u.charge p = 0 := by
  rw [Tariff.charge, Snapshot.baseCharged, if_pos h, tickCharge_zero]

theorem charge_of_card {p : Snapshot} (h : p.cardless = false) (u : Tariff) :
    u.charge p = tickCharge p.base (u.multiplier p.profile) := by
  rw [Tariff.charge, Snapshot.baseCharged, if_neg (Bool.eq_false_iff.mp h)]

/-! ## The day type -/

section
variable {holidays : Vector (Option Date) 32} {c : Clock}

theorem contains_toList_iff {α : Type} [BEq α] [LawfulBEq α] {n : Nat} {v : Vector α n} {x : α} :
    v.toList.contains x = true ↔ ∃ k : Fin n, v.get k = x := by
  rw [List.contains_iff_mem, Vector.mem_toList_iff, Vector.mem_iff_getElem]
  constructor
  · rintro ⟨i, hi, rfl⟩
    exact ⟨⟨i, hi⟩, rfl⟩
  · rintro ⟨k, rfl⟩
    exact ⟨k.val, k.isLt, rfl⟩

theorem dayType_holiday (h : ∃ k, holidays.get k = some c.date) : dayType holidays c = .holiday :=
  if_pos (contains_toList_iff.mpr h)

theorem dayType_byWeekday (h : ¬∃ k, holidays.get k = some c.date) :
    dayType holidays c = if c.weekday = 5 then .saturday else if c.weekday = 6 then .sunday else .weekday :=
  if_neg fun listed => h (contains_toList_iff.mp listed)

end

/-! ## The band -/

theorem filter_minute_eq_nil {list : List Boundary} {minute : Nat} (h : ∀ y ∈ list, minute < y.minute) :
    list.filter (fun x => decide (x.minute ≤ minute)) = [] :=
  List.filter_eq_nil_iff.mpr fun y hy reached => Nat.not_le.mpr (h y hy) (of_decide_eq_true reached)

theorem bandAt_before {list : List Boundary} {minute : Nat} (h : ∀ y ∈ list, minute < y.minute) :
    bandAt list minute = 0 := by
  unfold bandAt
  rw [filter_minute_eq_nil h]
  rfl

/-- The band of the last boundary reached. -/
theorem bandAt_append {earlier later : List Boundary} {x : Boundary} {minute : Nat} (hx : x.minute ≤ minute)
    (h : ∀ y ∈ later, minute < y.minute) : bandAt (earlier ++ x :: later) minute = x.band := by
  unfold bandAt
  rw [List.filter_append, List.filter_cons, if_pos (decide_eq_true hx),
    filter_minute_eq_nil h, List.getLast?_concat]

end Sys2Proof.Machine

section
open Sys2Proof Sys2Proof.Machine

/-- Settles O50: the rounding is that of the division by 16,384, the day type and the band are read off their
definitions, and after the last boundary reached the filter keeps none (`bandAt_append`). -/
theorem tickChargeRounds : Obligations.TickChargeRounds := by
  refine ⟨fun _ _ _ => tickCharge_eq_iff, fun _ _ => tickCharge_le, fun u _ h => charge_of_cardless h u,
    fun u _ h => charge_of_card h u, fun holidays c => ?_, ⟨rfl, rfl, rfl, rfl⟩, fun _ _ _ _ => bandAt_append,
    fun _ _ => bandAt_before⟩
  refine ⟨dayType_holiday, fun h saturday => ?_, fun h sunday => ?_, fun h noSaturday noSunday => ?_⟩
  · rw [dayType_byWeekday h, if_pos saturday]
  · rw [dayType_byWeekday h, sunday]
    rfl
  · rw [dayType_byWeekday h, if_neg noSaturday, if_neg noSunday]

end
end

section
/-!
# The Stop List: what a change of one chain leaves (R94 to R96)
-/

namespace Sys2Proof.Machine

/-! ## Sparse tables of lists -/

theorem smGet_eq_default_or_mem {α : Type} (d : α) (k : Nat) (m : SMap α) : smGet d k m = d ∨ (k, smGet d k m) ∈ m := by
  induction m with
  | nil => exact .inl rfl
  | cons e m ih =>
    obtain ⟨j, v⟩ := e
    by_cases hj : j = k
    · subst hj
      exact .inr (by simp [smGet])
    · rw [smGet, if_neg hj]
      exact ih.imp_right (List.mem_cons_of_mem _)

theorem smGet_of_keys_gt {α : Type} (d : α) {k : Nat} {m : SMap α} (h : ∀ e ∈ m, k < e.1) : smGet d k m = d := by
  induction m with
  | nil => rfl
  | cons e m ih =>
    obtain ⟨he, hm⟩ := List.forall_mem_cons.mp h
    rw [smGet, if_neg he.ne']
    exact ih hm

theorem smWf_cons {α : Type} [DecidableEq α] {d v : α} {k : Nat} {m : SMap α} (h : smWf d ((k, v) :: m) = true) :
    (∀ e ∈ m, k < e.1) ∧ smWf d m = true := by
  simp only [smWf, Bool.and_eq_true, List.all_eq_true, decide_eq_true_eq] at h
  exact ⟨h.1.2, h.2⟩

/-- The number of elements that a table of lists holds. -/
def smSize {α : Type} (m : SMap (List α)) : Nat := (m.map fun c => c.2.length).sum

theorem smSize_cons {α : Type} (k : Nat) (c : List α) (m : SMap (List α)) :
    smSize ((k, c) :: m) = c.length + smSize m := List.sum_cons

/-- A written list takes the place of the one that stood under its key. -/
theorem smSize_smPut {α : Type} [DecidableEq α] (k : Nat) (c : List α) {m : SMap (List α)} (h : smWf [] m = true) :
    smSize (smPut [] k c m) + (smGet [] k m).length = smSize m + c.length := by
  induction m with
  | nil =>
    by_cases hc : c = []
    · simp [smPut, smGet, hc]
    · simp [smPut, smGet, hc, smSize]
  | cons e m ih =>
    obtain ⟨j, v⟩ := e
    obtain ⟨above, wf⟩ := smWf_cons h
    have step := ih wf
    rw [smPut]
    split_ifs with same empty before
    · subst same
      rw [smGet_of_keys_gt [] above] at step
      rw [smGet, if_pos rfl, smSize_cons]
      simp only [List.length_nil] at step
      omega
    · subst same
      rw [smGet, if_pos rfl, smSize_cons, smSize_cons]
      omega
    · have absent : smGet [] k ((j, v) :: m) = [] :=
        smGet_of_keys_gt [] (List.forall_mem_cons.mpr ⟨before.2, fun e he => before.2.trans (above e he)⟩)
      rw [absent, smSize_cons]
      simp only [List.length_nil]
      omega
    · rw [smGet, if_neg (Ne.symm same), smSize_cons, smSize_cons]
      omega

/-! ## Identities -/

/-- The card identity of a Stop List entry. -/
def StopEntry.identity (e : StopEntry) : BitVec 16 × BitVec 32 := (e.series, e.serial)

section
variable {series : BitVec 16} {serial : BitVec 32} {l : StopList} {c : List StopEntry}

theorem isFor_iff {e : StopEntry} : e.isFor series serial = true ↔ e.series = series ∧ e.serial = serial := by
  rw [StopEntry.isFor, Bool.and_eq_true, decide_eq_true_eq, decide_eq_true_eq]

theorem isFor_iff_identity {e : StopEntry} : e.isFor series serial = true ↔ e.identity = (series, serial) := by
  rw [isFor_iff, StopEntry.identity, Prod.mk.injEq]

/-- The place and the entry that a search finds are those of the first match (R94, R97). -/
theorem find_eq_some {i : Nat} {e : StopEntry} (hi : (l.chain (bucketOf series serial))[i]? = some e)
    (he : e.isFor series serial = true)
    (hj : ∀ j < i, ∀ x, (l.chain (bucketOf series serial))[j]? = some x → ¬x.isFor series serial = true) :
    l.find series serial = some (e, i) := by
  unfold StopList.find
  dsimp only
  generalize l.chain (bucketOf series serial) = c at hi hj
  obtain ⟨hlt, hget⟩ := List.getElem?_eq_some_iff.mp hi
  have entry : c.find? (StopEntry.isFor series serial) = some e := by
    rw [List.find?_eq_some_iff_getElem]
    exact ⟨he, i, hlt, hget, fun j hji => by
      simpa using hj j hji _ (List.getElem?_eq_getElem (hji.trans hlt))⟩
  have place : c.findIdx? (StopEntry.isFor series serial) = some i := by
    rw [List.findIdx?_eq_some_iff_getElem]
    exact ⟨hlt, hget ▸ he, fun j hji => hj j hji _ (List.getElem?_eq_getElem (hji.trans hlt))⟩
  rw [entry, place]

theorem find_eq_none (h : ∀ e ∈ l.chain (bucketOf series serial), ¬(e.series = series ∧ e.serial = serial)) :
    l.find series serial = none := by
  unfold StopList.find
  dsimp only
  rw [List.find?_eq_none.mpr fun e he hf => h e he (isFor_iff.mp hf)]

theorem find_isSome_iff :
    (l.find series serial).isSome = true ↔
      ∃ e ∈ l.chain (bucketOf series serial), e.series = series ∧ e.serial = serial := by
  constructor
  · intro found
    by_contra absent
    rw [find_eq_none fun e he same => absent ⟨e, he, same⟩] at found
    cases found
  · rintro ⟨e, he, same⟩
    have matched : e.isFor series serial = true := isFor_iff.mpr same
    unfold StopList.find
    dsimp only
    obtain ⟨x, hx⟩ := Option.isSome_iff_exists.mp (List.find?_isSome.mpr ⟨e, he, matched⟩)
    obtain ⟨i, hi⟩ := Option.isSome_iff_exists.mp ((List.findIdx?_isSome (xs := l.chain (bucketOf series serial))
      (p := StopEntry.isFor series serial)).trans (List.any_eq_true.mpr ⟨e, he, matched⟩))
    rw [hx, hi]
    rfl

theorem find_isSome_eq_false (h : ∀ e ∈ l.chain (bucketOf series serial), ¬(e.series = series ∧ e.serial = serial)) :
    (l.find series serial).isSome = false := by
  rw [find_eq_none h]
  rfl

end

/-! ## One chain changed -/

section
variable {l : StopList} {k j : Nat} {c : List StopEntry}

@[simp] theorem free_setChain : (l.setChain k c).free = l.free := rfl

@[simp] theorem chain_setChain_self : (l.setChain k c).chain k = c := smGet_smPut_self [] k c l.chains

theorem chain_setChain_ne (h : j ≠ k) : (l.setChain k c).chain j = l.chain j := smGet_smPut_ne [] h c l.chains

end

end Sys2Proof.Machine
end

section
/-!
# The Stop List stays sound (R94, R95)
-/

namespace Sys2Proof.Machine

/-- The chain c may stand in bucket k (R94): at most 12 entries, each of that bucket, no identity twice. -/
structure ChainSound (k : Nat) (c : List StopEntry) : Prop where
  short : c.length ≤ 12
  bucket : ∀ e ∈ c, bucketOf e.series e.serial = k
  distinct : c.Pairwise fun e f => e.identity ≠ f.identity

/-- `StopListSound`, said of the list alone. -/
structure StopList.Sound (l : StopList) : Prop where
  canonical : smWf [] l.chains = true
  chains : ∀ k c, (k, c) ∈ l.chains → ChainSound k c
  total : l.used + l.free = 4096

theorem stopListSound_iff {s : State} : StopListSound s ↔ s.card.stop.Sound := by
  constructor
  · rintro ⟨canonical, chains, total⟩
    refine ⟨canonical, fun k c hc => ?_, total⟩
    obtain ⟨short, bucket, distinct⟩ := chains k c hc
    exact ⟨short, bucket, distinct⟩
  · rintro ⟨canonical, chains, total⟩
    refine ⟨canonical, fun k c hc => ?_, total⟩
    obtain ⟨short, bucket, distinct⟩ := chains k c hc
    exact ⟨short, bucket, distinct⟩

theorem chainSound_nil (k : Nat) : ChainSound k [] := ⟨Nat.zero_le _, nofun, .nil⟩

section
variable {l : StopList} {series : BitVec 16} {serial : BitVec 32} {c : List StopEntry} {k : Nat}

theorem StopList.Sound.chain (h : l.Sound) (k : Nat) : ChainSound k (l.chain k) := by
  rcases smGet_eq_default_or_mem [] k l.chains with empty | listed
  · rw [StopList.chain, empty]
    exact chainSound_nil k
  · exact h.chains k _ listed

/-- A sound chain put in its bucket, with the free count made up for the change of its length, keeps the list sound. -/
theorem StopList.Sound.setChain (h : l.Sound) (hc : ChainSound k c) {free : Nat}
    (total : c.length + free = (l.chain k).length + l.free) : StopList.Sound { l.setChain k c with free := free } where
  canonical := smWf_smPut [] k c l.chains h.canonical
  chains j x hx := by
    rcases smPut_mem [] k c l.chains (j, x) hx with same | old
    · cases same
      exact hc
    · exact h.chains j x old
  total := by
    have size : smSize (smPut [] k c l.chains) + (l.chain k).length = l.used + c.length := smSize_smPut k c h.canonical
    have before := h.total
    change smSize (smPut [] k c l.chains) + free = 4096
    omega

/-- An action changed in its place keeps a chain sound, for identities are what it goes by. -/
theorem ChainSound.map {f : StopEntry → StopEntry} (h : ChainSound k c) (hf : ∀ e, (f e).identity = e.identity) :
    ChainSound k (c.map f) where
  short := by
    rw [List.length_map]
    exact h.short
  bucket := by
    refine List.forall_mem_map.mpr fun e he => ?_
    obtain ⟨hseries, hserial⟩ := Prod.mk.inj (hf e)
    rw [hseries, hserial]
    exact h.bucket e he
  distinct := by
    refine List.pairwise_map.mpr (h.distinct.imp fun {e x} hne => ?_)
    rw [hf, hf]
    exact hne

theorem StopList.Sound.update (h : l.Sound) (a : StopAction) : (l.update series serial a).Sound := by
  have sound := (h.chain (bucketOf series serial)).map
    (f := fun e => if e.isFor series serial then { e with action := a } else e) fun e => by split <;> rfl
  exact h.setChain sound (by rw [List.length_map])

/-- A chain with room takes an entry of its bucket that it does not hold. -/
theorem ChainSound.concat (h : ChainSound k c) (room : c.length < 12) {e : StopEntry}
    (he : bucketOf e.series e.serial = k) (absent : ∀ x ∈ c, x.identity ≠ e.identity) : ChainSound k (c ++ [e]) where
  short := by
    rw [List.length_append]
    exact room
  bucket := List.forall_mem_append.mpr ⟨h.bucket, by simpa using he⟩
  distinct := List.pairwise_append.mpr ⟨h.distinct, List.pairwise_singleton _ _, by simpa using absent⟩

theorem StopList.Sound.append (h : l.Sound) (a : StopAction) (hfree : l.free ≠ 0)
    (room : (l.chain (bucketOf series serial)).length < 12)
    (absent : ∀ e ∈ l.chain (bucketOf series serial), ¬(e.series = series ∧ e.serial = serial)) :
    (l.append series serial a).Sound := by
  refine h.setChain ((h.chain _).concat room rfl fun x hx same => ?_) ?_
  · exact absent x hx (Prod.mk.inj same)
  · rw [List.length_append, List.length_singleton]
    omega

theorem ChainSound.filter (h : ChainSound k c) (p : StopEntry → Bool) : ChainSound k (c.filter p) where
  short := (List.length_filter_le p c).trans h.short
  bucket e he := h.bucket e (List.mem_filter.mp he).1
  distinct := h.distinct.filter p

/-- An identity that a sound chain holds stands in it once. -/
theorem ChainSound.length_filter_not (h : ChainSound k c) (held : ∃ e ∈ c, e.series = series ∧ e.serial = serial) :
    (c.filter fun e => !e.isFor series serial).length + 1 = c.length := by
  obtain ⟨e, he, same⟩ := held
  have nodup : (c.map StopEntry.identity).Nodup := List.pairwise_map.mpr h.distinct
  have once : c.countP (StopEntry.isFor series serial) = 1 := by
    have mem : (series, serial) ∈ c.map StopEntry.identity := List.mem_map.mpr ⟨e, he, Prod.ext same.1 same.2⟩
    rw [← List.count_eq_one_of_mem nodup mem, List.count, List.countP_map]
    refine List.countP_congr fun x _ => ?_
    rw [isFor_iff_identity, Function.comp_apply, beq_iff_eq]
  have split := List.length_eq_countP_add_countP (StopEntry.isFor series serial) (l := c)
  rw [once, List.countP_eq_length_filter] at split
  rw [split, Nat.add_comm]
  simp

theorem StopList.Sound.remove (h : l.Sound)
    (held : ∃ e ∈ l.chain (bucketOf series serial), e.series = series ∧ e.serial = serial) :
    (l.remove series serial).Sound := by
  have chain := h.chain (bucketOf series serial)
  refine h.setChain (chain.filter _) ?_
  have := chain.length_filter_not held
  omega

end

/-! ## The owners -/

section
variable {s t : State}

theorem stopSound_closed : Closed fun s => s.card.stop.Sound where
  ctx h := h
  debit h := h
  slot h := h
  line h := h
  trunk h := h
  notices h := h
  cache h := h
  reached h := h
  counter h := h
  seg {g _ _} _ h := by cases g <;> exact h
  ring _ h := h
  mgmt _ h := h
  fill _ h := h
  clock h := h
  zero h := h

theorem stopSound_stopAddOwner (hs : s.card.stop.Sound) (args : List Byte) :
    (stopAddOwner args s).state.card.stop.Sound := by
  refine inRange_closed stopSound_closed (fun x s hs => ?_) hs
  obtain ⟨⟨series, serial⟩, a⟩ := x
  dsimp only
  split_ifs with found exhausted full
  · exact hs.update a
  · exact hs
  · exact hs
  · exact hs.append a exhausted (Nat.not_le.mp full) fun e he same => found (find_isSome_iff.mpr ⟨e, he, same⟩)

theorem stopSound_stopRemoveOwner (hs : s.card.stop.Sound) (args : List Byte) :
    (stopRemoveOwner args s).state.card.stop.Sound := by
  refine inRange_closed stopSound_closed (fun x s hs => ?_) hs
  obtain ⟨series, serial⟩ := x
  dsimp only
  split_ifs with found
  · exact hs.remove (find_isSome_iff.mp found)
  · exact hs

theorem stopSound_mapEffect (hs : s.card.stop.Sound) (b : Booth) (old new : MapEntry) :
    (mapEffect b old new s).card.stop.Sound := by
  have disabled : ∀ g, (disableBooth b g s).card.stop.Sound := fun g => by cases g <;> exact hs
  unfold mapEffect
  split
  · exact hs
  · exact disabled _
  · exact hs
  · split
    · exact hs
    · exact disabled _

theorem stopSound_boothMapOwner (hs : s.card.stop.Sound) (args : List Byte) :
    (boothMapOwner args s).state.card.stop.Sound := by
  refine inRange_closed stopSound_closed (fun x s hs => ?_) hs
  obtain ⟨b, e⟩ := x
  dsimp only
  split
  · exact hs
  · exact stopSound_mapEffect (s := setEntry b e s) hs b (s.entry b) e

theorem stopSound_seriesWriteOwner (hs : s.card.stop.Sound) (args : List Byte) :
    (seriesWriteOwner args s).state.card.stop.Sound := by
  refine inRange_closed stopSound_closed (fun x s hs => ?_) hs
  obtain ⟨k, r⟩ := x
  dsimp only
  split <;> exact hs

theorem stopSound_segmentSetupOwner (hs : s.card.stop.Sound) (args : List Byte) :
    (segmentSetupOwner args s).state.card.stop.Sound := by
  refine inRange_closed stopSound_closed (fun x s hs => ?_) hs
  obtain ⟨g, r, w⟩ := x
  cases g <;> exact hs

/-! ## The rows -/

/-- The row of a command whose owner keeps the list sound. -/
theorem stopSound_row {g : Group} {c : Cmd} {good : Bool} {owner : State → Carried}
    (ho : ∀ u : State, u.card.stop.Sound → (owner u).state.card.stop.Sound) (hs : s.card.stop.Sound)
    (he : (.next (takeCommand g c good owner s) : Host.Outcome State Fault Refusal) = .next t) : t.card.stop.Sound := by
  injection he with he
  subst he
  exact takeCommand_closed stopSound_closed ho hs

/-- The row of a setting that is none of the Stop List. -/
theorem stopSound_otherRow {g : Group} {c : Cmd} {good : Bool} {α : Type} {x : Option α} {f : α → State → Carried}
    (hf : ∀ a u, (f a u).state.card.stop = u.card.stop) :
    s.card.stop.Sound → (.next (takeCommand g c good (inRange x f) s) : Host.Outcome State Fault Refusal) = .next t →
      t.card.stop.Sound :=
  stopSound_row fun _ hu => inRange_closed stopSound_closed (fun a u h => (hf a u).symm ▸ h) hu

/-- Only STOP ADD and STOP REMOVE change the list, and POWER ON empties it (R94 to R96). -/
theorem stopSound_exec (hs : s.card.stop.Sound) {c : Instr} (he : exec c s = .next t) : t.card.stop.Sound := by
  cases hw : c.writesSettings with
  | false =>
    have kept : t.card.stop = s.card.stop := congrArg Settings.stop (settingsChangeOnlyByTheirCommands c s t hw he)
    exact kept ▸ hs
  | true =>
    cases c <;> simp only [Instr.writesSettings, Bool.false_eq_true] at hw
    case powerOn =>
      injection he with he
      subst he
      exact stopListSound_iff.mp stopListSound_reset
    case stopAdd => exact stopSound_row (fun _ hu => stopSound_stopAddOwner hu _) hs he
    case stopRemove => exact stopSound_row (fun _ hu => stopSound_stopRemoveOwner hu _) hs he
    case boothMapWrite => exact stopSound_row (fun _ hu => stopSound_boothMapOwner hu _) hs he
    case seriesWrite => exact stopSound_row (fun _ hu => stopSound_seriesWriteOwner hu _) hs he
    case segmentSetup => exact stopSound_row (fun _ hu => stopSound_segmentSetupOwner hu _) hs he
    case treeWrite => exact stopSound_otherRow (fun _ _ => rfl) hs he
    case planWrite => exact stopSound_otherRow (fun _ _ => rfl) hs he
    case classWrite => exact stopSound_otherRow (fun _ _ => rfl) hs he
    case profileWrite => exact stopSound_otherRow (fun _ _ => rfl) hs he
    case bandWrite => exact stopSound_otherRow (fun _ _ => rfl) hs he
    case holidayWrite => exact stopSound_otherRow (fun _ _ => rfl) hs he
    case ringSetup => exact stopSound_otherRow (fun _ _ => rfl) hs he
    case limitsWrite => exact stopSound_otherRow (fun _ _ => rfl) hs he
    case accessWrite => exact stopSound_otherRow (fun _ _ => rfl) hs he

end

end Sys2Proof.Machine

section
open Sys2Proof Sys2Proof.Machine

/-- Settles O55: an update, an addition and a removal each put a sound chain back in its bucket with the free count made
up (`StopList.Sound.setChain`), and no other row reaches the list (`stopSound_exec`). -/
theorem stopListStaysSound : Obligations.StopListStaysSound := by
  intro s t hs ht
  unfold step at ht
  split at ht
  · injection ht with ht
    subst ht
    exact hs
  next c rest _ =>
    have taken : ({ s with pending := rest } : State).card.stop.Sound := stopListSound_iff.mp hs
    exact stopListSound_iff.mpr (stopSound_exec taken ht)

end
end

section
/-!
# STOP ADD and STOP REMOVE (R95, R96)
-/

namespace Sys2Proof.Machine

/-! ## The arguments -/

theorem stopActionOf_eq_some {a : Byte} {action : StopAction} : stopActionOf a = some action ↔ action.code = a.toNat := by
  unfold stopActionOf
  split_ifs with eject retain
  · subst eject
    cases action <;> decide
  · subst retain
    cases action <;> decide
  · have unnamed : a.toNat ≠ 0 ∧ a.toNat ≠ 1 :=
      ⟨fun h => eject (BitVec.eq_of_toNat_eq h), fun h => retain (BitVec.eq_of_toNat_eq h)⟩
    refine ⟨nofun, fun named => ?_⟩
    cases action
    · exact absurd named.symm unnamed.1
    · exact absurd named.symm unnamed.2

theorem stopActionOf_eq_none {a : Byte} (h : 2 ≤ a.toNat) : stopActionOf a = none := by
  rw [Option.eq_none_iff_forall_ne_some]
  intro action named
  have code := stopActionOf_eq_some.mp named
  cases action <;> simp only [StopAction.code] at code <;> omega

section
variable {s1 s0 n3 n2 n1 n0 a : Byte}

theorem identityArg_bytes : identityArg [s1, s0, n3, n2, n1, n0] = some (seriesOf s1 s0, serialOf n3 n2 n1 n0) := rfl

theorem stopAddArgs_eq_some {action : StopAction} (h : action.code = a.toNat) :
    stopAddArgs [s1, s0, n3, n2, n1, n0, a] = some ((seriesOf s1 s0, serialOf n3 n2 n1 n0), action) := by
  unfold stopAddArgs
  dsimp only
  rw [stopActionOf_eq_some.mpr h]
  rfl

theorem stopAddArgs_eq_none (h : 2 ≤ a.toNat) : stopAddArgs [s1, s0, n3, n2, n1, n0, a] = none := by
  unfold stopAddArgs
  dsimp only
  rw [stopActionOf_eq_none h]
  rfl

end

/-! ## The list after each command -/

section
variable {l : StopList} {series : BitVec 16} {serial : BitVec 32} {j : Nat}

theorem isFor_ite {α : Type} (e : StopEntry) (x y : α) :
    (if e.isFor series serial = true then x else y) = if e.series = series ∧ e.serial = serial then x else y :=
  if_congr isFor_iff rfl rfl

theorem chain_update (a : StopAction) :
    (l.update series serial a).chain (bucketOf series serial) =
      (l.chain (bucketOf series serial)).map fun e =>
        if e.series = series ∧ e.serial = serial then { e with action := a } else e := by
  unfold StopList.update
  dsimp only
  rw [chain_setChain_self]
  simp only [isFor_ite]

theorem chain_update_ne (a : StopAction) (h : j ≠ bucketOf series serial) :
    (l.update series serial a).chain j = l.chain j := chain_setChain_ne h

theorem chain_append (a : StopAction) :
    (l.append series serial a).chain (bucketOf series serial) =
      l.chain (bucketOf series serial) ++ [{ series := series, serial := serial, action := a }] := chain_setChain_self

theorem chain_append_ne (a : StopAction) (h : j ≠ bucketOf series serial) :
    (l.append series serial a).chain j = l.chain j := chain_setChain_ne h

theorem chain_remove :
    (l.remove series serial).chain (bucketOf series serial) =
      (l.chain (bucketOf series serial)).filter fun e =>
        !(decide (e.series = series) && decide (e.serial = serial)) := chain_setChain_self

theorem chain_remove_ne (h : j ≠ bucketOf series serial) : (l.remove series serial).chain j = l.chain j :=
  chain_setChain_ne h

end

/-! ## The rows -/

/-- A refusal whose REPLY carries a detail (R95). -/
theorem answerCommand_refusedDetail (c : Cmd) {o : CmdOutcome} (ho : o ≠ .done) (detail : Byte) (s : State) :
    answerCommand c { refusedWith o s with detail := detail } =
      replied c o detail .none (bump (Ctr.cmdRefusal o) s) := by
  unfold answerCommand refusedWith
  dsimp only
  rw [if_neg ho]
  rfl

section
variable {o t s1 s0 n3 n2 n1 n0 a : Byte} {action : StopAction} {rest : List Cmd} {s : State}

theorem exec_stopAdd_updates (hc : CanTake .cards ⟨o, t, 0x21#8, [s1, s0, n3, n2, n1, n0, a]⟩ rest s)
    (ha : action.code = a.toNat) (found : (s.card.stop.find (seriesOf s1 s0) (serialOf n3 n2 n1 n0)).isSome = true) :
    exec (.stopAdd o t [s1, s0, n3, n2, n1, n0, a]) s =
      .next (doneWith ⟨o, t, 0x21#8, [s1, s0, n3, n2, n1, n0, a]⟩
        (.stopAdd false (bucketOf (seriesOf s1 s0) (serialOf n3 n2 n1 n0)))
        (bump Ctr.stopUpdates
          (setStop (s.card.stop.update (seriesOf s1 s0) (serialOf n3 n2 n1 n0) action) (popped rest s)))) := by
  refine congrArg Host.Outcome.next ((takeCommand_inRange hc (stopAddArgs_eq_some ha)).trans ?_)
  refine Eq.trans ?_ (answerCommand_carriedOut _ _ _)
  exact congrArg _ (if_pos found)

theorem exec_stopAdd_refused (hc : CanTake .cards ⟨o, t, 0x21#8, [s1, s0, n3, n2, n1, n0, a]⟩ rest s)
    (ha : action.code = a.toNat) (absent : (s.card.stop.find (seriesOf s1 s0) (serialOf n3 n2 n1 n0)).isSome = false)
    {detail : Byte}
    (full : (s.card.stop.free = 0 ∧ detail = 0x01#8) ∨ (0 < s.card.stop.free
      ∧ 12 ≤ (s.card.stop.chain (bucketOf (seriesOf s1 s0) (serialOf n3 n2 n1 n0))).length ∧ detail = 0x02#8)) :
    exec (.stopAdd o t [s1, s0, n3, n2, n1, n0, a]) s =
      .next (replied ⟨o, t, 0x21#8, [s1, s0, n3, n2, n1, n0, a]⟩ .full detail .none
        (bump (Ctr.cmdRefusal .full) (bump Ctr.addFailures (popped rest s)))) := by
  refine congrArg Host.Outcome.next ((takeCommand_inRange hc (stopAddArgs_eq_some ha)).trans ?_)
  refine Eq.trans ?_ (answerCommand_refusedDetail _ (o := .full) (by decide) detail _)
  refine congrArg _ ((if_neg (Bool.eq_false_iff.mp absent)).trans ?_)
  rcases full with ⟨pool, rfl⟩ | ⟨free, bucket, rfl⟩
  · exact if_pos pool
  · exact (if_neg free.ne').trans (if_pos bucket)

theorem exec_stopAdd_adds (hc : CanTake .cards ⟨o, t, 0x21#8, [s1, s0, n3, n2, n1, n0, a]⟩ rest s)
    (ha : action.code = a.toNat) (absent : (s.card.stop.find (seriesOf s1 s0) (serialOf n3 n2 n1 n0)).isSome = false)
    (free : 0 < s.card.stop.free)
    (room : (s.card.stop.chain (bucketOf (seriesOf s1 s0) (serialOf n3 n2 n1 n0))).length < 12) :
    exec (.stopAdd o t [s1, s0, n3, n2, n1, n0, a]) s =
      .next (doneWith ⟨o, t, 0x21#8, [s1, s0, n3, n2, n1, n0, a]⟩
        (.stopAdd true (bucketOf (seriesOf s1 s0) (serialOf n3 n2 n1 n0)))
        (bump Ctr.stopAdds
          (setStop (s.card.stop.append (seriesOf s1 s0) (serialOf n3 n2 n1 n0) action) (popped rest s)))) := by
  refine congrArg Host.Outcome.next ((takeCommand_inRange hc (stopAddArgs_eq_some ha)).trans ?_)
  refine Eq.trans ?_ (answerCommand_carriedOut _ _ _)
  refine congrArg _ ((if_neg (Bool.eq_false_iff.mp absent)).trans ?_)
  exact (if_neg free.ne').trans (if_neg (Nat.not_le.mpr room))

theorem exec_stopAdd_outOfRange (hc : CanTake .cards ⟨o, t, 0x21#8, [s1, s0, n3, n2, n1, n0, a]⟩ rest s)
    (ha : 2 ≤ a.toNat) :
    exec (.stopAdd o t [s1, s0, n3, n2, n1, n0, a]) s =
      .next (refusal ⟨o, t, 0x21#8, [s1, s0, n3, n2, n1, n0, a]⟩ .range (popped rest s)) :=
  congrArg Host.Outcome.next (takeCommand_outOfRange hc (stopAddArgs_eq_none ha))

theorem exec_stopRemove_removes (hc : CanTake .cards ⟨o, t, 0x22#8, [s1, s0, n3, n2, n1, n0]⟩ rest s)
    (found : (s.card.stop.find (seriesOf s1 s0) (serialOf n3 n2 n1 n0)).isSome = true) :
    exec (.stopRemove o t [s1, s0, n3, n2, n1, n0]) s =
      .next (doneWith ⟨o, t, 0x22#8, [s1, s0, n3, n2, n1, n0]⟩ .none (bump Ctr.stopRemoves
        (setStop (s.card.stop.remove (seriesOf s1 s0) (serialOf n3 n2 n1 n0)) (popped rest s)))) := by
  refine congrArg Host.Outcome.next ((takeCommand_inRange hc identityArg_bytes).trans ?_)
  refine Eq.trans ?_ (answerCommand_carriedOut _ _ _)
  exact congrArg _ (if_pos found)

theorem exec_stopRemove_notFound (hc : CanTake .cards ⟨o, t, 0x22#8, [s1, s0, n3, n2, n1, n0]⟩ rest s)
    (absent : (s.card.stop.find (seriesOf s1 s0) (serialOf n3 n2 n1 n0)).isSome = false) :
    exec (.stopRemove o t [s1, s0, n3, n2, n1, n0]) s =
      .next (refusal ⟨o, t, 0x22#8, [s1, s0, n3, n2, n1, n0]⟩ .notFound (popped rest s)) := by
  refine congrArg Host.Outcome.next ((takeCommand_inRange hc identityArg_bytes).trans ?_)
  refine Eq.trans ?_ (answerCommand_refusedWith _ (o := .notFound) (by decide) _)
  exact congrArg _ (if_neg (Bool.eq_false_iff.mp absent))

end

end Sys2Proof.Machine

section
open Sys2Proof Sys2Proof.Machine

/-- Settles O12: the search finds an identity exactly when its bucket holds it (`find_isSome_iff`), and what is written
is one chain (`chain_setChain_self`, `chain_setChain_ne`). -/
theorem stopAddAndRemove : Obligations.StopAddAndRemove := by
  intro o t s1 s0 n3 n2 n1 n0 rest s series serial k chain
  refine ⟨?_, ?_⟩
  · intro a args hc
    refine ⟨fun action ha => ⟨fun held => ?_, fun absent => ?_⟩, exec_stopAdd_outOfRange hc⟩
    · exact ⟨_, exec_stopAdd_updates hc ha (find_isSome_iff.mpr held), rfl, chain_update action,
        fun j => chain_update_ne action⟩
    · have unfound := find_isSome_eq_false absent
      exact ⟨fun pool => exec_stopAdd_refused hc ha unfound (.inl ⟨pool, rfl⟩),
        fun free bucket => exec_stopAdd_refused hc ha unfound (.inr ⟨free, bucket, rfl⟩),
        fun free room => ⟨_, exec_stopAdd_adds hc ha unfound free room, rfl, chain_append action,
          fun j => chain_append_ne action⟩⟩
  · intro args hc
    refine ⟨fun held => ?_, fun absent => exec_stopRemove_notFound hc (find_isSome_eq_false absent)⟩
    exact ⟨_, exec_stopRemove_removes hc (find_isSome_iff.mpr held), rfl, chain_remove, fun j => chain_remove_ne⟩

end
end

section
/-!
# STOP PROBE and STOP STATUS (R97)
-/

namespace Sys2Proof.Machine

section
variable {o t s1 s0 n3 n2 n1 n0 : Byte} {rest : List Cmd} {s : State}

theorem exec_stopProbe (hc : CanTake .read ⟨o, t, 0x74#8, [s1, s0, n3, n2, n1, n0]⟩ rest s)
    {found : Option (StopEntry × Nat)} (hf : s.card.stop.find (seriesOf s1 s0) (serialOf n3 n2 n1 n0) = found) :
    exec (.stopProbe o t [s1, s0, n3, n2, n1, n0]) s =
      .next (doneWith ⟨o, t, 0x74#8, [s1, s0, n3, n2, n1, n0]⟩
        (.stopProbe (bucketOf (seriesOf s1 s0) (serialOf n3 n2 n1 n0))
          (s.card.stop.chain (bucketOf (seriesOf s1 s0) (serialOf n3 n2 n1 n0))).length
          (found.map fun r => (r.1.action, r.2 + 1))) (popped rest s)) := by
  subst hf
  exact congrArg Host.Outcome.next ((takeCommand_inRange hc identityArg_bytes).trans (answerCommand_carriedOut _ _ _))

theorem exec_stopStatus (hc : CanTake .read ⟨o, t, 0x75#8, []⟩ rest s) :
    exec (.stopStatus o t []) s = .next (doneWith ⟨o, t, 0x75#8, []⟩ s.stopFigures (popped rest s)) :=
  congrArg Host.Outcome.next ((takeCommand_canTake hc).trans (answerCommand_carriedOut _ _ _))

end

end Sys2Proof.Machine

section
open Sys2Proof Sys2Proof.Machine

/-- Settles O13: a probe replies what the search of the bucket finds (`find_eq_some`, `find_eq_none`). -/
theorem stopProbeAndStatusRead : Obligations.StopProbeAndStatusRead := by
  refine ⟨?_, fun o t rest s => exec_stopStatus⟩
  intro o t s1 s0 n3 n2 n1 n0 rest s args series serial chain hc
  refine ⟨fun i e hi hseries hserial first => ?_, fun absent => exec_stopProbe hc (find_eq_none absent)⟩
  exact exec_stopProbe hc (find_eq_some hi (isFor_iff.mpr ⟨hseries, hserial⟩) fun j hj x hx same =>
    first j hj x hx (isFor_iff.mp same))

end
end

section
/-!
# SERIES WRITE and SERIES READ (R93)
-/

namespace Sys2Proof.Machine

/-! ## The arguments -/

theorem seriesStateOf_eq_some {st : Byte} {state : SeriesState} :
    seriesStateOf st = some state ↔ state.code = st.toNat := by
  unfold seriesStateOf
  split_ifs with unused active withdrawn
  · subst unused
    cases state <;> decide
  · subst active
    cases state <;> decide
  · subst withdrawn
    cases state <;> decide
  · have unnamed : st.toNat ≠ 0 ∧ st.toNat ≠ 1 ∧ st.toNat ≠ 2 :=
      ⟨fun h => unused (BitVec.eq_of_toNat_eq h), fun h => active (BitVec.eq_of_toNat_eq h),
        fun h => withdrawn (BitVec.eq_of_toNat_eq h)⟩
    refine ⟨nofun, fun named => ?_⟩
    cases state
    · exact absurd named.symm unnamed.1
    · exact absurd named.symm unnamed.2.1
    · exact absurd named.symm unnamed.2.2

section
variable {k c1 c0 st v3 v2 v1 v0 w : Byte}

/-- A SERIES WRITE is in range exactly when each of its fields is (R93). -/
theorem seriesWriteArgs_eq_some {i : Fin 32} {r : SeriesRecord} :
    seriesWriteArgs [k, c1, c0, st, v3, v2, v1, v0, w] = some (i, r) ↔
      i.val = k.toNat ∧ r.state.code = st.toNat
        ∧ (100 ≤ num4 v3 v2 v1 v0 ∧ num4 v3 v2 v1 v0 ≤ 4000000 ∧ w.toNat ≤ 15)
        ∧ r.code = seriesOf c1 c0 ∧ r.unitValue = num4 v3 v2 v1 v0 ∧ r.warn = w.toNat := by
  obtain ⟨code, state, unitValue, warn⟩ := r
  rw [← finOf_eq_some, ← seriesStateOf_eq_some]
  unfold seriesWriteArgs
  dsimp only
  split
  next hk hst =>
    rw [hk, hst]
    split_ifs with range
    · simp [range, word16, seriesOf, eq_comm, and_left_comm]
    · simp [range]
  next unnamed =>
    refine ⟨nofun, ?_⟩
    rintro ⟨hk, hst, -⟩
    exact (unnamed _ _ hk hst).elim

theorem seriesWriteArgs_eq_none
    (h : 32 ≤ k.toNat ∨ 3 ≤ st.toNat ∨ num4 v3 v2 v1 v0 < 100 ∨ 4000000 < num4 v3 v2 v1 v0 ∨ 15 < w.toNat) :
    seriesWriteArgs [k, c1, c0, st, v3, v2, v1, v0, w] = none := by
  rw [Option.eq_none_iff_forall_ne_some]
  rintro ⟨i, r⟩ named
  obtain ⟨hk, hst, ⟨low, high, warn⟩, -⟩ := seriesWriteArgs_eq_some.mp named
  have state : r.state.code ≤ 2 := by cases r.state <;> decide
  omega

end

/-! ## The rows -/

theorem seriesConflict_iff {s : State} {k : Fin 32} {r : SeriesRecord} :
    s.seriesConflict k r = true ↔
      r.state ≠ .unused ∧ ∃ j : Fin 32, j.val ≠ k.val ∧ (s.card.series.get j).code = r.code
        ∧ (s.card.series.get j).state ≠ .unused := by
  simp [State.seriesConflict, Fin.ext_iff, and_assoc]

section
variable {o t k : Byte} {args : List Byte} {i : Fin 32} {r : SeriesRecord} {rest : List Cmd} {s : State}

theorem exec_seriesWrite_conflict (hc : CanTake .cards ⟨o, t, 0x20#8, args⟩ rest s) (hlen : args.length = 9)
    (hx : seriesWriteArgs args = some (i, r)) (held : s.seriesConflict i r = true) :
    exec (.seriesWrite o t args) s = .next (refusal ⟨o, t, 0x20#8, args⟩ .conflict (popped rest s)) := by
  change Host.Outcome.next (takeCommand _ _ (args.length == 9) (seriesWriteOwner args) s) = _
  rw [hlen]
  refine congrArg Host.Outcome.next ((takeCommand_inRange hc hx).trans ?_)
  refine Eq.trans ?_ (answerCommand_refusedWith _ (o := .conflict) (by decide) _)
  exact congrArg _ (if_pos held)

theorem exec_seriesWrite_done (hc : CanTake .cards ⟨o, t, 0x20#8, args⟩ rest s) (hlen : args.length = 9)
    (hx : seriesWriteArgs args = some (i, r)) (held : ¬s.seriesConflict i r = true) :
    exec (.seriesWrite o t args) s =
      .next (doneWith ⟨o, t, 0x20#8, args⟩ .none (bump Ctr.seriesWrites (setSeries i r (popped rest s)))) := by
  change Host.Outcome.next (takeCommand _ _ (args.length == 9) (seriesWriteOwner args) s) = _
  rw [hlen]
  refine congrArg Host.Outcome.next ((takeCommand_inRange hc hx).trans ?_)
  refine Eq.trans ?_ (answerCommand_carriedOut _ _ _)
  exact congrArg _ (if_neg held)

theorem exec_seriesWrite_outOfRange (hc : CanTake .cards ⟨o, t, 0x20#8, args⟩ rest s) (hlen : args.length = 9)
    (hx : seriesWriteArgs args = none) :
    exec (.seriesWrite o t args) s = .next (refusal ⟨o, t, 0x20#8, args⟩ .range (popped rest s)) := by
  change Host.Outcome.next (takeCommand _ _ (args.length == 9) (seriesWriteOwner args) s) = _
  rw [hlen]
  exact congrArg Host.Outcome.next (takeCommand_outOfRange hc hx)

theorem exec_seriesRead (hc : CanTake .read ⟨o, t, 0x73#8, [k]⟩ rest s) (hk : k.toNat < 32) :
    exec (.seriesRead o t [k]) s =
      .next (doneWith ⟨o, t, 0x73#8, [k]⟩ (.series (s.card.series.get ⟨k.toNat, hk⟩)) (popped rest s)) :=
  congrArg Host.Outcome.next ((takeCommand_inRange (x := byteArg 32 [k]) hc (finOf_of_lt hk)).trans
    (answerCommand_carriedOut _ _ _))

theorem exec_seriesRead_outOfRange (hc : CanTake .read ⟨o, t, 0x73#8, [k]⟩ rest s) (hk : 32 ≤ k.toNat) :
    exec (.seriesRead o t [k]) s = .next (refusal ⟨o, t, 0x73#8, [k]⟩ .range (popped rest s)) :=
  congrArg Host.Outcome.next (takeCommand_outOfRange (x := byteArg 32 [k]) hc (finOf_of_le hk))

end

end Sys2Proof.Machine

section
open Sys2Proof Sys2Proof.Machine

/-- Settles O11: the arguments are in range exactly when each field is (`seriesWriteArgs_eq_some`), and a record in use
is refused exactly when another in use has its code (`seriesConflict_iff`). -/
theorem seriesWriteAndRead : Obligations.SeriesWriteAndRead := by
  refine ⟨?_, fun o t k rest s hc => ⟨exec_seriesRead hc, exec_seriesRead_outOfRange hc⟩⟩
  intro o t k c1 c0 st v3 v2 v1 v0 w rest s args hc
  refine ⟨fun hk state hst low high warn => ?_, fun h =>
    exec_seriesWrite_outOfRange hc rfl (seriesWriteArgs_eq_none h)⟩
  have named : seriesWriteArgs args = some (⟨k.toNat, hk⟩,
      { code := seriesOf c1 c0, state := state, unitValue := num4 v3 v2 v1 v0, warn := w.toNat }) :=
    seriesWriteArgs_eq_some.mpr ⟨rfl, hst, ⟨low, high, warn⟩, rfl, rfl, rfl⟩
  refine ⟨fun held => exec_seriesWrite_conflict hc rfl named (seriesConflict_iff.mpr held), fun single =>
    exec_seriesWrite_done hc rfl named fun held => ?_⟩
  obtain ⟨used, j, hj, code, other⟩ := seriesConflict_iff.mp held
  rcases single with unused | free
  · exact used unused
  · exact other (free j hj code)

end
end

section
/-!
# ACK to a SIGNAL, an EJECT and a RETAIN (R89, R129, R130)
-/

namespace Sys2Proof.Machine

section
variable {g : Segment} {drop tag : Byte} {r : Request} {b : Booth} {s : State}

/-- A reply that the open transaction's request accepts closes it as a good reply, and its outcome is handed on (R129). -/
theorem receiveReply_answers (h : Answers g drop tag r b s) {reply : BoothReply} (ht : tag.toNat ≤ 7)
    (hp : reply.parses = true) (ha : r.accepts reply = true) (hr : ∀ bit, r ≠ .poll bit) :
    ∃ tr : Transaction, tr.request = r ∧ tr.booth = b
      ∧ receiveReply g drop tag reply s = handGood tr reply (closedGood g b none s) := by
  obtain ⟨tr, opened, hdrop, htag, request, booth, probe, orphan⟩ := h.opened
  refine ⟨tr, request, booth, ?_⟩
  subst request booth
  have follow : s.followOnAfter tr reply = none := by
    unfold State.followOnAfter
    cases hq : tr.request with
    | poll bit => exact absurd hq (hr bit)
    | _ => rfl
  unfold receiveReply
  rw [if_pos (by rw [hp, decide_eq_true ht]; rfl), opened]
  dsimp only
  rw [if_pos ⟨htag, hdrop⟩, if_pos ha]
  unfold goodReply
  rw [follow, orphan]
  rfl

theorem exec_ack (g : Segment) (drop tag : Byte) (s : State) :
    exec (.ack g drop tag) s = .next (receiveReply g drop tag .ack s) := rfl

theorem exec_ack_signal {sig : Signal} (ht : tag.toNat ≤ 7) (h : Answers g drop tag (.signal sig) b s) :
    exec (.ack g drop tag) s = .next (closedGood g b none s) := by
  obtain ⟨tr, request, booth, closes⟩ := receiveReply_answers h (reply := .ack) ht rfl rfl (fun _ => nofun)
  rw [exec_ack, closes]
  unfold handGood clearServed
  rw [request]

theorem exec_ack_eject (ht : tag.toNat ≤ 7) (h : Answers g drop tag .eject b s) :
    exec (.ack g drop tag) s =
      .next (bump Ctr.ejectsAcknowledged (clearCardAction b (closedGood g b none s))) := by
  obtain ⟨tr, request, booth, closes⟩ := receiveReply_answers h (reply := .ack) ht rfl rfl (fun _ => nofun)
  rw [exec_ack, closes]
  unfold handGood clearServed
  rw [request, booth]
  rfl

theorem exec_ack_retain {serial : BitVec 32} {x : CardRecord} {reason : CardReason} (ht : tag.toNat ≤ 7)
    (h : Answers g drop tag (.retain serial) b s) (hs : s.slot b = .refused x reason .retain) :
    exec (.ack g drop tag) s =
      .next (bump Ctr.retainsDone (setSlot b .empty (clearCardAction b (closedGood g b none s)))) := by
  obtain ⟨tr, request, booth, closes⟩ := receiveReply_answers h (reply := .ack) ht rfl rfl (fun _ => nofun)
  have slot : (clearCardAction b (closedGood g b none s)).slot b = .refused x reason .retain := by
    rw [← hs]
    cases g <;> rfl
  rw [exec_ack, closes]
  unfold handGood clearServed
  rw [request, booth]
  dsimp only
  unfold retainOutcome
  dsimp only
  rw [slot]

end

end Sys2Proof.Machine

section
open Sys2Proof Sys2Proof.Machine

/-- Settles O39: an ACK that the request accepts closes the transaction (`receiveReply_answers`), and the outcome goes by
the request. -/
theorem ackServesItsRequest : Obligations.AckServesItsRequest :=
  fun _ _ _ _ _ ht => ⟨fun _ => exec_ack_signal ht, exec_ack_eject ht, fun _ _ _ => exec_ack_retain ht⟩

end
end

section
/-!
# The seven checks of a card (R84, R92)
-/

namespace Sys2Proof.Machine

section
variable {s : State} {r : CardRecord} {c : Clock} {k : Fin 32}

/-! ## Each check in the words of the statements -/

theorem checkGood_iff : r.checkGood = true ↔ r.check = crc16 r.body := by
  rw [CardRecord.checkGood, beq_iff_eq, eq_comm]

theorem impossibleRecord_iff : impossibleRecord r = true ↔ ¬SoundRecord r := by
  have face : r.face = 0 ↔ r.face.toNat = 0 := BitVec.toNat_inj.symm
  have month : r.expiryMonth = 0 ↔ r.expiryMonth.toNat = 0 := BitVec.toNat_inj.symm
  unfold impossibleRecord SoundRecord
  simp only [Bool.or_eq_true, decide_eq_true_eq, face, month, BitVec.lt_def, ne_eq]
  omega

theorem expiredAt_iff : expiredAt r c = true ↔ ¬InDate r c := by
  unfold expiredAt InDate
  simp only [Bool.or_eq_true, Bool.and_eq_true, decide_eq_true_eq]
  omega

theorem get_eq_toList (v : Vector SeriesRecord 32) (k : Fin 32) : v.get k = v.toList[k.val]'(by simp) := by
  rw [Vector.get_eq_getElem, Vector.getElem_toList]

/-- The record of a code that is not in use is not found (R92). -/
theorem seriesFind_eq_none {code : BitVec 16}
    (h : ∀ k : Fin 32, (s.card.series.get k).code = code → (s.card.series.get k).state = .unused) :
    seriesFind s.card.series code = none := by
  refine List.find?_eq_none.mpr fun x hx => ?_
  obtain ⟨i, hi, rfl⟩ := List.getElem_of_mem hx
  have unused := h ⟨i, by simpa using hi⟩
  rw [get_eq_toList] at unused
  simpa using unused

theorem seriesFind_of_seriesAt {code : BitVec 16} (h : SeriesAt k code s) :
    seriesFind s.card.series code = some (s.card.series.get k) := by
  obtain ⟨named, used, first⟩ := h
  rw [seriesFind, List.find?_eq_some_iff_getElem]
  refine ⟨by simp [named, used], k.val, by simp, (get_eq_toList _ k).symm, fun j hj => ?_⟩
  have unused := first ⟨j, hj.trans k.isLt⟩ hj
  rw [get_eq_toList] at unused
  simpa [imp_iff_not_or] using unused

/-! ## The first that fails (R84) -/

/-- The check value and the record's figures are good (checks 1 and 2). -/
def GoodRecord (r : CardRecord) : Prop := r.check = crc16 r.body ∧ SoundRecord r

theorem goodRecord_iff : GoodRecord r ↔ ¬r.checkGood = false ∧ ¬impossibleRecord r = true := by
  rw [GoodRecord, Bool.not_eq_false, checkGood_iff, impossibleRecord_iff, not_not]

theorem earlyChecks_bad (h : ¬GoodRecord r) : s.earlyChecks r = .inl .check := by
  rw [goodRecord_iff, not_and_or, not_not, not_not] at h
  unfold State.earlyChecks
  rcases h with check | impossible
  · rw [if_pos check]
  · rw [if_pos impossible, ite_self]

theorem earlyChecks_unknown (h : GoodRecord r)
    (hk : ∀ k : Fin 32, (s.card.series.get k).code = r.series → (s.card.series.get k).state = .unused) :
    s.earlyChecks r = .inl .unknownSeries := by
  unfold State.earlyChecks
  rw [if_neg (goodRecord_iff.mp h).1, if_neg (goodRecord_iff.mp h).2, seriesFind_eq_none hk]

theorem earlyChecks_known (h : GoodRecord r) (hk : SeriesAt k r.series s) :
    s.earlyChecks r =
      if (s.card.series.get k).state = .withdrawn then .inl .withdrawn
      else if expiredAt r s.tariff.clock then .inl .expired
      else if r.cancelled = r.face then .inl .empty
      else .inr (s.card.series.get k) := by
  unfold State.earlyChecks
  rw [if_neg (goodRecord_iff.mp h).1, if_neg (goodRecord_iff.mp h).2, seriesFind_of_seriesAt hk]

theorem not_withdrawn {state : SeriesState} (h : state = .active) : state ≠ .withdrawn := by
  rw [h]
  nofun

section
variable (h : GoodRecord r) (hk : SeriesAt k r.series s)
include h hk

theorem earlyChecks_withdrawn (withdrawn : (s.card.series.get k).state = .withdrawn) :
    s.earlyChecks r = .inl .withdrawn := by
  rw [earlyChecks_known h hk, if_pos withdrawn]

variable (active : (s.card.series.get k).state = .active)
include active

theorem earlyChecks_expired (date : ¬InDate r s.tariff.clock) : s.earlyChecks r = .inl .expired := by
  rw [earlyChecks_known h hk, if_neg (not_withdrawn active), if_pos (expiredAt_iff.mpr date)]

variable (date : InDate r s.tariff.clock)
include date

theorem earlyChecks_empty (spent : r.cancelled.toNat = r.face.toNat) : s.earlyChecks r = .inl .empty := by
  rw [earlyChecks_known h hk, if_neg (not_withdrawn active), if_neg fun he => expiredAt_iff.mp he date,
    if_pos (BitVec.toNat_inj.mp spent)]

theorem earlyChecks_passes (left : r.cancelled.toNat < r.face.toNat) :
    s.earlyChecks r = .inr (s.card.series.get k) := by
  rw [earlyChecks_known h hk, if_neg (not_withdrawn active), if_neg fun he => expiredAt_iff.mp he date,
    if_neg fun he => left.ne (BitVec.toNat_inj.mpr he)]

end

/-! ## The verdict (R84, R85) -/

theorem verdict_of_inl {reason : CardReason} (h : s.earlyChecks r = .inl reason) :
    s.verdict r = .refused reason .eject := by
  unfold State.verdict
  rw [h]

theorem verdict_of_listed {rec : SeriesRecord} {e : StopEntry} {i : Nat} (h : s.earlyChecks r = .inr rec)
    (hf : s.card.stop.find r.series r.serial = some (e, i)) : s.verdict r = .refused .stopped e.action := by
  unfold State.verdict
  rw [h]
  dsimp only
  rw [hf]

theorem verdict_of_unlisted {rec : SeriesRecord} (h : s.earlyChecks r = .inr rec)
    (hf : ∀ x ∈ s.card.stop.chain (bucketOf r.series r.serial), ¬(x.series = r.series ∧ x.serial = r.serial)) :
    s.verdict r = .accepted rec.unitValue rec.warn := by
  unfold State.verdict
  rw [h]
  dsimp only
  rw [find_eq_none hf]

/-- What a search finds is an entry of the identity's bucket. -/
theorem find_mem {l : StopList} {series : BitVec 16} {serial : BitVec 32} {e : StopEntry} {i : Nat}
    (h : l.find series serial = some (e, i)) :
    e ∈ l.chain (bucketOf series serial) ∧ e.series = series ∧ e.serial = serial := by
  unfold StopList.find at h
  dsimp only at h
  split at h
  next x j hx hj =>
    cases h
    exact ⟨List.mem_of_find?_eq_some hx, isFor_iff.mp (List.find?_some hx)⟩
  next => cases h

/-- The only entry of an identity is the one found. -/
theorem find_of_unique {l : StopList} {series : BitVec 16} {serial : BitVec 32} {e : StopEntry}
    (he : e ∈ l.chain (bucketOf series serial)) (hseries : e.series = series) (hserial : e.serial = serial)
    (unique : ∀ y ∈ l.chain (bucketOf series serial), y.series = series → y.serial = serial → y = e) :
    ∃ i, l.find series serial = some (e, i) := by
  obtain ⟨⟨x, i⟩, found⟩ := Option.isSome_iff_exists.mp (find_isSome_iff.mpr ⟨e, he, hseries, hserial⟩)
  obtain ⟨hx, same⟩ := find_mem found
  exact ⟨i, unique x hx same.1 same.2 ▸ found⟩

theorem verdict_accepted {v w : Nat} (h : Acceptable r v w s) : s.verdict r = .accepted v w := by
  obtain ⟨-, check, sound, date, left, ⟨k, hk, active, rfl, rfl⟩, unlisted⟩ := h
  exact verdict_of_unlisted (earlyChecks_passes ⟨check, sound⟩ hk active date left) unlisted

end

end Sys2Proof.Machine
end

section
/-!
# A card judged (R83 to R86)
-/

namespace Sys2Proof.Machine

variable {b : Booth} {s : State} {r : CardRecord}

/-- Booth b's slot has taken x, the customer a signal and the booth's line a card action, if there is one. -/
structure SlotJudged (b : Booth) (x : CardSlot) (sig : Signal) (a : Option CardAction) (s t : State) : Prop where
  slot : t.slot b = x
  signals : TakesWork b s → (t.boothLine b).signals = joinSignal sig (s.boothLine b).signals
  action : TakesWork b s → NoActionWaits b s → (t.boothLine b).cardAction = a.or (s.boothLine b).cardAction
  others : ∀ y, y ≠ b → t.slot y = s.slot y
  rest : t = { s with
    card := { s.card with slots := t.card.slots }, line := { s.line with booths := t.line.booths },
    mgmt := { s.mgmt with notices := t.mgmt.notices }, counters := t.counters }

/-- A count made before or after is none of the card's business. -/
theorem SlotJudged.of_counts {x : CardSlot} {sig : Signal} {a : Option CardAction} {s' t t' : State}
    (h : SlotJudged b x sig a s' t') (hs : s' = { s with counters := s'.counters })
    (ht : t = { t' with counters := t.counters, mgmt := { t'.mgmt with notices := t.mgmt.notices } }) :
    SlotJudged b x sig a s t := by
  generalize s'.counters = counters at hs
  generalize t.counters = counters', t.mgmt.notices = notices at ht
  subst hs ht
  obtain ⟨slot, signals, action, others, rest⟩ := h
  exact ⟨slot, signals, action, others, by rw [rest]⟩

/-- A refusal: the slot REFUSED, the customer told, the card action posted (R83, R86). -/
theorem slotJudged_refusal (x : CardSlot) (sig : Signal) (a : CardAction) :
    SlotJudged b x sig (some a) s (postCardAction b a (postSignal b sig (setSlot b x s))) := by
  rw [postSignal_eq, postCardAction_eq]
  generalize hbehind : (_ || _) = behind
  have line : (modBoothLine b (actionPosted a behind) (modBoothLine b (toldLine (some sig)) (setSlot b x s))).boothLine b =
      actionPosted a behind (toldLine (some sig) (s.boothLine b)) := by
    rw [boothLine_modBoothLine_self, boothLine_modBoothLine_self]
    rfl
  refine ⟨slot_setSlot_self b x s, fun takes => ?_, fun takes waits => ?_, fun y hy => slot_setSlot_ne hy x s, rfl⟩
  · rw [line, actionPosted_rest, toldLine_takes _ (not_or.mpr takes)]
  · have told := toldLine_takes sig (not_or.mpr takes)
    have first : behind = false := by
      rw [← hbehind]
      refine noActionWaits_behind ⟨?_, waits.2⟩
      rw [boothLine_modBoothLine_self]
      exact (congrArg BoothLine.cardNext told).trans waits.1
    rw [line, first, actionPosted_first a (by rw [told]; exact not_or.mpr takes)]
    rfl

theorem shownUnits_of_le {face count : Nat} (h : count ≤ face) : shownUnits face count = face - count := if_pos h

theorem takesWork_of_inService (h : (s.boothLine b).health = .inService) : TakesWork b s := by
  unfold TakesWork
  rw [h]
  exact ⟨nofun, nofun⟩

theorem countProbe_rest (r : CardRecord) (s : State) :
    countProbe r s = { s with counters := (countProbe r s).counters } := by
  unfold countProbe
  split
  · rfl
  · split <;> rfl

theorem judgeCard_outOfService (h : s.mgmt.service = .outOfService) :
    SlotJudged b (.refused r .outOfOrder .eject) .outOfOrder (some .eject) s (judgeCard b r s) := by
  unfold judgeCard
  rw [if_pos h]
  exact (slotJudged_refusal _ _ _).of_counts rfl rfl

/-- A refusal's counts and notice aside. -/
theorem refuseCard_rest (b : Booth) (r : CardRecord) (reason : CardReason) (action : StopAction) (s : State) :
    ∃ counters notices, refuseCard b r reason action s =
      let t := postCardAction b (actionFor action r)
        (postSignal b (.cardRefused reason) (setSlot b (.refused r reason action) s))
      { t with counters := counters, mgmt := { t.mgmt with notices := notices } } := by
  unfold refuseCard
  dsimp only
  generalize postCardAction b _ _ = t
  split
  · exact ⟨_, _, rfl⟩
  · exact ⟨_, _, rfl⟩

/-- A card that fails a check is refused with its reason, signal and action (R86). -/
theorem judgeCard_refused {reason : CardReason} {action : StopAction} (hs : s.mgmt.service ≠ .outOfService)
    (hv : s.verdict r = .refused reason action) :
    SlotJudged b (.refused r reason action) (.cardRefused reason) (some (actionFor action r)) s (judgeCard b r s) := by
  unfold judgeCard
  rw [if_neg hs, hv]
  dsimp only
  obtain ⟨counters, notices, refused⟩ := refuseCard_rest b r reason action (countProbe r s)
  rw [refused]
  exact (slotJudged_refusal _ _ _).of_counts (countProbe_rest r s) rfl

/-- The Stop List's match is notified (R86). -/
theorem judgeCard_stopMatch {action : StopAction} (hs : s.mgmt.service ≠ .outOfService)
    (hv : s.verdict r = .refused .stopped action) : (judgeCard b r s).mgmt.notices.waiting.getLsbD 4 = true := by
  unfold judgeCard
  rw [if_neg hs, hv]
  exact notePending_waiting .stopMatch _

/-- The state in which a card has become VALID and the customer been shown its units, before the call is told (R85). -/
def cardAdmitted (b : Booth) (r : CardRecord) (v w : Nat) (s : State) : State :=
  modBoothLine b (toldLine (some (.showUnits (shownUnits r.face.toNat r.cancelled.toNat))))
    (setSlot b (.valid r v w r.cancelled.toNat) (countProbe r s))

/-- A card that passes all seven checks is accepted (R85). -/
theorem judgeCard_accepted {v w : Nat} (hs : s.mgmt.service ≠ .outOfService) (hv : s.verdict r = .accepted v w) :
    judgeCard b r s = bump Ctr.cardsAccepted (slotBecameValid b (cardAdmitted b r v w s)) := by
  unfold judgeCard
  rw [if_neg hs, hv]
  dsimp only
  unfold acceptCard cardAdmitted
  rw [postSignal_eq]

theorem slot_cardAdmitted (b : Booth) (r : CardRecord) (v w : Nat) (s : State) :
    (cardAdmitted b r v w s).slot b = .valid r v w r.cancelled.toNat := slot_setSlot_self b _ _

theorem cardAdmitted_rest (b : Booth) (r : CardRecord) (v w : Nat) (s : State) :
    cardAdmitted b r v w s = { s with
      card := { s.card with slots := (cardAdmitted b r v w s).card.slots }
      line := { s.line with booths := (cardAdmitted b r v w s).line.booths }
      counters := (cardAdmitted b r v w s).counters } := by
  unfold cardAdmitted
  rw [countProbe_rest r s]
  rfl

theorem boothLine_cardAdmitted (b : Booth) (r : CardRecord) (v w : Nat) (s : State) :
    (cardAdmitted b r v w s).boothLine b =
      toldLine (some (.showUnits (shownUnits r.face.toNat r.cancelled.toNat))) (s.boothLine b) := by
  unfold cardAdmitted
  rw [boothLine_modBoothLine_self, boothLine_setSlot, countProbe_rest r s]
  rfl

theorem cardAdmitted_ne {x : Booth} (hx : x ≠ b) (r : CardRecord) (v w : Nat) (s : State) :
    (cardAdmitted b r v w s).slot x = s.slot x ∧ (cardAdmitted b r v w s).boothLine x = s.boothLine x := by
  unfold cardAdmitted
  rw [slot_modBoothLine, slot_setSlot_ne hx, boothLine_modBoothLine_ne hx, boothLine_setSlot, countProbe_rest r s]
  exact ⟨rfl, rfl⟩

theorem slotJudged_admitted (b : Booth) (r : CardRecord) (v w : Nat) (s : State) :
    SlotJudged b (.valid r v w r.cancelled.toNat) (.showUnits (shownUnits r.face.toNat r.cancelled.toNat)) none s
      (cardAdmitted b r v w s) where
  slot := slot_cardAdmitted b r v w s
  signals takes := by rw [boothLine_cardAdmitted, toldLine_takes _ (not_or.mpr takes)]
  action _ _ := by
    rw [boothLine_cardAdmitted, toldLine_rest]
    rfl
  others _ hx := (cardAdmitted_ne hx r v w s).1
  rest := by
    rw [cardAdmitted_rest b r v w s]

/-! ## A card the call does not hear of -/

theorem cardlessCall_iff : s.cardlessCall b = true ↔ ¬NeedsCard b s := by
  unfold State.cardlessCall NeedsCard
  cases (s.ctx b).snap with
  | none => simp
  | some p => simp

theorem slotBecameValid_unheard
    (h : (s.ctx b).state = .free ∨ (s.ctx b).state = .dialling ∨ (s.ctx b).state = .routed
      ∨ (s.ctx b).state = .speech ∨ ¬NeedsCard b s) : slotBecameValid b s = s := by
  unfold slotBecameValid
  split
  · rfl
  next needs =>
    rcases h with h | h | h | h | h
    · rw [h]
    · rw [h]
    · rw [h]
    · rw [h]
    · exact absurd (cardlessCall_iff.mpr h) needs

/-- A card accepted while the booth has no call (R85). -/
theorem judgeCard_idle {v w : Nat} (hs : s.mgmt.service ≠ .outOfService) (hv : s.verdict r = .accepted v w)
    (free : (s.ctx b).state = .free) :
    SlotJudged b (.valid r v w r.cancelled.toNat) (.showUnits (shownUnits r.face.toNat r.cancelled.toNat)) none s
      (judgeCard b r s) := by
  have call : (cardAdmitted b r v w s).ctx b = s.ctx b := by
    rw [cardAdmitted_rest]
    rfl
  rw [judgeCard_accepted hs hv, slotBecameValid_unheard (.inl (call ▸ free))]
  exact (slotJudged_admitted b r v w s).of_counts rfl rfl

/-! ## CARD IN at an EMPTY slot (R82) -/

theorem boothEvent_cardIn (b : Booth) (m : Bool) (r : CardRecord) (s : State) :
    boothEvent b m (.cardIn r) s = cardInEvent b m r s := rfl

theorem cardInEvent_empty (m : Bool) (h : s.slot b = .empty) :
    cardInEvent b m r s = judgeCard b r (bump Ctr.cardsIn s) := by
  have empty : (bump Ctr.cardsIn s).slot b = .empty := h
  unfold cardInEvent
  dsimp only
  rw [empty]

/-- A card judged at an EMPTY slot, from the state that its event found. -/
theorem SlotJudged.cardIn {x : CardSlot} {sig : Signal} {a : Option CardAction} (m : Bool) (empty : s.slot b = .empty)
    (h : SlotJudged b x sig a (bump Ctr.cardsIn s) (judgeCard b r (bump Ctr.cardsIn s))) :
    SlotJudged b x sig a s (boothEvent b m (.cardIn r) s) := by
  rw [boothEvent_cardIn, cardInEvent_empty m empty]
  exact h.of_counts rfl rfl

/-- A card refused by one of the first six checks goes back (R84, R86). -/
theorem slotJudged_early {reason : CardReason} (m : Bool) (empty : s.slot b = .empty)
    (hs : s.mgmt.service ≠ .outOfService) (hr : s.earlyChecks r = .inl reason) :
    SlotJudged b (.refused r reason .eject) (.cardRefused reason) (some .eject) s (boothEvent b m (.cardIn r) s) :=
  (judgeCard_refused (s := bump Ctr.cardsIn s) hs (verdict_of_inl hr)).cardIn m empty

/-- A card is refused unchecked, refused by a check or accepted. -/
theorem exists_slotJudged (m : Bool) (empty : s.slot b = .empty) (free : (s.ctx b).state = .free) :
    ∃ x sig a, SlotJudged b x sig a s (boothEvent b m (.cardIn r) s) := by
  by_cases hs : s.mgmt.service = .outOfService
  · exact ⟨_, _, _, (judgeCard_outOfService (s := bump Ctr.cardsIn s) hs).cardIn m empty⟩
  · cases hv : s.verdict r with
    | accepted v w => exact ⟨_, _, _, (judgeCard_idle (s := bump Ctr.cardsIn s) hs hv free).cardIn m empty⟩
    | refused reason action =>
      exact ⟨_, _, _, (judgeCard_refused (s := bump Ctr.cardsIn s) hs hv).cardIn m empty⟩

end Sys2Proof.Machine
end

section
/-!
# The held digits of a routed call (R7, R147)
-/

namespace Sys2Proof.Machine

/-- How many held digits booth b's release sends: all while the link is DOWN, else as many as the queue has room for. -/
def State.heldSent (s : State) (b : Booth) : Nat :=
  if s.trunk.linkUp then min (64 - s.trunk.sigQueue.length) (s.ctx b).held.length else (s.ctx b).held.length

/-- The held digits that have to wait. -/
def State.heldLeft (s : State) (b : Booth) : List Digit := (s.ctx b).held.drop (s.heldSent b)

/-- The Trunk Port when booth b's held digits have been released. -/
def State.trunkReleased (s : State) (b : Booth) : Trunk :=
  { s.trunk with
    sigQueue := s.trunk.sigQueue
      ++ if s.trunk.linkUp then ((s.ctx b).held.take (s.heldSent b)).map (.digit (s.entry b).channel) else []
    waiting :=
      if s.heldLeft b = [] ∨ b ∈ s.trunk.waiting then s.trunk.waiting else s.trunk.waiting ++ [b] }

/-- Booth b's held digits have been released (R147). -/
structure HeldReleased (b : Booth) (s t : State) : Prop where
  call : t.ctx b = { s.ctx b with held := s.heldLeft b }
  others : ∀ x, x ≠ b → t.ctx x = s.ctx x
  trunk : t.trunk = s.trunkReleased b
  rest : t = { s with ctxs := t.ctxs, trunk := t.trunk, counters := t.counters }

section
variable {b : Booth} {s t : State} {d : Digit} {ds : List Digit}

theorem heldReleased_none (h : (s.ctx b).held = []) : HeldReleased b s s := by
  have left : s.heldLeft b = [] := by rw [State.heldLeft, h, List.drop_nil]
  refine ⟨?_, fun _ _ => rfl, ?_, rfl⟩
  · rw [left, ← h]
  · rw [State.trunkReleased, left, h]
    simp

/-- A full queue lets none of the digits go. -/
theorem heldReleased_full (hd : (s.ctx b).held ≠ []) (hl : s.trunk.linkUp = true) (hq : 64 ≤ s.trunk.sigQueue.length) :
    HeldReleased b s (joinWaiting b s) := by
  have sent : s.heldSent b = 0 := by
    unfold State.heldSent
    rw [if_pos hl]
    omega
  have left : s.heldLeft b = (s.ctx b).held := by rw [State.heldLeft, sent, List.drop_zero]
  refine ⟨?_, fun _ _ => rfl, ?_, rfl⟩
  · rw [left]
    rfl
  · rw [State.trunkReleased, left, sent]
    unfold joinWaiting
    by_cases hw : b ∈ s.trunk.waiting <;> simp [hd, hw]

/-- The state in which the oldest held digit has been offered to a queue with room. -/
def digitSent (b : Booth) (d : Digit) (ds : List Digit) (s : State) : State :=
  queueSig (.digit (s.entry b).channel d) (modCtx b (fun c => { c with held := ds }) s)

theorem ctx_digitSent (b : Booth) (d : Digit) (ds : List Digit) (s : State) (x : Booth) :
    (digitSent b d ds s).ctx x = (modCtx b (fun c => { c with held := ds }) s).ctx x := by
  unfold digitSent queueSig
  split <;> rfl

theorem ctx_digitSent_self (b : Booth) (d : Digit) (ds : List Digit) (s : State) :
    (digitSent b d ds s).ctx b = { s.ctx b with held := ds } := by
  rw [ctx_digitSent, ctx_modCtx_self]

theorem trunk_digitSent (b : Booth) (d : Digit) (ds : List Digit) (s : State) :
    (digitSent b d ds s).trunk =
      { s.trunk with
        sigQueue := s.trunk.sigQueue ++ if s.trunk.linkUp then [.digit (s.entry b).channel d] else [] } := by
  unfold digitSent queueSig
  cases hl : s.trunk.linkUp with
  | true =>
    rw [if_pos (by exact hl)]
    simp
  | false =>
    rw [if_neg (by rw [modCtx_trunk, hl]; decide)]
    simp

theorem digitSent_rest (b : Booth) (d : Digit) (ds : List Digit) (s : State) :
    digitSent b d ds s = { s with
      ctxs := (digitSent b d ds s).ctxs, trunk := (digitSent b d ds s).trunk
      counters := (digitSent b d ds s).counters } := by
  unfold digitSent queueSig
  split <;> rfl

/-- A release goes on behind the digit that has been sent. -/
theorem HeldReleased.of_digitSent (hd : (s.ctx b).held = d :: ds)
    (hr : s.trunk.linkUp = true → s.trunk.sigQueue.length < 64) (h : HeldReleased b (digitSent b d ds s) t) :
    HeldReleased b s t := by
  have call := ctx_digitSent_self b d ds s
  have trunk := trunk_digitSent b d ds s
  have entry : (digitSent b d ds s).entry b = s.entry b := by
    rw [digitSent_rest]
    rfl
  have sent : s.heldSent b = (digitSent b d ds s).heldSent b + 1 := by
    unfold State.heldSent
    rw [call, trunk, hd]
    cases hl : s.trunk.linkUp with
    | true =>
      have room := hr hl
      simp
      omega
    | false => simp
  have left : s.heldLeft b = (digitSent b d ds s).heldLeft b := by
    unfold State.heldLeft
    rw [sent, hd, call, List.drop_succ_cons]
  have released : s.trunkReleased b = (digitSent b d ds s).trunkReleased b := by
    unfold State.trunkReleased
    rw [left, sent, hd, call, entry, trunk]
    cases s.trunk.linkUp <;> simp
  refine ⟨?_, fun x hx => ?_, ?_, ?_⟩
  · rw [h.call, call, left]
  · rw [h.others x hx, ctx_digitSent, ctx_modCtx_ne hx]
  · rw [h.trunk, released]
  · have rest := h.rest
    rw [digitSent_rest] at rest
    exact rest

/-- More fuel than held digits releases them all, or as many as there is room for. -/
theorem heldReleased_fuel {n : Nat} (h : (s.ctx b).held.length < n) : HeldReleased b s (releaseHeldFuel n b s) := by
  induction n generalizing s with
  | zero => exact absurd h (Nat.not_lt_zero _)
  | succ n ih =>
    unfold releaseHeldFuel
    cases hd : (s.ctx b).held with
    | nil => exact heldReleased_none hd
    | cons d ds =>
      dsimp only
      have shorter : ((digitSent b d ds s).ctx b).held.length < n := by
        rw [ctx_digitSent_self]
        rw [hd, List.length_cons] at h
        exact Nat.lt_of_succ_lt_succ h
      cases hl : s.trunk.linkUp with
      | false =>
        rw [if_pos (sigRoom_down hl)]
        exact (ih shorter).of_digitSent hd fun up => absurd (hl.symm.trans up) nofun
      | true =>
        rw [sigRoom_up hl]
        split_ifs with room
        · exact (ih shorter).of_digitSent hd fun _ => of_decide_eq_true room
        · exact heldReleased_full (by rw [hd]; nofun) hl
            (Nat.not_lt.mp fun lt => room (decide_eq_true lt))

theorem heldReleased_releaseHeld (b : Booth) (s : State) : HeldReleased b s (releaseHeld b s) :=
  heldReleased_fuel (Nat.lt_succ_self _)

end

end Sys2Proof.Machine
end

section
/-!
# What the customer is shown (R113)
-/

namespace Sys2Proof.Machine

section
variable {b : Booth} {s t u : State} {i count : Nat} {e e' : CardEntry}

/-- The slot test of the model is that of the statements (R113). -/
theorem slotHolds_iff (hi : (s.debit b).cards[i]? = some e) : s.slotHolds b i = true ↔ CardInSlot b e s := by
  unfold State.slotHolds CardInSlot
  rw [hi]
  cases s.slot b with
  | valid r v w l =>
    dsimp only
    rw [decide_eq_true_eq, CardEntry.identity, Prod.mk.injEq]
    constructor
    · rintro ⟨hseries, hserial⟩
      exact ⟨r, v, w, l, rfl, hseries.symm, hserial.symm⟩
    · rintro ⟨r', v', w', l', h, hseries, hserial⟩
      cases h
      exact ⟨hseries.symm, hserial.symm⟩
  | empty => exact ⟨nofun, fun ⟨_, _, _, _, h, _⟩ => nomatch h⟩
  | refused r reason a => exact ⟨nofun, fun ⟨_, _, _, _, h, _⟩ => nomatch h⟩

/-- The test for LOW CREDIT of the entry e at place i has been made (R113). -/
structure LowCreditTested (b : Booth) (i : Nat) (e : CardEntry) (s t : State) : Prop where
  debit : t.debit b = { s.debit b with
    cards := (s.debit b).cards.modify i fun x => { x with warned := x.warned || warnsAt e.lastKnown e } }
  line : t.boothLine b = toldLine (if warnsAt e.lastKnown e then some .lowCredit else none) (s.boothLine b)
  others : ∀ x, x ≠ b → t.debit x = s.debit x ∧ t.boothLine x = s.boothLine x
  rest : t = { s with debits := t.debits, line := { s.line with booths := t.line.booths } }

theorem lowCreditTested (hi : (s.debit b).cards[i]? = some e) : LowCreditTested b i e s (lowCreditTest b i s) := by
  unfold lowCreditTest
  rw [hi]
  dsimp only
  cases hw : warnsAt e.lastKnown e with
  | true =>
    rw [if_pos ((warnsAt_lastKnown e).mp hw), postSignal_eq]
    refine ⟨?_, ?_, fun x hx => ⟨?_, ?_⟩, rfl⟩
    · rw [debit_modDebit_self, debit_modBoothLine, hw]
      simp only [Bool.or_true]
    · rw [boothLine_modDebit, boothLine_modBoothLine_self, hw]
      rfl
    · rw [debit_modDebit_ne hx, debit_modBoothLine]
    · rw [boothLine_modDebit, boothLine_modBoothLine_ne hx]
  | false =>
    rw [if_neg fun h => by rw [(warnsAt_lastKnown e).mpr h] at hw; cases hw]
    refine ⟨?_, ?_, fun _ _ => ⟨rfl, rfl⟩, rfl⟩
    · simp only [hw, Bool.or_false]
      exact congrArg (fun c => { s.debit b with cards := c }) (List.modify_id ..).symm
    · rw [hw]
      rfl

theorem signals_toldLine {l : BoothLine} (sig : Signal) (h : ¬(l.health = .lost ∨ l.health = .disabled)) :
    (toldLine (some sig) l).signals = joinSignal sig l.signals := congrArg BoothLine.signals (toldLine_takes sig h)

/-- The signals of a count that the entry e at place i holds have been posted (R113). -/
structure CountSignalled (b : Booth) (i : Nat) (e : CardEntry) (s t : State) : Prop where
  debit : t.debit b = { s.debit b with cards := (t.debit b).cards }
  entry : ∃ e', (t.debit b).cards[i]? = some e' ∧ e' = { e with warned := e'.warned }
  places : ∀ j, j ≠ i → (t.debit b).cards[j]? = (s.debit b).cards[j]?
  shown : Shown True b i e.lastKnown e s t
  others : ∀ x, x ≠ b → t.debit x = s.debit x ∧ t.boothLine x = s.boothLine x
  rest : t = { s with debits := t.debits, line := { s.line with booths := t.line.booths } }

theorem countSignalled_held (hi : (s.debit b).cards[i]? = some e) (hc : CardInSlot b e s) :
    CountSignalled b i e s (countSignals b i s) := by
  unfold countSignals
  rw [if_pos ((slotHolds_iff hi).mpr hc), hi]
  dsimp only
  rw [postSignal_eq]
  generalize hn : shownUnits e.face e.lastKnown = n
  have T := lowCreditTested (s := modBoothLine b (toldLine (some (.showUnits n))) s) hi
  generalize lowCreditTest b i _ = t at T ⊢
  obtain ⟨debit, line, others, rest⟩ := T
  rw [debit_modBoothLine] at debit
  rw [boothLine_modBoothLine_self] at line
  have entry : (t.debit b).cards[i]? = some { e with warned := e.warned || warnsAt e.lastKnown e } := by
    rw [debit, List.getElem?_modify_eq, hi]
    rfl
  refine ⟨?_, ⟨_, entry, rfl⟩, fun j hj => ?_, ⟨fun _ _ takes => ⟨n, fun le => ?_, ?_⟩, fun h => ?_, fun x hx => ?_⟩,
    fun x hx => ?_, rest⟩
  · rw [debit]
  · rw [debit, List.getElem?_modify_ne _ _ hj.symm]
  · exact hn.symm.trans (shownUnits_of_le le)
  · rw [line]
    have told := toldLine_takes (.showUnits n) (not_or.mpr takes)
    rw [told]
    split_ifs
    · exact signals_toldLine .lowCredit (not_or.mpr takes)
    · rfl
  · have busy : ¬TakesWork b s := by
      rcases h with h | h | h
      · exact absurd trivial h
      · exact absurd hc h
      · exact h
    have deaf : (s.boothLine b).health = .lost ∨ (s.boothLine b).health = .disabled := by
      by_contra h
      exact busy (not_or.mp h)
    have untold : ∀ sig, toldLine (some sig) (s.boothLine b) = s.boothLine b := fun _ => if_pos deaf
    rw [line, untold]
    split_ifs
    · rw [untold]
    · rfl
  · rw [entry] at hx
    cases hx
    exact ⟨fun _ _ => rfl, fun h => by
      rcases h with h | h
      · exact absurd trivial h
      · exact absurd hc h⟩
  · obtain ⟨hdebit, hline⟩ := others x hx
    exact ⟨hdebit, hline.trans (boothLine_modBoothLine_ne hx _ s)⟩

theorem countSignalled_else (hi : (s.debit b).cards[i]? = some e) (hc : ¬CardInSlot b e s) :
    CountSignalled b i e s (countSignals b i s) := by
  have quiet : countSignals b i s = s := if_neg fun h => hc ((slotHolds_iff hi).mp h)
  rw [quiet]
  refine ⟨rfl, ⟨e, hi, rfl⟩, fun _ _ => rfl, ⟨fun _ held => absurd held hc, fun _ => rfl, fun x hx => ?_⟩,
    fun _ _ => ⟨rfl, rfl⟩, rfl⟩
  rw [hi] at hx
  cases hx
  exact ⟨fun _ held => absurd held hc, fun _ => rfl⟩

theorem countSignalled (hi : (s.debit b).cards[i]? = some e) : CountSignalled b i e s (countSignals b i s) := by
  by_cases hc : CardInSlot b e s
  · exact countSignalled_held hi hc
  · exact countSignalled_else hi hc

/-- What is shown goes by the entry's card, its warning and the booth's line; a cause may be put in other words. -/
theorem Shown.congr {cause cause' : Prop} (h : Shown cause b i count e s t) (hcause : cause' ↔ cause)
    (hslot : CardInSlot b e' u ↔ CardInSlot b e s) (hline : u.boothLine b = s.boothLine b)
    (hface : e'.face = e.face) (hwarn : e'.warn = e.warn) (hwarned : e'.warned = e.warned) :
    Shown cause' b i count e' u t := by
  have warns : warnsAt count e' = warnsAt count e := by rw [warnsAt, hface, hwarn, hwarned, warnsAt]
  have takes : TakesWork b u ↔ TakesWork b s := by rw [TakesWork, hline, TakesWork]
  obtain ⟨posts, quiet, warned⟩ := h
  refine ⟨?_, ?_, ?_⟩
  · rw [hcause, hslot, takes, hline, hface, warns]
    exact posts
  · rw [hcause, hslot, takes, hline]
    exact quiet
  · rw [hcause, hslot, hwarned, warns]
    exact warned

/-- Without a cause nothing is shown. -/
theorem shown_nothing {cause : Prop} (hn : ¬cause) (hl : (t.boothLine b).signals = (s.boothLine b).signals)
    (hi : (t.debit b).cards[i]? = some e') (hw : e'.warned = e.warned) : Shown cause b i count e s t where
  posts hc := absurd hc hn
  quiet _ := hl
  warns x hx := by
    rw [hi] at hx
    cases hx
    exact ⟨fun hc => absurd hc hn, fun _ => hw⟩

end

end Sys2Proof.Machine
end

section
/-!
# Units confirmed (R104)
-/

namespace Sys2Proof.Machine

section
variable {b : Booth} {s t u : State} {i k count : Nat} {e : CardEntry}

/-- A debit record with k units of value v confirmed on the entry at place i (R104). -/
def Debit.confirmed (i k count v : Nat) (d : Debit) : Debit :=
  { d with
    p := d.p + (k * v : Nat), covered := d.covered + k * v
    cards := d.cards.modify i fun e => { e with cancelled := e.cancelled + k, lastKnown := count } }

theorem dropRecord_none (hu : (s.debit b).uncertain = none) : dropRecord b i k s = s := by
  unfold dropRecord
  rw [hu]

/-- The slot has taken the count of the entry e, when it is VALID with its card (R81, R104). -/
structure SlotCounted (b : Booth) (count : Nat) (e : CardEntry) (s t : State) : Prop where
  slot : ∀ r v w l, s.slot b = .valid r v w l → (r.series, r.serial) = (e.series, e.serial) →
    t.slot b = .valid r v w count
  slotElse : (∀ r v w l, s.slot b = .valid r v w l → (r.series, r.serial) ≠ (e.series, e.serial)) →
    t.slot b = s.slot b
  others : ∀ x, x ≠ b → t.slot x = s.slot x
  rest : t = { s with card := { s.card with slots := t.card.slots } }

theorem slotCounted_setSlotCount (hi : (s.debit b).cards[i]? = some e) :
    SlotCounted b count e s (setSlotCount b i count s) := by
  unfold setSlotCount
  split_ifs with held
  · obtain ⟨r, v, w, l, hs, hseries, hserial⟩ := (slotHolds_iff hi).mp held
    rw [hs]
    refine ⟨fun r' v' w' l' h _ => ?_, fun other => ?_, fun x hx => slot_setSlot_ne hx _ s, rfl⟩
    · cases hs.symm.trans h
      exact slot_setSlot_self b _ s
    · exact absurd (Prod.ext hseries hserial) (other r v w l hs)
  · refine ⟨fun r v w l hs same => ?_, fun _ => rfl, fun _ _ => rfl, rfl⟩
    obtain ⟨hseries, hserial⟩ := Prod.mk.inj same
    exact absurd ((slotHolds_iff hi).mpr ⟨r, v, w, l, hs, hseries, hserial⟩) held

@[simp] theorem line_setSlotCount : (setSlotCount b i count s).line = s.line := by
  unfold setSlotCount
  split
  · split <;> rfl
  · rfl

@[simp] theorem line_dropRecord : (dropRecord b i k s).line = s.line := by
  unfold dropRecord
  split
  · dsimp only
    split_ifs <;> rfl
  · rfl

@[simp] theorem line_confirm : (confirm b i k count s).line = s.line := by simp [confirm]

@[simp] theorem debit_setSlotCount (x : Booth) : (setSlotCount b i count s).debit x = s.debit x := by
  unfold setSlotCount
  split
  · split <;> rfl
  · rfl

/-- With no record to drop, a confirmation is the record, the slot's count and the counters. -/
theorem confirm_eq (hi : (s.debit b).cards[i]? = some e) (hu : (s.debit b).uncertain = none) :
    confirm b i k count s = bumpBy Ctr.unitsConfirmed k (bump Ctr.cancelsConfirmed
      (setSlotCount b i count (modDebit b (Debit.confirmed i k count e.unitValue) s))) := by
  have value : (((s.debit b).cards[i]?).map CardEntry.unitValue).getD 0 = e.unitValue := by
    rw [hi]
    rfl
  unfold confirm
  dsimp only
  rw [value]
  refine dropRecord_none ?_
  rw [debit_bumpBy, debit_bump, debit_setSlotCount, debit_modDebit_self]
  exact hu

theorem debit_confirm (hi : (s.debit b).cards[i]? = some e) (hu : (s.debit b).uncertain = none) :
    (confirm b i k count s).debit b = (s.debit b).confirmed i k count e.unitValue := by
  rw [confirm_eq hi hu, debit_bumpBy, debit_bump, debit_setSlotCount, debit_modDebit_self]

theorem entry_confirmed {d : Debit} (hi : d.cards[i]? = some e) (v : Nat) :
    (d.confirmed i k count v).cards[i]? =
      some { e with cancelled := e.cancelled + k, lastKnown := count } := by
  refine (List.getElem?_modify_eq ..).trans ?_
  rw [hi]
  rfl

theorem counter_unitsConfirmed (k : Nat) (s : State) :
    (bumpBy Ctr.unitsConfirmed k (bump Ctr.cancelsConfirmed s)).counter Ctr.uncertainFinals =
      s.counter Ctr.uncertainFinals :=
  (counter_bumpBy_ne (by decide) k _).trans (counter_bumpBy_ne (by decide) 1 s)

/-- k units confirmed on an entry with no request outstanding and no uncertain record. -/
theorem confirms_confirm (hi : (s.debit b).cards[i]? = some e) (ho : (s.debit b).outstanding = .none)
    (hu : (s.debit b).uncertain = none) : Confirms b i k count e s (confirm b i k count s) := by
  have debit := debit_confirm (k := k) (count := count) hi hu
  have entry := entry_confirmed (k := k) (count := count) hi e.unitValue
  rw [confirm_eq hi hu] at debit ⊢
  have C : SlotCounted b count _ (modDebit b (Debit.confirmed i k count e.unitValue) s) _ :=
    slotCounted_setSlotCount (by rw [debit_modDebit_self]; exact entry)
  generalize setSlotCount b i count _ = t at debit C ⊢
  obtain ⟨slot, slotElse, slots, rest⟩ := C
  have counter : t.counter Ctr.uncertainFinals = s.counter Ctr.uncertainFinals := by
    rw [rest]
    rfl
  have others : ∀ x, x ≠ b → t.debit x = s.debit x := fun x hx => by
    rw [rest]
    exact debit_modDebit_ne hx _ s
  exact {
    balance := by rw [debit]; rfl
    covered := by rw [debit]; rfl
    request := by rw [debit]; exact ho
    entry := ⟨_, by rw [debit]; exact entry, rfl⟩
    others := fun j hj => by rw [debit]; exact List.getElem?_modify_ne _ _ hj.symm
    charges := by
      rw [debit, hu, ite_self, ← ho, ← hu]
      rfl
    finals := fun u h => absurd (hu.symm.trans h) nofun
    uncounted := fun _ => (counter_unitsConfirmed k t).trans counter
    slot := slot
    slotElse := slotElse
    call := by rw [rest]; rfl
    frame := fun x hx => ⟨by rw [rest]; rfl, others x hx, slots x hx, by rw [rest]; rfl⟩
    rest := by rw [rest]; exact ⟨rfl, rfl, rfl, rfl, rfl⟩ }

/-- A count made before a confirmation is none of its business. -/
theorem Confirms.of_bump {c : CounterId} (hc : c ≠ Ctr.uncertainFinals) (hu : (s.debit b).uncertain = none)
    (h : Confirms b i k count e (bump c s) t) : Confirms b i k count e s t := by
  obtain ⟨balance, covered, request, entry, others, charges, -, uncounted, slot, slotElse, call, frame, rest⟩ := h
  exact ⟨balance, covered, request, entry, others, charges, fun u h => absurd (hu.symm.trans h) nofun,
    fun h => (uncounted h).trans (counter_bumpBy_ne hc 1 s), slot, slotElse, call, frame, rest⟩

/-- The signals of a confirmation leave what it confirmed (R113). -/
theorem Confirms.signalled {x : CardEntry} (h : Confirms b i k count e s u) (hx : (u.debit b).cards[i]? = some x)
    (g : CountSignalled b i x u t) : Confirms b i k count e s t := by
  obtain ⟨balance, covered, request, ⟨e', he', eq'⟩, others, charges, finals, uncounted, slot, slotElse, call, frame,
    rest⟩ := h
  obtain ⟨gdebit, ⟨x', hx', xeq⟩, places, -, gothers, grest⟩ := g
  have same : e' = x := Option.some_inj.mp (he'.symm.trans hx)
  subst same
  have counter : t.counter Ctr.uncertainFinals = u.counter Ctr.uncertainFinals := by
    rw [grest]
    rfl
  have tslot : ∀ y, t.slot y = u.slot y := fun y => by rw [grest]; rfl
  have tctx : ∀ y, t.ctx y = u.ctx y := fun y => by rw [grest]; rfl
  exact {
    balance := by rw [gdebit]; exact balance
    covered := by rw [gdebit]; exact covered
    request := by rw [gdebit]; exact request
    entry := ⟨x', hx', by rw [xeq, eq']⟩
    others := fun j hj => (places j hj).trans (others j hj)
    charges := by
      rw [gdebit]
      exact congrArg (fun d : Debit => { d with cards := (t.debit b).cards }) charges
    finals := fun r hr hk hne => counter.trans (finals r hr hk hne)
    uncounted := fun hk => counter.trans (uncounted hk)
    slot := fun r v w l hs hid => (tslot b).trans (slot r v w l hs hid)
    slotElse := fun hs => (tslot b).trans (slotElse hs)
    call := (tctx b).trans call
    frame := fun y hy => by
      obtain ⟨fctx, fdebit, fslot, fline⟩ := frame y hy
      obtain ⟨odebit, oline⟩ := gothers y hy
      exact ⟨(tctx y).trans fctx, odebit.trans fdebit, (tslot y).trans fslot, oline.trans fline⟩
    rest := by
      rw [grest]
      exact rest }

/-- The card in the slot is the entry's before a confirmation exactly when it is after. -/
theorem Confirms.cardInSlot_iff (h : Confirms b i k count e s t) : CardInSlot b e t ↔ CardInSlot b e s := by
  by_cases held : CardInSlot b e s
  · obtain ⟨r, v, w, l, hs, hseries, hserial⟩ := held
    exact ⟨fun _ => ⟨r, v, w, l, hs, hseries, hserial⟩,
      fun _ => ⟨r, v, w, count, h.slot r v w l hs (Prod.ext hseries hserial), hseries, hserial⟩⟩
  · have kept : t.slot b = s.slot b := h.slotElse fun r v w l hs same =>
      held ⟨r, v, w, l, hs, (Prod.mk.inj same).1, (Prod.mk.inj same).2⟩
    unfold CardInSlot
    rw [kept]

end

end Sys2Proof.Machine
end

section
/-!
# Counts taken without a request (R105, R111, R112)
-/

namespace Sys2Proof.Machine

section
variable {b : Booth} {s t : State} {i count : Nat} {e : CardEntry}

/-! ## A count fault (R105) -/

/-- What becomes of the settle after a resolved request (R119). -/
theorem settlesOn_settleOn (b : Booth) (final : Bool) (s : State) : SettlesOn b final s (settleOn b final s) := by
  unfold SettlesOn settleOn
  cases final with
  | true => exact completed_settled b s
  | false => exact settles_finalTest b s

/-- A debit record with its request cleared and the entry at place i flagged (R105). -/
def Debit.faulted (i : Nat) (d : Debit) : Debit :=
  { d with outstanding := .none, cards := d.cards.modify i fun x => { x with countFault := true } }

/-- The state in which a count fault on the entry e at place i has been recorded and reported, before the call goes on. -/
def countFaulted (b : Booth) (i : Nat) (e : CardEntry) (s : State) : State :=
  reportFault .cardCount b (s.ctx b).plan (s.ctx b).walkDigits (some e.identity)
    (bump Ctr.cardCountFaults (modDebit b (Debit.faulted i) s))

theorem countFaulted_rest (b : Booth) (i : Nat) (e : CardEntry) (s : State) :
    countFaulted b i e s = { s with
      debits := (modDebit b (Debit.faulted i) s).debits
      mgmt := (countFaulted b i e s).mgmt, counters := (countFaulted b i e s).counters } := by
  unfold countFaulted
  rw [reportFault_rest]
  rfl

theorem faultTaken_countFaulted (b : Booth) (i : Nat) (e : CardEntry) (s : State) :
    FaultTaken (debitFault .cardCount b e s) s (countFaulted b i e s) := by
  have taken := faultTaken_reportFault .cardCount b (s.ctx b).plan (s.ctx b).walkDigits (some e.identity)
    (bump Ctr.cardCountFaults (modDebit b (Debit.faulted i) s))
  exact taken.congr rfl rfl

theorem countFault_eq (hi : (s.debit b).cards[i]? = some e) :
    countFault b i s =
      if (s.ctx b).state.metered then enterEnding b .cardFault (countFaulted b i e s)
      else if (s.ctx b).state = .ending then
        settleOn b (((s.debit b).outstanding.ask.map Ask.final).getD false) (countFaulted b i e s)
      else countFaulted b i e s := by
  unfold countFault
  dsimp only
  rw [hi]
  rfl

theorem countFault_countFault (hi : (s.debit b).cards[i]? = some e) : CountFault b i e s (countFault b i s) := by
  rw [countFault_eq hi]
  have rest := countFaulted_rest b i e s
  have fault := faultTaken_countFaulted b i e s
  have settings : (countFaulted b i e s).settings = s.settings :=
    reportFault_closed (settings_closed s.settings) rfl
  generalize countFaulted b i e s = u at rest fault settings ⊢
  have debit : u.debit b = (s.debit b).faulted i := by
    rw [rest]
    exact debit_modDebit_self b (Debit.faulted i) s
  have ctx : u.ctx b = s.ctx b := by
    rw [rest]
    rfl
  refine ⟨u, debit, ?_, fun x hx => ?_, settings, fault, fun metered => ?_, fun ends => ?_⟩
  · rw [rest]
  · rw [rest]
    exact debit_modDebit_ne hx _ s
  · rw [if_pos ((metered_iff _).mpr metered)]
    exact enterEnding_settles .cardFault (ctx.symm ▸ metered) (by rw [debit]; rfl)
  · rw [if_neg (by rw [ends]; decide), if_pos ends]
    exact settlesOn_settleOn b _ u

/-! ## A count compared (R112) -/

/-- A debit record with a higher count adopted for the entry at place i (R112). -/
def Debit.adopts (i count : Nat) (d : Debit) : Debit :=
  { d with cards := d.cards.modify i fun e => { e with lastKnown := count } }

/-- A higher count is adopted without credit, and shown (R112, R113). -/
theorem countSignalled_adopted (hi : (s.debit b).cards[i]? = some e) :
    CountSignalled b i { e with lastKnown := count } (bump Ctr.countsAdopted (modDebit b (Debit.adopts i count) s))
      (countSignals b i (bump Ctr.countsAdopted (modDebit b (Debit.adopts i count) s))) := by
  refine countSignalled ?_
  rw [debit_bump, debit_modDebit_self]
  refine (List.getElem?_modify_eq ..).trans ?_
  rw [hi]
  rfl

theorem countCompared_compareCount (hi : (s.debit b).cards[i]? = some e) :
    CountCompared b i count e s (compareCount b i count s) := by
  unfold compareCount
  rw [hi]
  dsimp only
  refine ⟨fun above => ?_, fun below => ?_, fun equal => ?_⟩
  · rw [if_pos above]
    have G := countSignalled_adopted (count := count) hi
    have adopted : countSignals b i (bump Ctr.countsAdopted (modDebit b
        (fun d => { d with cards := d.cards.modify i fun e => { e with lastKnown := count } }) s)) =
      countSignals b i (bump Ctr.countsAdopted (modDebit b (Debit.adopts i count) s)) := rfl
    rw [adopted]
    generalize countSignals b i _ = t at G ⊢
    obtain ⟨debit, entry, places, shown, others, rest⟩ := G
    rw [debit_bump, debit_modDebit_self] at debit places
    refine ⟨debit, entry, fun j hj => ?_, by rw [rest]; rfl, fun x hx => ?_, ?_⟩
    · exact (places j hj).trans (List.getElem?_modify_ne _ _ hj.symm)
    · obtain ⟨odebit, oline⟩ := others x hx
      exact ⟨odebit.trans (debit_modDebit_ne hx (Debit.adopts i count) s), oline⟩
    · exact shown.congr Iff.rfl Iff.rfl rfl rfl rfl rfl
  · rw [if_neg (Nat.lt_asymm below), if_pos below]
    exact countFault_countFault hi
  · rw [if_neg equal.not_gt, if_neg equal.not_lt]

/-! ## Late resolution (R111) -/

theorem confirmedUnits_of_le {before n : Nat} (hb : before ≤ count) (hn : count ≤ before + n) :
    confirmedUnits count before n = some (count - before) := if_pos ⟨hb, by omega⟩

theorem confirmedUnits_outside {before n : Nat} (h : count < before ∨ before + n < count) :
    confirmedUnits count before n = none := if_neg fun ⟨hb, hn⟩ => by omega

/-- The state in which booth b's uncertain record is no more. -/
def forgotten (b : Booth) (s : State) : State := modDebit b (fun d => { d with uncertain := none }) s

theorem debit_forgotten (b : Booth) (s : State) : (forgotten b s).debit b = { s.debit b with uncertain := none } :=
  debit_modDebit_self b _ s

theorem entry_forgotten (hi : (s.debit b).cards[i]? = some e) : ((forgotten b s).debit b).cards[i]? = some e := by
  rw [debit_forgotten]
  exact hi

theorem lateResolution_inRange {u : Uncertain} {k : Nat} (ho : (s.debit b).outstanding = .none)
    (hk : confirmedUnits count u.before u.n = some k) :
    lateResolution b u count s =
      if k = 0 then confirm b u.entry k count (bump Ctr.lateResolutions (forgotten b s))
      else countSignals b u.entry (confirm b u.entry k count (bump Ctr.lateResolutions (forgotten b s))) := by
  unfold lateResolution
  rw [if_pos ho, hk]
  rfl

theorem lateResolution_outside {u : Uncertain} (ho : (s.debit b).outstanding = .none)
    (hk : confirmedUnits count u.before u.n = none) :
    lateResolution b u count s = countFault b u.entry (forgotten b s) := by
  unfold lateResolution
  rw [if_pos ho, hk]
  rfl

theorem lateResolution_drops {u : Uncertain} (ho : (s.debit b).outstanding ≠ .none) :
    lateResolution b u count s = compareCount b u.entry count (bump Ctr.uncertainFinals (forgotten b s)) := if_neg ho

/-- The record is resolved by a count in its range: units are confirmed late and shown when there are any (R111). -/
theorem lateResolution_confirms {u : Uncertain} (hi : (s.debit b).cards[u.entry]? = some e)
    (ho : (s.debit b).outstanding = .none) (hb : u.before ≤ count) (hn : count ≤ u.before + u.n) :
    Confirms b u.entry (count - u.before) count e (forgotten b s) (lateResolution b u count s)
      ∧ Shown (1 ≤ count - u.before) b u.entry count e s (lateResolution b u count s) := by
  have hi' : ((bump Ctr.lateResolutions (forgotten b s)).debit b).cards[u.entry]? = some e := entry_forgotten hi
  have hu : ((forgotten b s).debit b).uncertain = none := by rw [debit_forgotten]
  have C : Confirms b u.entry (count - u.before) count e (forgotten b s)
      (confirm b u.entry (count - u.before) count (bump Ctr.lateResolutions (forgotten b s))) := by
    refine .of_bump (by decide) hu (confirms_confirm hi' ?_ hu)
    rw [debit_bump, debit_forgotten]
    exact ho
  have entry : _ = some _ := (congrArg (fun d : Debit => d.cards[u.entry]?)
    (debit_confirm (k := count - u.before) (count := count) hi' hu)).trans (entry_confirmed hi' e.unitValue)
  have line : (confirm b u.entry (count - u.before) count (bump Ctr.lateResolutions (forgotten b s))).boothLine b =
      s.boothLine b := congrArg (fun l : Lines => l.booths.get b) line_confirm
  have slot : CardInSlot b e s ↔ CardInSlot b e (confirm b u.entry (count - u.before) count
      (bump Ctr.lateResolutions (forgotten b s))) := C.cardInSlot_iff.symm
  rw [lateResolution_inRange ho (confirmedUnits_of_le hb hn)]
  generalize confirm b u.entry _ count _ = t at C entry line slot ⊢
  split_ifs with none
  · exact ⟨C, shown_nothing (by omega) (congrArg BoothLine.signals line) entry rfl⟩
  · have G := countSignalled entry
    exact ⟨C.signalled entry G, G.shown.congr (iff_true_intro (by omega)) slot line.symm rfl rfl rfl⟩

/-! ## A count taken (R111, R112) -/

theorem takeCount_asked (h : (s.debit b).outstanding.ask.map Ask.entry = some i) : takeCount b i count s = s := if_pos h

theorem takeCount_unasked (h : ∀ a, (s.debit b).outstanding.ask = some a → a.entry ≠ i) :
    ¬(s.debit b).outstanding.ask.map Ask.entry = some i := by
  intro asked
  obtain ⟨a, ha, entry⟩ := Option.map_eq_some_iff.mp asked
  exact h a ha entry

theorem takeCount_late {u : Uncertain} (hi : (s.debit b).cards[i]? = some e)
    (ha : ∀ a, (s.debit b).outstanding.ask = some a → a.entry ≠ i) (hu : (s.debit b).uncertain = some u)
    (hentry : u.entry = i) (hf : e.countFault = false) : takeCount b i count s = lateResolution b u count s := by
  unfold takeCount
  dsimp only
  rw [if_neg (takeCount_unasked ha), hu, hi]
  exact if_pos ⟨hentry, hf⟩

theorem takeCount_compares (ha : ∀ a, (s.debit b).outstanding.ask = some a → a.entry ≠ i)
    (hu : ∀ u, (s.debit b).uncertain = some u → u.entry ≠ i) : takeCount b i count s = compareCount b i count s := by
  unfold takeCount
  dsimp only
  rw [if_neg (takeCount_unasked ha)]
  cases h : (s.debit b).uncertain with
  | none => rfl
  | some u => exact if_neg fun hx => hu u h hx.1

theorem countTaken_takeCount (hi : (s.debit b).cards[i]? = some e) : CountTaken b i count e s (takeCount b i count s) where
  asked a ha entry := takeCount_asked (by rw [ha]; exact congrArg some entry)
  resolved u ho hu entry hf := by
    subst entry
    have unasked : ∀ a, (s.debit b).outstanding.ask = some a → a.entry ≠ u.entry := fun a ha => by
      rw [ho] at ha
      cases ha
    rw [takeCount_late hi unasked hu rfl hf]
    refine ⟨fun hb hn => lateResolution_confirms hi ho hb hn, fun outside => ?_⟩
    rw [lateResolution_outside ho (confirmedUnits_outside outside)]
    exact countFault_countFault (entry_forgotten hi)
  dropped u a ha hne hu entry hf := by
    subst entry
    have unasked : ∀ x, (s.debit b).outstanding.ask = some x → x.entry ≠ u.entry := fun x hx => by
      rw [ha] at hx
      cases hx
      exact hne
    have asks : (s.debit b).outstanding ≠ .none := fun ho => by
      rw [ho] at ha
      cases ha
    rw [takeCount_late hi unasked hu rfl hf, lateResolution_drops asks]
    exact countCompared_compareCount (entry_forgotten hi)
  compared ha hu := by
    rw [takeCount_compares ha hu]
    exact countCompared_compareCount hi

end

end Sys2Proof.Machine
end

section
/-!
# A card accepted in a call (R9, R101, R116, R117)
-/

namespace Sys2Proof.Machine

section
variable {b : Booth} {s t j : State} {r : CardRecord} {v w l : Nat}

theorem not_cardlessCall (h : NeedsCard b s) : ¬s.cardlessCall b = true := fun hc => cardlessCall_iff.mp hc h

/-- The entry under which a card accepted by validation joins a call's list, the customer warned when it is low (R101,
R113). -/
def acceptedEntry (r : CardRecord) (v w : Nat) : CardEntry :=
  { series := r.series, serial := r.serial, face := r.face.toNat, unitValue := v, warn := w, cancelled := 0,
    lastKnown := r.cancelled.toNat, warned := decide (r.face.toNat - r.cancelled.toNat ≤ w), countFault := false }

theorem warnsAt_entryOfSlot (left : l < r.face.toNat) :
    warnsAt l (entryOfSlot r v w l) = decide (r.face.toNat - l ≤ w) := by
  simp [warnsAt, entryOfSlot, left]

theorem CardJoined.leaves {e : CardEntry} (h : CardJoined b e s t) :
    t = { s with debits := t.debits, line := t.line } := by
  rw [h.rest]

theorem CardJoined.accepted (h : CardJoined b (entryOfSlot r v w r.cancelled.toNat) s t)
    (left : r.cancelled.toNat < r.face.toNat) :
    t.debit b = { s.debit b with cards := (s.debit b).cards ++ [acceptedEntry r v w] }
      ∧ t.boothLine b =
          toldLine (if r.face.toNat - r.cancelled.toNat ≤ w then some .lowCredit else none) (s.boothLine b) := by
  have warns : warnsAt (entryOfSlot r v w r.cancelled.toNat).lastKnown (entryOfSlot r v w r.cancelled.toNat) =
      decide (r.face.toNat - r.cancelled.toNat ≤ w) := warnsAt_entryOfSlot left
  obtain ⟨debit, line, -, -⟩ := h
  rw [warns] at debit line
  refine ⟨debit, line.trans ?_⟩
  simp only [decide_eq_true_eq]

/-! ## In CARD WAIT (R7, R9) -/

/-- What a release of held digits does goes by the held digits, the Trunk Port and the map. -/
theorem heldLeft_congr (hc : (t.ctx b).held = (s.ctx b).held) (ht : t.trunk = s.trunk) :
    t.heldLeft b = s.heldLeft b := by
  rw [State.heldLeft, State.heldSent, hc, ht, State.heldLeft, State.heldSent]

theorem trunkReleased_congr (hc : (t.ctx b).held = (s.ctx b).held) (ht : t.trunk = s.trunk)
    (he : t.entry b = s.entry b) : t.trunkReleased b = s.trunkReleased b := by
  rw [State.trunkReleased, heldLeft_congr hc ht, State.heldSent, hc, ht, he, State.trunkReleased, State.heldSent]

/-- The call in CARD WAIT has been routed with the card of its slot as the entry e, its held digits released. -/
structure CardRouted (b : Booth) (e : CardEntry) (s t : State) : Prop where
  call : t.ctx b = { s.ctx b with state := .routed, digitWait := none, cardWait := none, held := s.heldLeft b }
  others : ∀ x, x ≠ b → t.ctx x = s.ctx x
  trunk : t.trunk = s.trunkReleased b
  joined : CardJoined b e s { s with debits := t.debits, line := t.line }
  rest : t = { s with
    ctxs := t.ctxs, debits := t.debits, trunk := t.trunk, line := t.line, counters := t.counters }

theorem cardRouted_enterRouted (slot : s.slot b = .valid r v w l) :
    CardRouted b (entryOfSlot r v w l) s (releaseHeld b (enterRouted b s)) := by
  have J := cardJoined_joinList slot
  unfold enterRouted
  generalize joinList b s = j at J ⊢
  have jctx : ∀ x, j.ctx x = s.ctx x := fun x => by rw [J.rest]; rfl
  have made := ctx_modCtx_self b (fun c => { c with state := .routed, digitWait := none, cardWait := none }) j
  have others : ∀ x, x ≠ b → (modCtx b (fun c => { c with state := .routed, digitWait := none, cardWait := none }) j).ctx x =
      s.ctx x := fun x hx => (ctx_modCtx_ne hx _ j).trans (jctx x)
  have H := heldReleased_releaseHeld b
    (modCtx b (fun c => { c with state := .routed, digitWait := none, cardWait := none }) j)
  generalize hm : modCtx b _ j = m at made others H ⊢
  generalize releaseHeld b m = t at H ⊢
  rw [jctx] at made
  have held : (m.ctx b).held = (s.ctx b).held := by rw [made]
  have mrest : m = { s with ctxs := m.ctxs, debits := j.debits, line := j.line } := by
    rw [← hm, J.rest]
    rfl
  have mtrunk : m.trunk = s.trunk := by rw [mrest]
  have mentry : m.entry b = s.entry b := by
    rw [← hm, J.rest]
    rfl
  have rest : t = { s with ctxs := t.ctxs, debits := j.debits, trunk := t.trunk, line := j.line, counters := t.counters } := by
    rw [H.rest, mrest]
  refine ⟨?_, fun x hx => (H.others x hx).trans (others x hx), ?_, ?_, ?_⟩
  · rw [H.call, made, heldLeft_congr held mtrunk]
  · rw [H.trunk, trunkReleased_congr held mtrunk mentry]
  · exact J.congr rfl rfl (by rw [rest]) (by rw [rest])
  · rw [rest]

/-- The credit check as the statements write it (R68). -/
theorem creditPasses_worth {p : Snapshot} (slot : s.slot b = .valid r v w l) (hp : (s.ctx b).snap = some p)
    (hc : p.cardless = false) (left : l ≤ r.face.toNat) :
    s.creditPasses b = true ↔ p.setup + s.tariff.charge p ≤ (r.face.toNat - l) * v := by
  rw [creditPasses_iff slot hp, setupCharged_card hc, ← Nat.cast_sub left, ← Nat.cast_mul, Nat.cast_le]

theorem slotBecameValid_cardWait (needs : NeedsCard b s) (hs : (s.ctx b).state = .cardWait) :
    slotBecameValid b s = creditCheckWaiting b s := by
  unfold slotBecameValid
  rw [if_neg (not_cardlessCall needs), hs]

theorem slotBecameValid_routes {p : Snapshot} (slot : s.slot b = .valid r v w l) (needs : NeedsCard b s)
    (hs : (s.ctx b).state = .cardWait) (hp : (s.ctx b).snap = some p) (left : l ≤ r.face.toNat)
    (paid : p.setup + s.tariff.charge p ≤ (r.face.toNat - l) * v) :
    CardRouted b (entryOfSlot r v w l) s (slotBecameValid b s) := by
  rw [slotBecameValid_cardWait needs hs]
  unfold creditCheckWaiting
  rw [if_pos ((creditPasses_worth slot hp (needs p hp) left).mpr paid)]
  exact cardRouted_enterRouted slot

theorem slotBecameValid_fails {p : Snapshot} (slot : s.slot b = .valid r v w l) (needs : NeedsCard b s)
    (hs : (s.ctx b).state = .cardWait) (hp : (s.ctx b).snap = some p) (left : l ≤ r.face.toNat)
    (unpaid : (r.face.toNat - l) * v < p.setup + s.tariff.charge p) :
    EndedBeforeAnswer b .credit s (slotBecameValid b s) := by
  rw [slotBecameValid_cardWait needs hs]
  unfold creditCheckWaiting
  rw [if_neg fun h => Nat.not_le.mpr unpaid ((creditPasses_worth slot hp (needs p hp) left).mp h)]
  exact endedBeforeAnswer b .credit s

/-! ## In SWAP (R116) and in ENDING (R117) -/

theorem listPlace_of_listed {series : BitVec 16} {serial : BitVec 32} {i : Nat} {e : CardEntry}
    (h : Listed b series serial i e s) : s.listPlace b (series, serial) = some i := by
  obtain ⟨found, hseries, hserial, first⟩ := h
  obtain ⟨hlt, hget⟩ := List.getElem?_eq_some_iff.mp found
  unfold State.listPlace
  rw [List.findIdx?_eq_some_iff_getElem]
  refine ⟨hlt, ?_, fun j hj => ?_⟩
  · rw [hget]
    exact decide_eq_true (Prod.ext hseries hserial)
  · intro same
    have other := first j hj _ (List.getElem?_eq_getElem (hj.trans hlt))
    exact other (Prod.mk.inj (of_decide_eq_true same))

theorem listPlace_of_unlisted {series : BitVec 16} {serial : BitVec 32} (h : Unlisted b series serial s) :
    s.listPlace b (series, serial) = none := by
  unfold State.listPlace
  rw [List.findIdx?_eq_none_iff]
  exact fun e he => decide_eq_false fun same => h e he (Prod.mk.inj same)

section
variable (slot : s.slot b = .valid r v w l) (needs : NeedsCard b s)
include slot needs

theorem slotBecameValid_swap_listed {i : Nat} {e : CardEntry} (hs : (s.ctx b).state = .swap)
    (h : Listed b r.series r.serial i e s) :
    slotBecameValid b s =
      if ((takeCount b i l s).ctx b).state = .swap then returnToSpeech b (takeCount b i l s) else takeCount b i l s := by
  unfold slotBecameValid
  rw [if_neg (not_cardlessCall needs), hs]
  dsimp only
  unfold swapOffer
  rw [slot]
  dsimp only
  rw [listPlace_of_listed h]

theorem slotBecameValid_swap_unlisted (hs : (s.ctx b).state = .swap) (h : Unlisted b r.series r.serial s) :
    slotBecameValid b s =
      if 4 ≤ (s.debit b).cards.length then bump Ctr.cardLimitRefusals (releaseCard b .cardLimit s)
      else returnToSpeech b (joinList b s) := by
  unfold slotBecameValid
  rw [if_neg (not_cardlessCall needs), hs]
  dsimp only
  unfold swapOffer
  rw [slot]
  dsimp only
  rw [listPlace_of_unlisted h]

theorem slotBecameValid_swap_joins (hs : (s.ctx b).state = .swap) (h : Unlisted b r.series r.serial s)
    (few : (s.debit b).cards.length < 4) : slotBecameValid b s = returnToSpeech b (joinList b s) := by
  rw [slotBecameValid_swap_unlisted slot needs hs h, if_neg (Nat.not_le.mpr few)]

theorem slotBecameValid_swap_full (hs : (s.ctx b).state = .swap) (h : Unlisted b r.series r.serial s)
    (many : 4 ≤ (s.debit b).cards.length) :
    slotBecameValid b s = bump Ctr.cardLimitRefusals (releaseCard b .cardLimit s) := by
  rw [slotBecameValid_swap_unlisted slot needs hs h, if_pos many]

theorem slotBecameValid_ending_listed {i : Nat} {e : CardEntry} (hs : (s.ctx b).state = .ending)
    (h : Listed b r.series r.serial i e s) : slotBecameValid b s = takeCount b i l s := by
  unfold slotBecameValid
  rw [if_neg (not_cardlessCall needs), hs]
  dsimp only
  rw [slot]
  dsimp only
  rw [listPlace_of_listed h]

theorem slotBecameValid_ending_unlisted (hs : (s.ctx b).state = .ending) (h : Unlisted b r.series r.serial s) :
    slotBecameValid b s = s := by
  unfold slotBecameValid
  rw [if_neg (not_cardlessCall needs), hs]
  dsimp only
  rw [slot]
  dsimp only
  rw [listPlace_of_unlisted h]

end

/-- A fifth card is released CARD LIMIT, and the call does not move (R116). -/
theorem releaseCard_cardLimit (slot : s.slot b = .valid r v w l) :
    (releaseCard b .cardLimit s).slot b = .refused r .cardLimit .eject
      ∧ (releaseCard b .cardLimit s).ctx b = s.ctx b ∧ (releaseCard b .cardLimit s).debit b = s.debit b := by
  unfold releaseCard
  rw [slot]
  dsimp only
  rw [if_pos rfl, postSignal_eq, postCardAction_eq]
  exact ⟨slot_setSlot_self b _ s, rfl, rfl⟩

end

end Sys2Proof.Machine
end

section
/-!
# A card that leaves its slot (R15, R88, R115, R119)
-/

namespace Sys2Proof.Machine

section
variable {b : Booth} {s : State} {m : Bool} {r : CardRecord} {v w l : Nat} {current : Bool}

/-! ## What the call makes of it -/

theorem slotLeftValid_unheard
    (h : (s.ctx b).state = .free ∨ (s.ctx b).state = .dialling ∨ (s.ctx b).state = .cardWait
      ∨ (s.ctx b).state = .swap ∨ ¬NeedsCard b s) : slotLeftValid b current s = s := by
  unfold slotLeftValid
  split
  · rfl
  next needs =>
    rcases h with h | h | h | h | h
    · rw [h]
    · rw [h]
    · rw [h]
    · rw [h]
    · exact absurd (cardlessCall_iff.mpr h) needs

theorem slotLeftValid_routed (needs : NeedsCard b s) (hs : (s.ctx b).state = .routed) :
    slotLeftValid b current s = endBeforeAnswer b .cardRemoved s := by
  unfold slotLeftValid
  rw [if_neg (not_cardlessCall needs), hs]

theorem slotLeftValid_speech (needs : NeedsCard b s) (hs : (s.ctx b).state = .speech) :
    slotLeftValid b true s =
      bump Ctr.swapEntries (modCtx b (fun c => swapped c s.now s.mgmt.limits.swapWindow .cardRemoved) s) := by
  unfold slotLeftValid
  rw [if_neg (not_cardlessCall needs), hs]
  exact enterSwap_speech .cardRemoved hs

theorem slotLeftValid_ending (needs : NeedsCard b s) (hs : (s.ctx b).state = .ending) :
    slotLeftValid b true s = modDebit b (fun d => { d with cardLeft := true }) s := by
  unfold slotLeftValid
  rw [if_neg (not_cardlessCall needs), hs]
  rfl

/-- A card that was not the call's current one may go (R115, R119). -/
theorem slotLeftValid_notCurrent (hs : (s.ctx b).state = .speech ∨ (s.ctx b).state = .ending) :
    slotLeftValid b false s = s := by
  unfold slotLeftValid
  split
  · rfl
  · rcases hs with hs | hs <;> rw [hs] <;> rfl

theorem slot_slotLeftValid (b : Booth) (current : Bool) (s : State) (x : Booth) :
    (slotLeftValid b current s).slot x = s.slot x := by
  unfold slotLeftValid
  split
  · rfl
  · split
    · rw [(endedBeforeAnswer b .cardRemoved s).rest]
      rfl
    · split
      · unfold enterSwap
        split <;> rfl
      · rfl
    · split <;> rfl
    · rfl

/-! ## The slot emptied (R88) -/

theorem emptySlotReported_valid (hs : s.slot b = .valid r v w l) :
    emptySlotReported b s = slotLeftValid b (s.currentCard b).isSome (setSlot b .empty s) := by
  unfold emptySlotReported
  rw [hs]

theorem emptySlotReported_refused {reason : CardReason} {action : StopAction} (hs : s.slot b = .refused r reason action) :
    emptySlotReported b s = withdrawCardAction b (setSlot b .empty s) := by
  unfold emptySlotReported
  rw [hs]

theorem slot_emptySlotReported (b : Booth) (s : State) : (emptySlotReported b s).slot b = .empty := by
  cases hs : s.slot b with
  | empty =>
    unfold emptySlotReported
    rw [hs]
    exact hs
  | valid r v w l =>
    rw [emptySlotReported_valid hs, slot_slotLeftValid]
    exact slot_setSlot_self b _ s
  | refused r reason action =>
    rw [emptySlotReported_refused hs]
    exact slot_setSlot_self b _ s

/-- An action that has not been sent is withdrawn (R88, R135). -/
theorem withdrawCardAction_unsent (h : NoActionWaits b s) :
    withdrawCardAction b s = modBoothLine b (fun l => { l with cardAction := none }) s := by
  have unsent := noActionWaits_behind h
  have next : (s.boothLine b).cardNext = none := h.1
  unfold withdrawCardAction
  dsimp only
  rw [(Bool.or_eq_false_iff.mp unsent).1]
  refine modBoothLine_congr ?_
  rw [if_neg (by decide), ← next]

/-! ## The events (R82, R88) -/

theorem cardOutEvent_empty (hs : s.slot b = .empty) : cardOutEvent b s = s := by
  unfold cardOutEvent
  rw [hs]

theorem cardOutEvent_occupied (hs : s.slot b ≠ .empty) :
    cardOutEvent b s = emptySlotReported b (bump Ctr.cardsOut s) := by
  unfold cardOutEvent
  cases h : s.slot b with
  | empty => exact absurd h hs
  | valid r v w l => rfl
  | refused r reason action => rfl

/-- A VALID card goes: the call is told whether it was its current one. -/
theorem cardOutEvent_valid (hs : s.slot b = .valid r v w l) :
    cardOutEvent b s = slotLeftValid b (s.currentCard b).isSome (setSlot b .empty (bump Ctr.cardsOut s)) :=
  (cardOutEvent_occupied (by rw [hs]; nofun)).trans (emptySlotReported_valid (s := bump Ctr.cardsOut s) hs)

/-- Another card at an occupied slot has the old one give way (R82). -/
theorem cardInEvent_replaces (hs : s.slot b ≠ .empty)
    (other : m = false ∨ ∀ x v w l, s.slot b = .valid x v w l → ¬(x.series = r.series ∧ x.serial = r.serial)) :
    cardInEvent b m r s = judgeCard b r (emptySlotReported b (bump Ctr.unpairedCardsIn (bump Ctr.cardsIn s))) := by
  unfold cardInEvent
  dsimp only
  rw [slot_bump]
  cases h : s.slot b with
  | empty => exact absurd h hs
  | refused x reason action => rfl
  | valid x v w l =>
    refine if_neg fun same => ?_
    obtain ⟨marked, identity⟩ := Bool.and_eq_true_iff.mp same
    rcases other with unmarked | other
    · rw [unmarked] at marked
      cases marked
    · exact other x v w l h (Prod.mk.inj (of_decide_eq_true identity))

end

end Sys2Proof.Machine
end

section
open Sys2Proof Sys2Proof.Machine

/-- Settles O46: the first check that fails decides the refusal (`earlyChecks_known` and its companions); a card that
passes them is judged by the state of its call (`slotBecameValid_routes` and its companions), with its count taken as
`countTaken_takeCount` says; a card that leaves is judged likewise (`slotLeftValid_routed` and its companions). -/
theorem cardInIsValidated : Obligations.CardInIsValidated := by
  refine ⟨?_, ?_, fun s b m r => ⟨cardInEvent_empty m, cardOutEvent_occupied, slot_emptySlotReported b s,
    cardInEvent_replaces⟩, ?_⟩
  · intro s b m r empty free waits health t shown refused
    have takes : TakesWork b s := takesWork_of_inService health
    have judged : ∀ {x sig a}, SlotJudged b x sig a s t →
        t.slot b = x ∧ shown sig ∧ (t.boothLine b).cardAction = a.or (s.boothLine b).cardAction :=
      fun h => ⟨h.slot, h.signals takes, h.action takes waits⟩
    have early : ∀ {reason}, s.mgmt.service ≠ .outOfService → s.earlyChecks r = .inl reason → refused reason :=
      fun hs hr => judged (slotJudged_early m empty hs hr)
    refine ⟨fun hs => judged ((judgeCard_outOfService (s := bump Ctr.cardsIn s) hs).cardIn m empty),
      fun hs check => early hs (earlyChecks_bad fun good => check good.1),
      fun hs _ unsound => early hs (earlyChecks_bad fun good => unsound good.2),
      fun hs check sound unknown => early hs (earlyChecks_unknown ⟨check, sound⟩ unknown), ?_, ?_⟩
    · intro k hs check sound known
      have good : GoodRecord r := ⟨check, sound⟩
      refine ⟨fun withdrawn => early hs (earlyChecks_withdrawn good known withdrawn),
        fun active expired => early hs (earlyChecks_expired good known active expired),
        fun active date spent => early hs (earlyChecks_empty good known active date spent),
        fun active date left => ⟨fun unlisted => ?_, fun x hx hseries hserial unique => ?_⟩⟩
      · have passes := earlyChecks_passes good known active date left
        have accepted := judged
          ((judgeCard_idle (s := bump Ctr.cardsIn s) hs (verdict_of_unlisted passes unlisted) free).cardIn m empty)
        rwa [shownUnits_of_le left.le] at accepted
      · obtain ⟨i, found⟩ := find_of_unique hx hseries hserial unique
        have stopped := verdict_of_listed (earlyChecks_passes good known active date left) found
        obtain ⟨slot, told, action⟩ := judged ((judgeCard_refused (s := bump Ctr.cardsIn s) hs stopped).cardIn m empty)
        refine ⟨slot, told, action.trans ?_, ?_⟩
        · cases x.action <;> rfl
        · exact (congrArg (fun u : State => u.mgmt.notices.waiting.getLsbD 4) (cardInEvent_empty m empty)).trans
            (judgeCard_stopMatch (s := bump Ctr.cardsIn s) hs stopped)
    · obtain ⟨x, sig, a, h⟩ := exists_slotJudged (r := r) m empty free
      have rest : t = _ := h.rest
      refine ⟨?_, fun y hy => ⟨h.others y hy, ?_⟩, ?_, ?_, ?_, ?_⟩ <;> rw [rest] <;> rfl
  · intro s b m r v w empty acceptable t back low entry warned
    have run : t = bump Ctr.cardsAccepted (slotBecameValid b (cardAdmitted b r v w (bump Ctr.cardsIn s))) :=
      (cardInEvent_empty m empty).trans
        (judgeCard_accepted (s := bump Ctr.cardsIn s) acceptable.1 (verdict_accepted acceptable))
    have left : r.cancelled.toNat < r.face.toNat := acceptable.2.2.2.2.1
    have line := boothLine_cardAdmitted b r v w (bump Ctr.cardsIn s)
    have others : ∀ x, x ≠ b → _ := fun x hx => cardAdmitted_ne hx r v w (bump Ctr.cardsIn s)
    have rest := cardAdmitted_rest b r v w (bump Ctr.cardsIn s)
    have slot := slot_cardAdmitted b r v w (bump Ctr.cardsIn s)
    rw [shownUnits_of_le left.le] at line
    refine ⟨_, _, run, by rw [rest]; rfl, slot, fun takes => line.trans (toldLine_takes _ (not_or.mpr takes)),
      fun busy => line.trans (if_pos (by_contra fun h => busy (not_or.mp h))), others, ?_⟩
    generalize cardAdmitted b r v w (bump Ctr.cardsIn s) = s0 at rest slot line others ⊢
    generalize s0.card.slots = slots, s0.line.booths = booths, s0.counters = counters at rest
    subst rest
    refine ⟨fun unheard => ?_, ?_, ?_, ?_⟩
    · exact slotBecameValid_unheard unheard
    · intro p needs hs hp due worth ch sent held
      refine ⟨fun paid => ?_, fun unpaid => ?_⟩
      · have R := slotBecameValid_routes slot needs hs hp left.le paid
        obtain ⟨debit, told⟩ := R.joined.accepted left
        refine ⟨R.call, debit, R.trunk, told, fun x hx => ?_, R.rest⟩
        obtain ⟨odebit, oline⟩ := R.joined.others x hx
        exact ⟨R.others x hx, odebit, oline.trans (others x hx).2⟩
      · have E := slotBecameValid_fails slot needs hs hp left.le unpaid
        exact ⟨E, by rw [E.rest]; exact slot⟩
    · intro needs hs
      refine ⟨fun i e listed => ⟨_, countTaken_takeCount listed.1, fun swap => ?_, fun moved => ?_⟩,
        fun unlisted few => ?_, fun unlisted many => ?_⟩
      · rw [slotBecameValid_swap_listed slot needs hs listed, if_pos swap]
        exact unitsChecked_unitsDue b _
      · rw [slotBecameValid_swap_listed slot needs hs listed, if_neg moved]
      · rw [slotBecameValid_swap_joins slot needs hs unlisted few]
        have joined := cardJoined_joinList slot
        obtain ⟨debit, told⟩ := joined.accepted left
        refine ⟨_, unitsChecked_unitsDue b _, debit, told, joined.leaves, fun x hx => ?_⟩
        obtain ⟨odebit, oline⟩ := joined.others x hx
        exact ⟨odebit, oline.trans (others x hx).2⟩
      · rw [slotBecameValid_swap_full slot needs hs unlisted many]
        exact releaseCard_cardLimit slot
    · intro needs hs
      refine ⟨fun i e listed => ?_, slotBecameValid_ending_unlisted slot needs hs⟩
      rw [slotBecameValid_ending_listed slot needs hs listed]
      exact countTaken_takeCount listed.1
  · intro s b m t gone
    refine ⟨cardOutEvent_empty, fun r reason action hs waits => ?_, fun r v w l hs => ?_⟩
    · have run : t = withdrawCardAction b gone :=
        (cardOutEvent_occupied (by rw [hs]; nofun)).trans (emptySlotReported_refused (s := bump Ctr.cardsOut s) hs)
      exact run.trans (withdrawCardAction_unsent waits)
    · have run : t = slotLeftValid b (s.currentCard b).isSome gone := cardOutEvent_valid hs
      clear_value t
      subst run
      refine ⟨slotLeftValid_unheard (s := gone), fun needs routed => ?_,
        fun needs current => ⟨fun speech => ?_, fun ends => ?_⟩,
        fun none hs => ?_⟩
      · rw [slotLeftValid_routed (s := gone) needs routed]
        exact endedBeforeAnswer b .cardRemoved gone
      · rw [Option.isSome_iff_ne_none.mpr current]
        exact slotLeftValid_speech (s := gone) needs speech
      · rw [Option.isSome_iff_ne_none.mpr current]
        exact slotLeftValid_ending (s := gone) needs ends
      · rw [none]
        exact slotLeftValid_notCurrent (s := gone) hs

end


section
/-!
# A call not yet answered owes nothing (R69, R71)

Only a tick and the answer charge a call. The moves of the books allow a tick in any state of a call, so that an
unanswered call stands uncharged is followed here through the operations themselves.
-/

namespace Sys2Proof.Machine

/-- No charge stands on the account of a call not yet answered. -/
def Account.Uncharged (a : Account) : Prop :=
  a.state.preAnswer = true → a.charged = 0 ∧ a.debtSaturated = false ∧ a.chargeSaturated = false

/-- No unanswered call is charged. -/
def Books.Uncharged (B : Books) : Prop := ∀ b, (B.account b).Uncharged

variable {b : Booth} {s : State}

theorem Books.Uncharged.set {B : Books} {a : Account} (h : B.Uncharged) (ha : a.Uncharged) : (B.set b a).Uncharged := by
  intro x
  by_cases hx : x = b
  · subst hx
    rwa [Books.set_account_self]
  · rw [Books.set_account_ne hx]
    exact h x

/-- An account that keeps its state and its charges, or whose call is answered or over, stays uncharged. -/
theorem Books.Uncharged.of_set {t : State} {a : Account} (h : s.books.Uncharged) (k : t.books = s.books.set b a)
    (ha : a.state.preAnswer = true → (s.ctx b).state.preAnswer = true
      ∧ (a.charged, a.debtSaturated, a.chargeSaturated)
          = ((s.debit b).charged, (s.debit b).debtSaturated, (s.debit b).chargeSaturated)) : t.books.Uncharged := by
  rw [k]
  refine h.set fun unanswered => ?_
  obtain ⟨before, same⟩ := ha unanswered
  obtain ⟨charged, debt, charge⟩ := h b before
  simp only [Prod.mk.injEq] at same
  obtain ⟨hc, hd, hs⟩ := same
  exact ⟨hc.trans charged, hd.trans debt, hs.trans charge⟩

theorem Books.Uncharged.of_books {t : State} (h : s.books.Uncharged) (k : t.books = s.books) : t.books.Uncharged := by
  rwa [k]

theorem uncharged_modDebit {f : Debit → Debit} (h : s.books.Uncharged)
    (hf : ∀ d, ((f d).charged, (f d).debtSaturated, (f d).chargeSaturated)
      = (d.charged, d.debtSaturated, d.chargeSaturated)) : (modDebit b f s).books.Uncharged :=
  h.of_set (books_modDebit f) fun unanswered => ⟨unanswered, hf _⟩

theorem uncharged_modCtx {f : Ctx → Ctx} (h : s.books.Uncharged)
    (hf : (f (s.ctx b)).state.preAnswer = true → (s.ctx b).state.preAnswer = true) :
    (modCtx b f s).books.Uncharged :=
  h.of_set (books_modCtx f) fun unanswered => ⟨hf unanswered, rfl⟩

theorem Books.Uncharged.foldl {β : Type} {f : State → β → State}
    (hf : ∀ t x, t.books.Uncharged → (f t x).books.Uncharged) (l : List β) (h : s.books.Uncharged) :
    (l.foldl f s).books.Uncharged := foldl_closed hf l h

theorem Books.Uncharged.forBooths {p : Booth → Bool} {f : Booth → State → State}
    (hf : ∀ b t, t.books.Uncharged → (f b t).books.Uncharged) (h : s.books.Uncharged) :
    (Machine.forBooths p f s).books.Uncharged :=
  Books.Uncharged.foldl (fun t b ht => by
    split
    · exact hf b t ht
    · exact ht) _ h

/-! ## The ends of calls (R11, R16 to R20, R22) -/

@[simp] theorem uncharged_setSlot (x : CardSlot) (h : s.books.Uncharged) : (setSlot b x s).books.Uncharged :=
  h.of_set (books_setSlot x) fun unanswered => ⟨unanswered, rfl⟩

@[simp] theorem uncharged_releaseCard (reason : CardReason) (h : s.books.Uncharged) :
    (releaseCard b reason s).books.Uncharged :=
  h.of_set (books_releaseCard reason) fun unanswered => ⟨unanswered, rfl⟩

@[simp] theorem uncharged_endBeforeAnswer (cause : EndCause) (h : s.books.Uncharged) :
    (endBeforeAnswer b cause s).books.Uncharged := h.of_set (books_endBeforeAnswer cause) nofun

@[simp] theorem uncharged_complete (eject : Bool) (h : s.books.Uncharged) : (complete b eject s).books.Uncharged :=
  h.of_set (books_complete eject) nofun

@[simp] theorem uncharged_postCancel (i : Nat) (e : CardEntry) (n : Nat) (final : Bool) (h : s.books.Uncharged) :
    (postCancel b i e n final s).books.Uncharged :=
  h.of_set (books_postCancel i e n final) fun unanswered => ⟨unanswered, rfl⟩

@[simp] theorem uncharged_settled (h : s.books.Uncharged) : (settled b s).books.Uncharged := by simp [settled, h]

@[simp] theorem uncharged_finalTest (h : s.books.Uncharged) : (finalTest b s).books.Uncharged := by
  unfold finalTest
  dsimp only
  repeat' split
  all_goals simp [h]

@[simp] theorem uncharged_beginSettle (h : s.books.Uncharged) : (beginSettle b s).books.Uncharged := by
  unfold beginSettle
  split <;> simp [h]

@[simp] theorem uncharged_settleOn (final : Bool) (h : s.books.Uncharged) : (settleOn b final s).books.Uncharged := by
  unfold settleOn
  split <;> simp [h]

@[simp] theorem uncharged_ending (cause : EndCause) (h : s.books.Uncharged) : (ending b cause s).books.Uncharged :=
  h.of_set (books_ending cause) nofun

@[simp] theorem uncharged_enterEnding (cause : EndCause) (h : s.books.Uncharged) :
    (enterEnding b cause s).books.Uncharged := by
  unfold enterEnding
  split
  · exact uncharged_beginSettle (uncharged_ending cause h)
  · exact h

@[simp] theorem uncharged_makeUncertain (q : Ask) (report : Bool) (h : s.books.Uncharged) :
    (makeUncertain b q report s).books.Uncharged :=
  h.of_set (books_makeUncertain q report) fun unanswered => ⟨unanswered, rfl⟩

@[simp] theorem uncharged_dropOutstanding (report : Bool) (h : s.books.Uncharged) :
    (dropOutstanding b report s).books.Uncharged := by
  unfold dropOutstanding
  split <;> simp [h]

@[simp] theorem uncharged_cutShort (h : s.books.Uncharged) : (cutShort b s).books.Uncharged := by simp [cutShort, h]

@[simp] theorem uncharged_endForHealth (cause : EndCause) (h : s.books.Uncharged) :
    (endForHealth b cause s).books.Uncharged := by
  unfold endForHealth
  dsimp only
  rw [books_modCtx_kept (f := fun c => { c with hookOff := false }) (fun _ => rfl) fun _ => rfl]
  split_ifs
  · exact uncharged_endBeforeAnswer cause h
  · exact uncharged_cutShort (uncharged_ending cause h)
  · exact uncharged_cutShort h
  · exact h

@[simp] theorem uncharged_endForReset (cause : EndCause) (h : s.books.Uncharged) :
    (endForReset cause b s).books.Uncharged := by
  have emptied (t : State) (ht : t.books.Uncharged) :
      (modCtx b (fun c => { c.toFree with hookOff := false }) (modDebit b (fun _ => Debit.reset) t)).books.Uncharged :=
    ht.of_set (b := b) (a := (t.books.account b).emptied .free) (by simp [books_modCtx, books_modDebit]; rfl) nofun
  unfold endForReset
  dsimp only
  refine emptied _ ?_
  split_ifs <;> simp [h]

/-! ## The Debit Unit (R71 to R76, R104 to R117) -/

@[simp] theorem uncharged_enterSwap (cause : EndCause) (h : s.books.Uncharged) :
    (enterSwap b cause s).books.Uncharged := by
  unfold enterSwap
  split
  · rw [books_bump]
    exact uncharged_modCtx h nofun
  · exact h

@[simp] theorem uncharged_exhaust (h : s.books.Uncharged) : (exhaust b s).books.Uncharged := by
  simp [exhaust, -books_releaseCard, h]

@[simp] theorem uncharged_unitsDue (h : s.books.Uncharged) : (unitsDue b s).books.Uncharged := by
  unfold unitsDue
  dsimp only
  repeat' split
  all_goals simp [h]

@[simp] theorem uncharged_confirm (i k count : Nat) (h : s.books.Uncharged) : (confirm b i k count s).books.Uncharged :=
  h.of_set (books_confirm i k count) fun unanswered => ⟨unanswered, rfl⟩

@[simp] theorem uncharged_clearOutstanding (h : s.books.Uncharged) : (clearOutstanding b s).books.Uncharged :=
  uncharged_modDebit h fun _ => rfl

@[simp] theorem uncharged_goOn (final : Bool) (h : s.books.Uncharged) : (goOn b final s).books.Uncharged := by
  unfold goOn
  split <;> simp [h]

@[simp] theorem uncharged_countFault (i : Nat) (h : s.books.Uncharged) : (countFault b i s).books.Uncharged := by
  have faulted : (modDebit b (fun d => { d with
      outstanding := .none, cards := d.cards.modify i fun e => { e with countFault := true } }) s).books.Uncharged :=
    uncharged_modDebit h fun _ => rfl
  unfold countFault
  dsimp only
  split_ifs <;> simp [faulted]

@[simp] theorem uncharged_countReply (q : Ask) (count : Nat) (h : s.books.Uncharged) :
    (countReply b q count s).books.Uncharged := by
  have confirmed (k : Nat) : (confirm b q.entry k count (clearOutstanding b s)).books.Uncharged := by simp [h]
  unfold countReply
  split
  · dsimp only
    split_ifs <;> simp [confirmed]
  · exact uncharged_countFault _ h

@[simp] theorem uncharged_writeErrorReply (q : Ask) (count : Nat) (h : s.books.Uncharged) :
    (writeErrorReply b q count s).books.Uncharged := by
  unfold writeErrorReply
  split
  next k _ =>
    have confirmed : (confirm b q.entry k count (clearOutstanding b s)).books.Uncharged := by simp [h]
    dsimp only
    generalize hu : (if (confirm b q.entry k count (clearOutstanding b s)).slotHolds b q.entry = true then _ else _) = u
    have released : u.books.Uncharged := by
      rw [← hu]
      split
      · exact uncharged_releaseCard _ confirmed
      · exact confirmed
    split
    · exact uncharged_enterSwap _ released
    · exact uncharged_settleOn _ released
    · exact released
  · exact uncharged_countFault _ h

@[simp] theorem uncharged_cardGone (final : Bool) (h : s.books.Uncharged) : (cardGone b final s).books.Uncharged := by
  unfold cardGone
  split <;> simp [h]

@[simp] theorem uncharged_noCardReply (q : Ask) (h : s.books.Uncharged) : (noCardReply b q s).books.Uncharged :=
  have cleared : (clearOutstanding b s).books.Uncharged := uncharged_clearOutstanding h
  uncharged_cardGone q.final (s := bump Ctr.noCardReplies _) cleared

@[simp] theorem uncharged_uncertainReply (q : Ask) (h : s.books.Uncharged) : (uncertainReply b q s).books.Uncharged :=
  uncharged_cardGone q.final (uncharged_makeUncertain q true h)

@[simp] theorem uncharged_missedCancel (q : Ask) (h : s.books.Uncharged) : (missedCancel b q s).books.Uncharged := by
  have verifies : (modDebit b (fun d => { d with outstanding := .verify q }) s).books.Uncharged :=
    uncharged_modDebit h fun _ => rfl
  simp [missedCancel, verifies]

@[simp] theorem uncharged_debitOutcome (reply : Option BoothReply) (h : s.books.Uncharged) :
    (debitOutcome b reply s).books.Uncharged := by
  unfold debitOutcome
  split
  · exact h
  next q _ =>
    split
    · exact uncharged_countReply q _ h
    · exact uncharged_writeErrorReply q _ h
    · exact uncharged_noCardReply q h
    · exact uncharged_noCardReply q h
    · exact uncharged_missedCancel q h
  next q _ =>
    split
    · split
      · dsimp only
        split
        · exact uncharged_countReply q _ (s := bump Ctr.verifiesConfirmed s) h
        · exact uncharged_countReply q _ h
      · exact uncharged_uncertainReply q h
    · exact h
    · exact uncharged_uncertainReply q h
    · exact h

@[simp] theorem uncharged_compareCount (i count : Nat) (h : s.books.Uncharged) :
    (compareCount b i count s).books.Uncharged := by
  unfold compareCount
  repeat' split
  all_goals simp [h]

@[simp] theorem uncharged_lateResolution (u : Uncertain) (count : Nat) (h : s.books.Uncharged) :
    (lateResolution b u count s).books.Uncharged := by
  have forgotten : (modDebit b (fun d => { d with uncertain := none }) s).books.Uncharged :=
    uncharged_modDebit h fun _ => rfl
  have confirmed (k : Nat) : (confirm b u.entry k count (bump Ctr.lateResolutions
      (modDebit b (fun d => { d with uncertain := none }) s))).books.Uncharged :=
    uncharged_confirm _ _ _ (s := bump Ctr.lateResolutions _) forgotten
  unfold lateResolution
  dsimp only
  split
  · split
    · split
      · exact confirmed _
      · simp [confirmed]
    · exact uncharged_countFault _ forgotten
  · exact uncharged_compareCount _ _ (s := bump Ctr.uncertainFinals _) forgotten

@[simp] theorem uncharged_takeCount (i count : Nat) (h : s.books.Uncharged) :
    (takeCount b i count s).books.Uncharged := by
  unfold takeCount
  dsimp only
  repeat' split
  all_goals simp [h]

@[simp] theorem uncharged_countAtStatus (identity : BitVec 16 × BitVec 32) (count : Nat) (h : s.books.Uncharged) :
    (countAtStatus b identity count s).books.Uncharged := by
  unfold countAtStatus
  repeat' split
  all_goals simp [h]

@[simp] theorem uncharged_joinList (h : s.books.Uncharged) : (joinList b s).books.Uncharged :=
  h.of_set books_joinList fun unanswered => ⟨unanswered, rfl⟩

@[simp] theorem uncharged_returnToSpeech (h : s.books.Uncharged) : (returnToSpeech b s).books.Uncharged := by
  have speech : (modCtx b (fun c => { c with state := .speech, swapWindow := none }) s).books.Uncharged :=
    uncharged_modCtx h nofun
  exact uncharged_unitsDue speech

@[simp] theorem uncharged_swapOffer (h : s.books.Uncharged) : (swapOffer b s).books.Uncharged := by
  unfold swapOffer
  dsimp only
  repeat' split
  · exact uncharged_returnToSpeech (uncharged_takeCount _ _ h)
  · exact uncharged_takeCount _ _ h
  · exact uncharged_releaseCard _ h
  · exact uncharged_returnToSpeech (uncharged_joinList h)
  · exact h

@[simp] theorem uncharged_timeLimitCheck (h : s.books.Uncharged) : (timeLimitCheck b s).books.Uncharged := by
  unfold timeLimitCheck
  dsimp only
  split <;> simp [h]

/-- The answer charges a call that is then in SPEECH. -/
theorem uncharged_startDebit (h : s.books.Uncharged) (answered : (s.ctx b).state = .speech) :
    (startDebit b s).books.Uncharged := by
  unfold startDebit
  dsimp only
  generalize ht : modDebit b _ s = t
  have started : t.books.Uncharged := by
    rw [← ht]
    refine h.of_set (books_modDebit _) fun unanswered => ?_
    have before : (s.ctx b).state.preAnswer = true := unanswered
    rw [answered] at before
    cases before
  exact uncharged_unitsDue (by simpa using started)

/-- A tick charges a call in SPEECH or SWAP alone. -/
theorem uncharged_tickEvent (h : s.books.Uncharged) : (tickEvent b s).books.Uncharged := by
  unfold tickEvent
  repeat' split
  next i _ metered =>
    unfold takeTick
    generalize ht : bump Ctr.ticks _ = t
    have scheduled : t.books = s.books := by
      rw [← ht]
      simp
    have charged : (chargeBalance b (chargeTotal b t)).books.Uncharged := by
      refine (scheduled ▸ h : t.books.Uncharged).of_set books_charged fun unanswered => ?_
      have before : (s.ctx b).state.preAnswer = true := preAnswer_of_eq (state_congr scheduled).symm unanswered
      rw [preAnswer_of_answered (answered_of_metered metered)] at before
      cases before
    exact uncharged_timeLimitCheck (uncharged_unitsDue charged)
  · exact h
  · exact h

/-! ## The Call Engine (R2 to R14) -/

theorem uncharged_answerEvent (h : s.books.Uncharged) : (answerEvent b s).books.Uncharged := by
  unfold answerEvent
  split
  · refine uncharged_startDebit ?_ (by simp)
    rw [books_bump]
    exact uncharged_modCtx h nofun
  · exact uncharged_endBeforeAnswer _ (s := bump Ctr.earlyAnswers s) h
  · exact uncharged_endBeforeAnswer _ (s := bump Ctr.earlyAnswers s) h
  · simp [h]
  · exact h

theorem uncharged_goesUnanswered {f : Ctx → Ctx} (h : s.books.Uncharged)
    (unanswered : (s.ctx b).state.preAnswer = true) : (modCtx b f s).books.Uncharged :=
  uncharged_modCtx h fun _ => unanswered

theorem uncharged_enterRouted (h : s.books.Uncharged) (unanswered : (s.ctx b).state.preAnswer = true) :
    (enterRouted b s).books.Uncharged :=
  uncharged_goesUnanswered (uncharged_joinList h) (preAnswer_of_eq (state_of_books books_joinList) unanswered)

theorem uncharged_creditCheckWaiting (h : s.books.Uncharged) (unanswered : (s.ctx b).state.preAnswer = true) :
    (creditCheckWaiting b s).books.Uncharged := by
  unfold creditCheckWaiting
  split
  · rw [books_releaseHeld]
    exact uncharged_enterRouted h unanswered
  · exact uncharged_endBeforeAnswer _ h

theorem uncharged_enterCardWait (h : s.books.Uncharged) (unanswered : (s.ctx b).state.preAnswer = true) (d : Digit) :
    (enterCardWait b d s).books.Uncharged := by
  unfold enterCardWait
  rw [books_postSignal, books_leaveWaiting]
  exact uncharged_goesUnanswered (by rwa [books_storeDigit])
    (preAnswer_of_eq (state_congr (books_storeDigit d)) unanswered)

theorem uncharged_takeWalk (h : s.books.Uncharged) (unanswered : (s.ctx b).state.preAnswer = true) (d : Digit)
    (o : WalkOutcome) : (takeWalk b d o s).books.Uncharged := by
  unfold takeWalk
  split
  · rw [books_forward, books_storeDigit]
    exact uncharged_goesUnanswered h unanswered
  next p common =>
    have stored : (storeLeaf b p common s).books.Uncharged := uncharged_goesUnanswered h unanswered
    have still : ((storeLeaf b p common s).ctx b).state.preAnswer = true :=
      preAnswer_of_eq (state_of_books (books_storeLeaf p common)) unanswered
    dsimp only
    split_ifs
    · rw [books_forward, books_storeDigit]
      exact uncharged_goesUnanswered stored still
    · rw [books_forward, books_storeDigit]
      exact uncharged_enterRouted stored still
    · exact uncharged_endBeforeAnswer _ stored
    · exact uncharged_enterCardWait stored still d
  · exact uncharged_endBeforeAnswer _ h
  · exact uncharged_endBeforeAnswer _ h
  · exact uncharged_endBeforeAnswer _ h

@[simp] theorem uncharged_digitEvent (d : Digit) (h : s.books.Uncharged) : (digitEvent b d s).books.Uncharged := by
  unfold digitEvent
  split
  next dialling =>
    unfold digitDialling
    split
    · exact uncharged_endBeforeAnswer _ h
    · have same : (walkStep b d s).2.books = s.books := books_walkStep d
      exact uncharged_takeWalk (by rwa [same])
        (preAnswer_of_eq (state_congr same) (preAnswer_of_eq dialling rfl)) d _
  all_goals simp [h]

/-- An admission gives the debit record the values of R69. -/
theorem uncharged_admitCall (h : s.books.Uncharged) : (admitCall b s).books.Uncharged := by
  have admitted : (admitCall b s).books = s.books.set b ((s.books.account b).emptied .dialling) := by
    simp only [admitCall, books_bump, books_queueSig, books_modRing, books_modDebit, books_modCtx,
      Books.set_account_self, Books.set_set]
    rfl
  rw [admitted]
  exact h.set fun _ => ⟨rfl, rfl, rfl⟩

@[simp] theorem uncharged_hookOffEvent (h : s.books.Uncharged) : (hookOffEvent b s).books.Uncharged := by
  have hook : (modCtx b (fun c => { c with hookOff := true }) s).books.Uncharged := by simp [h]
  unfold hookOffEvent
  dsimp only
  repeat' split
  · simp [h]
  · exact uncharged_admitCall hook
  · exact hook

@[simp] theorem uncharged_hookOnEvent (h : s.books.Uncharged) : (hookOnEvent b s).books.Uncharged := by
  unfold hookOnEvent
  dsimp only
  split <;> simp [h]

@[simp] theorem uncharged_forceClearEvent (h : s.books.Uncharged) : (forceClearEvent b s).books.Uncharged := by
  unfold forceClearEvent
  split <;> simp [h]

theorem uncharged_clearEvent (h : s.books.Uncharged) : (clearEvent b s).books.Uncharged := by
  unfold clearEvent
  split_ifs <;> simp [h]

/-! ## The Card Unit (R82 to R91) -/

@[simp] theorem uncharged_slotBecameValid (h : s.books.Uncharged) : (slotBecameValid b s).books.Uncharged := by
  unfold slotBecameValid
  split
  · exact h
  · split
    next cardWait => exact uncharged_creditCheckWaiting h (preAnswer_of_eq cardWait rfl)
    · exact uncharged_swapOffer h
    · repeat' split
      all_goals simp [h]
    · exact h

@[simp] theorem uncharged_slotLeftValid (wasCurrent : Bool) (h : s.books.Uncharged) :
    (slotLeftValid b wasCurrent s).books.Uncharged := by
  unfold slotLeftValid
  repeat' split
  all_goals simp [h]

@[simp] theorem uncharged_emptySlotReported (h : s.books.Uncharged) : (emptySlotReported b s).books.Uncharged := by
  unfold emptySlotReported
  split <;> simp [h]

@[simp] theorem uncharged_judgeCard (r : CardRecord) (h : s.books.Uncharged) : (judgeCard b r s).books.Uncharged := by
  unfold judgeCard acceptCard refuseCard refuseOutOfOrder
  dsimp only
  repeat' split
  all_goals simp [h]

theorem uncharged_replaceCard (r : CardRecord) (h : s.books.Uncharged) : (replaceCard b r s).books.Uncharged :=
  uncharged_judgeCard r (uncharged_emptySlotReported (s := bump Ctr.unpairedCardsIn s) h)

theorem uncharged_cardInEvent (marker : Bool) (r : CardRecord) (h : s.books.Uncharged) :
    (cardInEvent b marker r s).books.Uncharged := by
  have heard : (bump Ctr.cardsIn s).books.Uncharged := h
  unfold cardInEvent
  dsimp only
  split
  · exact uncharged_judgeCard r heard
  · split_ifs
    · exact heard
    · exact uncharged_countAtStatus _ _ (uncharged_setSlot _ heard)
    · exact uncharged_replaceCard r heard
  · exact uncharged_replaceCard r heard

theorem uncharged_cardOutEvent (h : s.books.Uncharged) : (cardOutEvent b s).books.Uncharged := by
  unfold cardOutEvent
  split
  · exact h
  · exact uncharged_emptySlotReported (s := bump Ctr.cardsOut s) h

@[simp] theorem uncharged_readerFaultEvent (h : s.books.Uncharged) : (readerFaultEvent b s).books.Uncharged := by
  unfold readerFaultEvent enterReader
  dsimp only
  split <;> simp [h]

@[simp] theorem uncharged_enterLost (h : s.books.Uncharged) : (enterLost b s).books.Uncharged := by
  simp [enterLost, h]

@[simp] theorem uncharged_ejectOutcome (reply : BoothReply) (h : s.books.Uncharged) :
    (ejectOutcome b reply s).books.Uncharged := by
  unfold ejectOutcome emptyRefused
  repeat' split
  all_goals simp [h]

@[simp] theorem uncharged_retainOutcome (reply : BoothReply) (h : s.books.Uncharged) :
    (retainOutcome b reply s).books.Uncharged := by
  unfold retainOutcome
  repeat' split
  all_goals simp [h]

theorem uncharged_boothEvent (marker : Bool) (e : BoothEvent) (h : s.books.Uncharged) :
    (boothEvent b marker e s).books.Uncharged := by
  have hook (off : Bool) : (modCtx b (fun c => { c with hookOff := off }) s).books.Uncharged := by simp [h]
  unfold boothEvent
  cases e with
  | hookOff => cases marker with
    | true => exact hook true
    | false => exact uncharged_hookOffEvent h
  | hookOn => cases marker with
    | true => exact hook false
    | false => exact uncharged_hookOnEvent h
  | digit d => exact uncharged_digitEvent d h
  | cardIn r => exact uncharged_cardInEvent marker r h
  | cardOut => exact uncharged_cardOutEvent h
  | readerFault => exact uncharged_readerFaultEvent h

theorem uncharged_boothEvents (marker : Bool) (evs : List BoothEvent) (h : s.books.Uncharged) :
    (boothEvents b marker evs s).books.Uncharged :=
  Books.Uncharged.foldl (fun _ e ht => uncharged_boothEvent marker e ht) evs h

/-! ## The booth lines (R129 to R133) -/

theorem uncharged_handMiss (t : Transaction) (h : s.books.Uncharged) : (handMiss t s).books.Uncharged := by
  unfold handMiss
  split
  · exact uncharged_debitOutcome none (s := modBoothLine t.booth (fun l => { l with debitWork := none }) s) h
  · exact uncharged_debitOutcome none h
  · rwa [books_postTo]
  · exact h

theorem uncharged_missHealth (h : s.books.Uncharged) : (missHealth b s).books.Uncharged := by
  unfold missHealth
  dsimp only
  split
  · exact h
  · split
    · exact uncharged_enterLost (s := modBoothLine b _ s) h
    · exact h
  · exact h
  · exact h
  · exact h

theorem uncharged_closeMiss (g : Segment) (t : Transaction) (h : s.books.Uncharged) :
    (closeMiss g t s).books.Uncharged := by
  unfold closeMiss
  dsimp only
  generalize hu : bump (Ctr.misses g) _ = u
  have closed : u.books.Uncharged := by
    rw [← hu]
    simpa using h
  split_ifs
  · exact closed
  · unfold missProbe
    split
    · exact closed
    · exact uncharged_missHealth closed
  · exact uncharged_missHealth (uncharged_handMiss t closed)

theorem uncharged_garbledFrame (g : Segment) (h : s.books.Uncharged) : (garbledFrame g s).books.Uncharged := by
  unfold garbledFrame
  dsimp only
  split
  · exact uncharged_closeMiss g _ (s := bump (Ctr.garbled g) s) h
  · exact h

theorem uncharged_statusIntake (batch : Bool) (evs : List BoothEvent) (h : s.books.Uncharged) :
    (statusIntake b batch evs s).books.Uncharged := by
  have taken (f : BoothLine → BoothLine) : (boothEvents b true evs (modBoothLine b f s)).books.Uncharged :=
    uncharged_boothEvents true evs (s := modBoothLine b f s) h
  unfold statusIntake
  dsimp only
  split
  · exact taken _
  · exact uncharged_cardOutEvent (taken _)

theorem uncharged_takeBatch (batch : Bool) (evs : List BoothEvent) (h : s.books.Uncharged) :
    (takeBatch b batch evs s).books.Uncharged := by
  unfold takeBatch
  split
  · exact uncharged_boothEvents false evs (s := modBoothLine b _ s) h
  · exact h

theorem uncharged_handGood (t : Transaction) (reply : BoothReply) (h : s.books.Uncharged) :
    (handGood t reply s).books.Uncharged := by
  unfold handGood
  dsimp only
  generalize hu : clearServed t s = u
  have served : u.books.Uncharged := by
    rw [← hu]
    simpa using h
  cases reply
  case events more batch status evs =>
    cases t.request with
    | poll bit =>
      dsimp only
      split
      · rwa [books_probeReturn]
      · exact uncharged_takeBatch _ _ served
    | _ => exact uncharged_statusIntake _ _ served
  case' fail reason count => cases reason
  case fail.readerFault => exact uncharged_readerFaultEvent served
  all_goals
    cases t.request with
    | cancel n serial => exact uncharged_debitOutcome _ served
    | verify serial => exact uncharged_debitOutcome _ served
    | eject => exact uncharged_ejectOutcome _ served
    | retain serial => exact uncharged_retainOutcome _ served
    | _ => exact served

theorem uncharged_receiveReply (g : Segment) (drop tag : Byte) (reply : BoothReply) (h : s.books.Uncharged) :
    (receiveReply g drop tag reply s).books.Uncharged := by
  have closed (t : Transaction) : (goodReply g t reply s).books.Uncharged := by
    unfold goodReply
    dsimp only
    split
    · rwa [books_modSeg]
    · exact uncharged_handGood t reply (by simpa using h)
  unfold receiveReply
  split
  · split
    · exact h
    · split_ifs
      · exact closed _
      · exact uncharged_garbledFrame g h
      · exact h
  · exact uncharged_garbledFrame g h

theorem uncharged_windowExpiry (g : Segment) (h : s.books.Uncharged) : (windowExpiry g s).books.Uncharged := by
  unfold windowExpiry
  split
  · exact uncharged_closeMiss g _ (s := reach _ s) h
  · exact h

/-! ## The timers of a call and the trunk (R8, R21, R144) -/

section
variable {f : Ctx → Ctx} {i : Instant}

theorem uncharged_timerStopped (h : s.books.Uncharged) (hf : ∀ c, (f c).state = c.state) :
    (modCtx b f (reach i s)).books.Uncharged :=
  uncharged_modCtx (s := reach i s) h fun unanswered => hf _ ▸ unanswered

theorem uncharged_digitWaitExpires (h : s.books.Uncharged) : (digitWaitExpires b s).books.Uncharged := by
  unfold digitWaitExpires
  split
  · dsimp only
    split
    · exact uncharged_endBeforeAnswer _ (uncharged_timerStopped h fun _ => rfl)
    · exact uncharged_timerStopped h fun _ => rfl
  · exact h

theorem uncharged_cardWaitExpires (h : s.books.Uncharged) : (cardWaitExpires b s).books.Uncharged := by
  unfold cardWaitExpires
  split
  · dsimp only
    split
    · exact uncharged_endBeforeAnswer _ (uncharged_timerStopped h fun _ => rfl)
    · exact uncharged_timerStopped h fun _ => rfl
  · exact h

theorem uncharged_swapWindowExpires (h : s.books.Uncharged) : (swapWindowExpires b s).books.Uncharged := by
  unfold swapWindowExpires
  split
  · dsimp only
    split
    · exact uncharged_enterEnding _ (uncharged_timerStopped h fun _ => rfl)
    · exact uncharged_timerStopped h fun _ => rfl
  · exact h

end

theorem uncharged_answerFrame (ch : Channel) (h : s.books.Uncharged) : (answerFrame ch s).books.Uncharged := by
  unfold answerFrame
  dsimp only
  split
  · exact uncharged_answerEvent (s := bump Ctr.answersReceived (validFrame s)) h
  · rwa [books_oweHangup]

theorem uncharged_clearFrame (ch : Channel) (h : s.books.Uncharged) : (clearFrame ch s).books.Uncharged := by
  unfold clearFrame
  dsimp only
  split
  · exact uncharged_clearEvent (s := bump Ctr.clearsReceived (validFrame s)) h
  · exact h

theorem uncharged_silenceExpiry (h : s.books.Uncharged) : (silenceExpiry s).books.Uncharged := by
  unfold silenceExpiry endUnanswered
  split
  · refine Books.Uncharged.foldl (fun t b ht => ?_) _ (by simpa using h)
    split
    · exact uncharged_endBeforeAnswer _ ht
    · exact ht
  · exact h

/-! ## The owners of the commands -/

/-- Carrying out the command charges no unanswered call. -/
def LeavesUncharged (owner : State → Carried) : Prop := ∀ s, s.books.Uncharged → (owner s).state.books.Uncharged

namespace LeavesUncharged

/-- An owner that changes nothing that the books hold of a call. -/
theorem of_account {owner : State → Carried} (h : ∀ s, (owner s).state.books.account = s.books.account) :
    LeavesUncharged owner := fun s hs b => by
  rw [h]
  exact hs b

theorem inRange {α : Type} {x : Option α} {f : α → State → Carried} (hf : ∀ a, LeavesUncharged (f a)) :
    LeavesUncharged (inRange x f) := by
  cases x with
  | none => exact fun _ h => h
  | some a => exact hf a

theorem inRange_kept {α : Type} {x : Option α} {f : α → State → Carried}
    (hf : ∀ a s, (f a s).state.books.account = s.books.account) :
    LeavesUncharged (Machine.inRange x f) := .inRange fun a => .of_account (hf a)

theorem onEnabled {args : List Byte} {f : Booth → State → Carried} (hf : ∀ b, LeavesUncharged (f b)) :
    LeavesUncharged (onEnabled args f) :=
  .inRange fun b s h => by
    split
    · exact hf b s h
    · exact h

end LeavesUncharged

section
variable {args : List Byte}

theorem uncharged_disableBooth (g : Segment) (h : s.books.Uncharged) : (disableBooth b g s).books.Uncharged := by
  have left : (orphanOpen b g s).books.Uncharged := h.of_books (books_orphanOpen g)
  unfold disableBooth
  exact uncharged_setSlot .empty (s := modBoothLine b _ (orphanOpen b g s)) left

theorem uncharged_mapEffect (old new : MapEntry) (h : s.books.Uncharged) : (mapEffect b old new s).books.Uncharged := by
  unfold mapEffect
  split
  · exact h
  · exact uncharged_disableBooth _ h
  · exact h
  · split
    · exact h
    · rw [books_enableBooth]
      exact uncharged_disableBooth _ h

theorem uncharged_boothMapOwner : LeavesUncharged (boothMapOwner args) :=
  .inRange fun (b, e) s h => by
    dsimp only
    split
    · exact h
    · exact uncharged_mapEffect _ e (s := setEntry b e s) h

theorem uncharged_forceClearBooth (b : Booth) : LeavesUncharged (forceClearBooth b) := fun s h => by
  unfold forceClearBooth
  split
  · exact h
  · exact uncharged_forceClearEvent h

theorem uncharged_resetBooths (p : Booth → Bool) (h : s.books.Uncharged) : (resetBooths p s).books.Uncharged :=
  Books.Uncharged.forBooths (fun b _ ht => uncharged_setSlot (b := b) .empty ht) h

theorem uncharged_segmentResetOwner : LeavesUncharged (segmentResetOwner args) :=
  .inRange fun g s h => by
    split
    · exact h
    · have ended : (forBooths (s.onSegment g) (endForReset .segmentReset) s).books.Uncharged :=
        Books.Uncharged.forBooths (fun _ _ ht => uncharged_endForReset _ ht) h
      have emptied := uncharged_resetBooths (s.onSegment g) (s := checkDrain _) (by rwa [books_checkDrain])
      dsimp only [carriedOut, segmentResetPart]
      unfold forBooths
      rw [books_foldl (fun t b => by split <;> simp), books_oweAll, books_withdrawSegment, books_modSeg]
      exact emptied

theorem uncharged_restartPart (h : s.books.Uncharged) : (restartPart s).books.Uncharged := by
  have ended : (forBooths (fun _ => true) (endForReset .restart) (restartManagement s)).books.Uncharged :=
    Books.Uncharged.forBooths (fun _ _ ht => uncharged_endForReset _ ht) (h.of_books books_restartManagement)
  have emptied := uncharged_resetBooths (fun _ => true) (ended.of_books (books_setCache []))
  unfold restartPart
  dsimp only
  rw [books_signalBooths, books_oweAll, books_restartTrunk, books_modSeg, books_modSeg]
  exact emptied

theorem uncharged_restartOwner : LeavesUncharged restartOwner := fun s h => by
  unfold restartOwner
  split
  · exact h
  · exact uncharged_restartPart h

theorem uncharged_takeOutBooth (b : Booth) : LeavesUncharged (takeOutBooth b) := fun s h => by
  unfold takeOutBooth
  dsimp only
  split_ifs
  · exact h
  · exact (books_enterTaken (s := s)).symm ▸ h
  · exact h

theorem uncharged_bringBack (b : Booth) : LeavesUncharged (bringBack b) := fun s h => by
  unfold bringBack
  dsimp only
  split_ifs
  · exact h
  · exact (books_postSignal (s := modBoothLine b _ s) _).symm ▸ h
  · exact h

theorem uncharged_ticketReleaseOwner : LeavesUncharged (ticketReleaseOwner args) :=
  .inRange fun n s h => by
    dsimp only [carriedOut]
    split
    · rwa [books_bump, books_bumpBy, books_bump, books_modRing]
    · rwa [books_bumpBy, books_bump, books_modRing]

theorem uncharged_clockSetOwner : LeavesUncharged (clockSetOwner args) :=
  .inRange fun c s h => by
    dsimp only [carriedOut]
    rw [books_evaluateAll, books_bump]
    exact h

theorem uncharged_serviceStartOwner : LeavesUncharged serviceStartOwner := fun s h => by
  unfold serviceStartOwner
  split
  · exact h
  · exact h
  · split
    · exact (books_signalBooths (s := setService .inService s) _ _).symm ▸ h
    · exact h

theorem uncharged_serviceStopOwner : LeavesUncharged serviceStopOwner := fun s h => by
  unfold serviceStopOwner
  split
  · exact (books_checkDrain (s := setService .draining s)).symm ▸ h
  · exact h

end

/-! ## The rows -/

theorem uncharged_takeFront {c : Cmd} {carry : State → Carried} (hc : LeavesUncharged carry) (h : s.books.Uncharged) :
    (takeFront c carry s).books.Uncharged := by
  unfold takeFront
  split
  · dsimp only
    split
    · exact h
    · rw [books_answerCommand]
      exact hc _ h
  · exact h

theorem uncharged_takeCommand {g : Group} {c : Cmd} {good : Bool} {owner : State → Carried}
    (ho : LeavesUncharged owner) (h : s.books.Uncharged) : (takeCommand g c good owner s).books.Uncharged :=
  uncharged_takeFront (fun u hu => by
    unfold checked
    split_ifs
    · exact hu
    · exact hu
    · exact ho u hu) h

theorem uncharged_controlRow {want : Option BoothAction} {c : Cmd} {owner : State → Carried}
    (ho : LeavesUncharged owner) (h : s.books.Uncharged) : (controlRow want c owner s).books.Uncharged := by
  unfold controlRow
  split
  · exact uncharged_takeCommand ho h
  · exact h

theorem Books.Uncharged.next {t u : State} (h : u.books.Uncharged)
    (he : (.next u : Host.Outcome State Fault Refusal) = .next t) : t.books.Uncharged := by
  injection he with he
  exact he ▸ h

section
variable {t : State}

/-- A row that answers a state with the books as they were. -/
theorem Books.Uncharged.next_of_books {u : State} (h : s.books.Uncharged) (hu : u.books = s.books)
    (he : (.next u : Host.Outcome State Fault Refusal) = .next t) : t.books.Uncharged :=
  (hu ▸ h : u.books.Uncharged).next he

theorem Books.Uncharged.next_takeCommand {g : Group} {c : Cmd} {good : Bool} {owner : State → Carried}
    (h : s.books.Uncharged) (ho : LeavesUncharged owner)
    (he : (.next (takeCommand g c good owner s) : Host.Outcome State Fault Refusal) = .next t) : t.books.Uncharged :=
  (uncharged_takeCommand ho h).next he

/-- A command whose owner leaves the accounts. -/
theorem Books.Uncharged.next_kept {g : Group} {c : Cmd} {good : Bool} {α : Type} {x : Option α}
    {f : α → State → Carried} (h : s.books.Uncharged) (hf : ∀ a s, (f a s).state.books.account = s.books.account)
    (he : (.next (takeCommand g c good (inRange x f) s) : Host.Outcome State Fault Refusal) = .next t) :
    t.books.Uncharged := h.next_takeCommand (.inRange_kept hf) he

theorem uncharged_execAnswer {ch : Byte} (h : s.books.Uncharged) (he : execAnswer ch s = .next t) :
    t.books.Uncharged := by
  unfold execAnswer at he
  split at he
  · exact (uncharged_answerFrame _ h).next he
  · exact h.next_of_books (books_discardFrame _) he

theorem uncharged_execClear {ch : Byte} (h : s.books.Uncharged) (he : execClear ch s = .next t) :
    t.books.Uncharged := by
  unfold execClear at he
  split at he
  · exact (uncharged_clearFrame _ h).next he
  · exact h.next_of_books (books_discardFrame _) he

theorem uncharged_execCommand {o g code : Byte} {args : List Byte} (h : s.books.Uncharged)
    (he : execCommand o g code args s = .next t) : t.books.Uncharged := by
  unfold execCommand at he
  split at he
  · exact h.next_of_books (books_commandFrame _) he
  · exact h.next_of_books (books_discardFrame _) he

theorem uncharged_powerOn (q : List Instr) : ({ State.reset with pending := q } : State).books.Uncharged := by
  intro b unanswered
  have free : (State.reset.ctx b).state.preAnswer = true := unanswered
  rw [ctx_reset] at free
  cases free

theorem uncharged_execUnknownCommandCode {o g code : Byte} {args : List Byte} (h : s.books.Uncharged)
    (he : execUnknownCommandCode o g code args s = .next t) : t.books.Uncharged := by
  refine Books.Uncharged.next ?_ he
  split
  · exact h
  · exact uncharged_takeFront (fun _ hu => hu) h

theorem uncharged_exec (h : s.books.Uncharged) : ∀ c, exec c s = .next t → t.books.Uncharged
  | .powerOn => (uncharged_powerOn s.pending).next
  | .sync => h.next_of_books books_validFrame
  | .answer _ => uncharged_execAnswer h
  | .clear _ => uncharged_execClear h
  | .command _ _ _ _ => uncharged_execCommand h
  | .trunkFrameDiscarded reason => h.next_of_books (books_discardFrame reason)
  | .silenceTimerExpiry => (uncharged_silenceExpiry h).next
  | .syncTimerExpiry => h.next_of_books books_syncExpiry
  | .frameTransmitStart => h.next_of_books books_transmitStart
  | .frameTransmitComplete => h.next_of_books books_transmitComplete
  | .holdTimerExpiry => h.next_of_books books_noticeHoldExpiry
  | .arbiterGrant g => h.next_of_books (books_arbiterTurn g)
  | .events g drop tag _ _ _ _ => (uncharged_receiveReply g drop tag _ h).next
  | .done g drop tag _ => (uncharged_receiveReply g drop tag _ h).next
  | .count g drop tag _ _ _ => (uncharged_receiveReply g drop tag _ h).next
  | .ack g drop tag => (uncharged_receiveReply g drop tag _ h).next
  | .fail g drop tag _ _ => (uncharged_receiveReply g drop tag _ h).next
  | .staleBoothFrame g drop tag reply => (uncharged_receiveReply g drop tag reply h).next
  | .boothFrameGarbled g => (uncharged_garbledFrame g h).next
  | .replyWindowExpiry g => (uncharged_windowExpiry g h).next
  | .abandonedWindowHoldExpiry g => h.next_of_books (books_windowHoldExpiry g)
  | .probeTimerExpiry _ => h.next_of_books books_probeExpiry
  | .digitWaitExpiry _ => (uncharged_digitWaitExpires h).next
  | .cardWaitExpiry _ => (uncharged_cardWaitExpires h).next
  | .swapWindowExpiry _ => (uncharged_swapWindowExpires h).next
  | .tick _ => (uncharged_tickEvent h).next
  | .timeLimit _ => (uncharged_timeLimitCheck h).next
  | .clockSecondAdvance => h.next_of_books books_clockAdvance
  | .minuteBoundary => h.next_of_books books_minuteTurn
  | .treeWrite _ _ _ => h.next_kept fun _ _ => rfl
  | .planWrite _ _ _ => h.next_kept fun _ _ => rfl
  | .cacheFence _ _ _ => h.next_kept fun _ _ => rfl
  | .classWrite _ _ _ => h.next_kept fun _ _ => rfl
  | .profileWrite _ _ _ => h.next_kept fun _ _ => rfl
  | .bandWrite _ _ _ => h.next_kept fun _ _ => rfl
  | .holidayWrite _ _ _ => h.next_kept fun _ _ => rfl
  | .seriesWrite _ _ _ => h.next_kept fun _ _ => by dsimp only; split <;> rfl
  | .stopAdd _ _ _ => h.next_kept fun _ _ => by dsimp only; split_ifs <;> rfl
  | .stopRemove _ _ _ => h.next_kept fun _ _ => by dsimp only; split <;> rfl
  | .boothMapWrite _ _ _ => h.next_takeCommand uncharged_boothMapOwner
  | .takeOut _ _ _ => (uncharged_controlRow (.onEnabled uncharged_takeOutBooth) h).next
  | .returnBooth _ _ _ => (uncharged_controlRow (.onEnabled uncharged_bringBack) h).next
  | .forceClear _ _ _ => (uncharged_controlRow (.onEnabled uncharged_forceClearBooth) h).next
  | .boothControl _ _ _ => (uncharged_controlRow (fun _ hu => hu) h).next
  | .segmentSetup _ _ _ => h.next_kept fun _ _ => congrArg Books.account (books_modSeg _ _)
  | .segmentReset _ _ _ => h.next_takeCommand uncharged_segmentResetOwner
  | .restart _ _ _ => h.next_takeCommand uncharged_restartOwner
  | .ticketFetch _ _ _ => h.next_kept fun _ _ => rfl
  | .ticketRelease _ _ _ => h.next_takeCommand uncharged_ticketReleaseOwner
  | .ringSetup _ _ _ => h.next_kept fun _ _ => rfl
  | .serviceStart _ _ _ => h.next_takeCommand uncharged_serviceStartOwner
  | .serviceStop _ _ _ => h.next_takeCommand uncharged_serviceStopOwner
  | .clockSet _ _ _ => h.next_takeCommand uncharged_clockSetOwner
  | .limitsWrite _ _ _ => h.next_kept fun _ _ => rfl
  | .faultClear _ _ _ => h.next_takeCommand (.of_account fun _ => rfl)
  | .noticeSetup _ _ _ => h.next_kept fun _ _ => rfl
  | .noticeClear _ _ _ => h.next_kept fun _ _ => rfl
  | .accessWrite _ _ _ => h.next_kept fun _ _ => rfl
  | .treeRead _ _ _ => h.next_kept fun _ _ => rfl
  | .planRead _ _ _ => h.next_kept fun _ _ => rfl
  | .classRead _ _ _ => h.next_kept fun _ _ => rfl
  | .seriesRead _ _ _ => h.next_kept fun _ _ => rfl
  | .stopProbe _ _ _ => h.next_kept fun _ _ => rfl
  | .boothRead _ _ _ => h.next_kept fun _ _ => rfl
  | .stopStatus _ _ _ => h.next_takeCommand fun _ hu => hu
  | .statusRead _ _ _ => h.next_takeCommand fun _ hu => hu
  | .faultRead _ _ _ => h.next_takeCommand fun _ hu => hu
  | .counterRead _ _ _ => h.next_kept fun _ _ => by dsimp only [carriedOut]; split <;> rfl
  | .unknownCommandCode _ _ _ _ => uncharged_execUnknownCommandCode h

/-- No step charges an unanswered call. -/
theorem uncharged_step (h : s.books.Uncharged) (he : step s = .next t) : t.books.Uncharged := by
  unfold step at he
  split at he
  · exact h.next_of_books (u := idle s) rfl he
  next c rest _ => exact uncharged_exec (s := { s with pending := rest }) h c he

end

end Sys2Proof.Machine
end

section
/-!
# Covered less charged is the balance (R121)
-/

namespace Sys2Proof.Machine

/-- While no saturation flag is set the balance is covered less charged; an unanswered call has nothing covered, nothing
asked for and nothing uncertain. -/
structure Account.Explained (a : Account) : Prop where
  balance : a.debtSaturated = false → a.chargeSaturated = false → (a.covered : Int) - (a.charged : Int) = a.p
  unanswered : a.state.preAnswer = true → a.covered = 0 ∧ a.outstanding = .none ∧ a.uncertain = none

def Books.Explained (B : Books) : Prop := ∀ b, (B.account b).Explained

theorem balanceExplained_iff {s : State} : BalanceExplained s ↔ s.books.Explained ∧ s.books.Uncharged := by
  constructor
  · refine fun h => ⟨fun b => ?_, fun b unanswered => ?_⟩
    · obtain ⟨balance, admitted⟩ := h b
      refine ⟨fun debt charge => balance ⟨debt, charge⟩, fun unanswered => ?_⟩
      obtain ⟨-, -, covered, -, asked, uncertain⟩ := admitted unanswered
      exact ⟨covered, asked, uncertain⟩
    · obtain ⟨-, charged, -, exact', -⟩ := (h b).2 unanswered
      exact ⟨charged, exact'⟩
  · rintro ⟨explained, uncharged⟩ b
    obtain ⟨balance, admitted⟩ := explained b
    refine ⟨fun exact' => balance exact'.1 exact'.2, fun unanswered => ?_⟩
    obtain ⟨covered, asked, uncertain⟩ := admitted unanswered
    obtain ⟨charged, debt, charge⟩ := uncharged b unanswered
    have p := balance debt charge
    rw [covered, charged] at p
    exact ⟨p.symm, charged, covered, ⟨debt, charge⟩, asked, uncertain⟩

namespace Account
variable {a a' : Account}

theorem Explained.not_unanswered_of_ask (ha : a.Explained) {q : Ask} (h : a.outstanding.ask = some q) :
    ¬ a.state.preAnswer = true := fun unanswered => not_asked (ha.unanswered unanswered).2.1 h

/-- Units confirmed raise covered and the balance alike. -/
theorem Explained.confirmed (ha : a.Explained) (i k : Nat) (debt : a.debtSaturated = false)
    (charge : a.chargeSaturated = false) :
    ((a.confirmed i k).covered : Int) - ((a.confirmed i k).charged : Int) = (a.confirmed i k).p := by
  have := ha.balance debt charge
  simp only [Account.confirmed]
  omega

/-- A tick that neither clamps nor saturates lowers the balance by what it charges. -/
theorem Explained.ticked (ha : a.Explained) (t : Nat) : (a.ticked t).Explained where
  balance debt charge := by
    simp only [Account.ticked, Bool.or_eq_false_iff, decide_eq_false_iff_not] at debt charge
    obtain ⟨debt, unclamped⟩ := debt
    obtain ⟨charge, unsaturated⟩ := charge
    have before := ha.balance debt charge
    have within : ¬(a.p - t < -8388608) := fun low => by
      rw [(clamps_iff a.p t).mpr low] at unclamped
      cases unclamped
    simp only [Account.ticked, lowerBalance, minBalance_eq]
    omega
  unanswered := ha.unanswered

/-- A move keeps the balance explained. -/
theorem Move.explained {B : Books} (h : a.Move B a') (ha : a.Explained) : a'.Explained := by
  cases h with
  | emptied st => exact ⟨fun _ _ => rfl, fun _ => ⟨rfl, rfl, rfl⟩⟩
  | freed => exact ⟨ha.balance, nofun⟩
  | goes samePhase => exact ⟨ha.balance, fun unanswered => ha.unanswered (samePhase.1.trans unanswered)⟩
  | asks answered =>
    refine ⟨ha.balance, fun unanswered => ?_⟩
    have before : a.state.preAnswer = true := unanswered
    rw [preAnswer_of_answered answered] at before
    cases before
  | @verifies q cancel =>
    have ask : a.outstanding.ask = some q := by rw [cancel]; rfl
    exact ⟨ha.balance, fun unanswered => (ha.not_unanswered_of_ask ask unanswered).elim⟩
  | drops =>
    refine ⟨ha.balance, fun unanswered => ?_⟩
    obtain ⟨covered, -, uncertain⟩ := ha.unanswered unanswered
    exact ⟨covered, rfl, uncertain⟩
  | recorded ask => exact ⟨ha.balance, fun unanswered => (ha.not_unanswered_of_ask ask unanswered).elim⟩
  | forgets =>
    refine ⟨ha.balance, fun unanswered => ?_⟩
    obtain ⟨covered, asked, -⟩ := ha.unanswered unanswered
    exact ⟨covered, asked, rfl⟩
  | confirmed ask => exact ⟨ha.confirmed _ _, fun unanswered => (ha.not_unanswered_of_ask ask unanswered).elim⟩
  | resolved _ record =>
    refine ⟨ha.confirmed _ _, fun unanswered => ?_⟩
    obtain ⟨-, -, none⟩ := ha.unanswered unanswered
    rw [record] at none
    cases none
  | started unanswered =>
    have covered := (ha.unanswered unanswered).1
    refine ⟨fun _ _ => ?_, nofun⟩
    simp only [Account.started, covered]
    omega
  | ticked t => exact ha.ticked t
  | _ => exact ⟨ha.balance, ha.unanswered⟩

end Account

theorem Books.Move.explained {B B' : Books} (h : B.Move B') (hB : B.Explained) : B'.Explained := by
  cases h with
  | @account b a move =>
    intro x
    by_cases hx : x = b
    · subst hx
      rw [Books.set_account_self]
      exact move.explained (hB x)
    · rw [Books.set_account_ne hx]
      exact hB x
  | classes => exact hB
  | series => exact hB
  | powerOn => exact (balanceExplained_iff.mp balanceExplained_reset).1

end Sys2Proof.Machine

section
open Sys2Proof Sys2Proof.Machine

/-- Settles O59: each move of the books keeps the balance explained (`Books.Move.explained`), and no step charges a call
not yet answered (`uncharged_step`). -/
theorem balanceIsCoveredLessCharged : Obligations.BalanceIsCoveredLessCharged := by
  intro s t hs ht
  obtain ⟨explained, uncharged⟩ := balanceExplained_iff.mp hs
  exact balanceExplained_iff.mpr
    ⟨(moves_step ht).keeps (fun _ _ move => move.explained) explained, uncharged_step uncharged ht⟩

end
end

section
/-!
# A missed CANCEL, and what a miss does to a booth's line (R108, R129, R130, R132)
-/

namespace Sys2Proof.Machine

section
variable {g : Segment} {r : Request} {b : Booth} {s : State} {tr : Transaction}

/-- A counted miss moves the line alone, unless it is the third of a SUSPECT booth (R132). -/
theorem missHealth_eq (h : ¬((s.boothLine b).health = .suspect ∧ 2 ≤ (s.boothLine b).misses)) :
    missHealth b s = modBoothLine b missedLine s := by
  unfold missHealth
  dsimp only
  cases hh : (s.boothLine b).health with
  | inService => exact modBoothLine_congr (by unfold missedLine; rw [hh])
  | suspect =>
    have few : ¬min 3 ((s.boothLine b).misses + 1) = 3 := by
      have := mt (And.intro hh) h
      omega
    dsimp only
    rw [if_neg few]
    exact modBoothLine_congr (by unfold missedLine; rw [hh])
  | reader | taken =>
    refine modBoothLine_congr ?_
    unfold missedLine
    rw [hh]
    dsimp only
    by_cases third : 2 ≤ (s.boothLine b).misses
    · rw [if_pos (by omega), if_pos third]
      simp only [BoothLine.cleared, hh]
    · rw [if_neg (by omega), if_neg third, Nat.min_eq_right (by omega)]
  | lost | disabled => exact (modBoothLine_of_fixed (by unfold missedLine; rw [hh])).symm

/-- A miss of a transaction whose outcome counts is handed on by request, then counted on the booth (R129). -/
theorem closeMiss_eq (h : OpenTo g r b s tr) (u : State) :
    closeMiss g tr u = missHealth b (handMiss tr (closedMissed g u)) := by
  unfold closeMiss
  rw [h.counts.1, h.counts.2, h.booth]
  rfl

theorem windowExpiry_eq (h : OpenTo g r b s tr) :
    windowExpiry g s = closeMiss g tr { s with now := max s.now tr.expiry } := by
  unfold windowExpiry
  rw [h.opened]
  rfl

theorem garbledFrame_eq (h : OpenTo g r b s tr) : garbledFrame g s = closeMiss g tr (bump (Ctr.garbled g) s) := by
  unfold garbledFrame
  dsimp only
  rw [show (bump (Ctr.garbled g) s).seg g = s.seg g by cases g <;> rfl, h.opened]

@[simp] theorem debit_closedMissed (g : Segment) (s : State) (x : Booth) : (closedMissed g s).debit x = s.debit x := by
  cases g <;> rfl

@[simp] theorem boothLine_closedMissed (g : Segment) (s : State) (x : Booth) :
    (closedMissed g s).boothLine x = s.boothLine x := by
  cases g <;> rfl

theorem modDebit_modBoothLine (b x : Booth) (f : Debit → Debit) (h : BoothLine → BoothLine) (s : State) :
    modDebit b f (modBoothLine x h s) = modBoothLine x h (modDebit b f s) := rfl

/-- The state a missed CANCEL leaves before the miss is counted on the booth: the VERIFY outstanding in its place, and
`work` as the booth's debit work (R108). -/
def verifyPosted (b : Booth) (a : Ask) (work : Option DebitWork) (s : State) : State :=
  bump Ctr.verifiesPosted
    (modBoothLine b (fun l => { l with debitWork := work })
      (modDebit b (fun d => { d with outstanding := .verify a }) s))

/-- Of the booth's line a posted VERIFY changes the debit work alone. -/
theorem boothLine_verifyPosted (b : Booth) (a : Ask) (work : Option DebitWork) (s : State) :
    (verifyPosted b a work s).boothLine b = { s.boothLine b with debitWork := work } := by
  unfold verifyPosted
  rw [boothLine_bump, boothLine_modBoothLine_self, boothLine_modDebit]

/-- The debit work in which a missed CANCEL of the entry ends: its VERIFY, unless the booth takes no work. -/
def verifyWork (l : BoothLine) (e : CardEntry) : Option DebitWork :=
  if l.health.takesWork then some (.verify e.serial) else none

theorem missedCancel_eq {a : Ask} {e : CardEntry} (he : (s.debit b).cards[a.entry]? = some e) :
    missedCancel b a (modBoothLine b (fun l => { l with debitWork := none }) s)
      = verifyPosted b a (verifyWork (s.boothLine b) e) s := by
  unfold missedCancel postDebit
  rw [debit_modBoothLine, he]
  dsimp only
  rw [postTo_eq, modDebit_modBoothLine, modBoothLine_modBoothLine]
  refine congrArg (bump Ctr.verifiesPosted) (modBoothLine_congr ?_)
  dsimp only [boothLine_modDebit]
  unfold verifyWork
  split <;> rfl

/-- A missed CANCEL is handed on as the VERIFY of its entry (R108, R130). -/
theorem handMiss_cancel {n : Nat} {serial : BitVec 32} {a : Ask} {e : CardEntry}
    (hr : tr.request = .cancel n serial) (hb : tr.booth = b)
    (ho : (s.debit b).outstanding = .cancel a) (he : (s.debit b).cards[a.entry]? = some e) :
    handMiss tr s = verifyPosted b a (verifyWork (s.boothLine b) e) s := by
  rw [← missedCancel_eq he]
  unfold handMiss debitOutcome
  rw [hr, hb]
  dsimp only [debit_modBoothLine]
  rw [ho]

/-- A missed CANCEL, its miss counted on the booth. The state u at the close is s with its time base or a counter
moved. -/
theorem closeMiss_cancel {n : Nat} {serial : BitVec 32} {a : Ask} {e : CardEntry} {u : State}
    (h : OpenTo g (.cancel n serial) b s tr) (hd : u.debit b = s.debit b) (hl : u.boothLine b = s.boothLine b)
    (ho : (s.debit b).outstanding = .cancel a) (he : (s.debit b).cards[a.entry]? = some e)
    (third : ¬((s.boothLine b).health = .suspect ∧ 2 ≤ (s.boothLine b).misses)) :
    closeMiss g tr u =
      modBoothLine b missedLine (verifyPosted b a (verifyWork (s.boothLine b) e) (closedMissed g u)) := by
  have debit : (closedMissed g u).debit b = s.debit b := (debit_closedMissed g u b).trans hd
  have line : (closedMissed g u).boothLine b = s.boothLine b := (boothLine_closedMissed g u b).trans hl
  rw [closeMiss_eq h, handMiss_cancel h.request h.booth (debit ▸ ho) (debit ▸ he), line]
  refine missHealth_eq ?_
  rw [boothLine_verifyPosted, line]
  exact third

theorem exec_replyWindowExpiry (g : Segment) (s : State) :
    exec (.replyWindowExpiry g) s = .next (windowExpiry g s) := rfl

theorem exec_boothFrameGarbled (g : Segment) (s : State) :
    exec (.boothFrameGarbled g) s = .next (garbledFrame g s) := rfl

theorem verifyWork_of_takesWork {e : CardEntry} (h : TakesWork b s) :
    verifyWork (s.boothLine b) e = some (.verify e.serial) :=
  if_pos ((takesWork_iff _).mpr (not_or.mpr h))

theorem verifyWork_of_not_takesWork {e : CardEntry} (h : ¬TakesWork b s) : verifyWork (s.boothLine b) e = none :=
  if_neg (fun hw => h (not_or.mp ((takesWork_iff _).mp hw)))

end

end Sys2Proof.Machine

section
open Sys2Proof Sys2Proof.Machine

/-- Settles O37: both misses close the transaction on a state that differs from s in its time base or in a counter
(`windowExpiry_eq`, `garbledFrame_eq`), and the missed CANCEL is handed on as its VERIFY (`closeMiss_cancel`). -/
theorem missedCancelBecomesVerify : Obligations.MissedCancelBecomesVerify := by
  intro s g n serial b tr a e opens out card third
  dsimp only
  have expires := (windowExpiry_eq opens).trans
    (closeMiss_cancel (u := { s with now := max s.now tr.expiry }) opens rfl rfl out card third)
  have garbles := (garbledFrame_eq opens).trans
    (closeMiss_cancel (u := bump (Ctr.garbled g) s) opens rfl rfl out card third)
  rw [exec_replyWindowExpiry, exec_boothFrameGarbled, expires, garbles]
  constructor
  · intro takes
    rw [verifyWork_of_takesWork takes]
    exact ⟨rfl, rfl⟩
  · intro refuses
    rw [verifyWork_of_not_takesWork refuses]
    exact ⟨rfl, rfl⟩

end
end

section
/-!
# A good reply to a CANCEL or VERIFY (R129, R130)
-/

namespace Sys2Proof.Machine

section
variable {g : Segment} {drop tag : Byte} {r : Request} {b : Booth} {s : State} {reply : BoothReply}

/-- The request is one of the Debit Unit's. -/
def Request.IsDebit (r : Request) : Prop := (∃ n serial, r = .cancel n serial) ∨ ∃ serial, r = .verify serial

/-- A good reply to a CANCEL or VERIFY has closed the transaction, and the booth's debit work is gone. -/
def debitClosed (g : Segment) (b : Booth) (s : State) : State :=
  modBoothLine b (fun l => { l with debitWork := none }) (closedGood g b none s)

theorem exec_replyRow (g : Segment) (drop tag : Byte) (reply : BoothReply) (s : State) :
    exec (replyRow g drop tag reply) s = .next (receiveReply g drop tag reply s) := by
  cases reply <;> rfl

/-- The replies a debit request accepts hold no batch of events. -/
theorem parses_of_accepts_debit (hr : r.IsDebit) (ha : r.accepts reply = true) : reply.parses = true := by
  rcases hr with ⟨n, serial, rfl⟩ | ⟨serial, rfl⟩ <;> cases reply
  case inl.events | inr.events => cases ha
  all_goals rfl

/-- The outcome of a debit request goes to the Debit Unit, but for a READER FAULT (R130). -/
theorem handGood_debit {tr : Transaction} (hr : tr.request.IsDebit) (ha : tr.request.accepts reply = true)
    (hf : ∀ count, reply ≠ .fail .readerFault count) (u : State) :
    handGood tr reply u =
      debitOutcome tr.booth (some reply) (modBoothLine tr.booth (fun l => { l with debitWork := none }) u) := by
  unfold handGood clearServed
  cases reply with
  | events more batch status evs => rcases hr with ⟨n, serial, hq⟩ | ⟨serial, hq⟩ <;> rw [hq] at ha <;> cases ha
  | fail reason count =>
    cases reason with
    | readerFault => exact absurd rfl (hf count)
    | noCard | wrongCard | writeError => rcases hr with ⟨n, serial, hq⟩ | ⟨serial, hq⟩ <;> rw [hq]
  | done | count | ack => rcases hr with ⟨n, serial, hq⟩ | ⟨serial, hq⟩ <;> rw [hq]

theorem exec_reply_debit (hr : r.IsDebit) (ht : tag.toNat ≤ 7) (h : Answers g drop tag r b s)
    (ha : r.accepts reply = true) (hf : ∀ count, reply ≠ .fail .readerFault count) :
    exec (replyRow g drop tag reply) s = .next (debitOutcome b (some reply) (debitClosed g b s)) := by
  have asks : ∀ bit, r ≠ .poll bit := by
    rintro bit rfl
    rcases hr with ⟨_, _, hq⟩ | ⟨_, hq⟩ <;> cases hq
  obtain ⟨tr, rfl, rfl, closes⟩ := receiveReply_answers h ht (parses_of_accepts_debit hr ha) ha asks
  rw [exec_replyRow, closes, handGood_debit hr ha hf]
  rfl

/-! ## What the close leaves -/

@[simp] theorem ctx_debitClosed (x : Booth) : (debitClosed g b s).ctx x = s.ctx x := by cases g <;> rfl
@[simp] theorem debit_debitClosed (x : Booth) : (debitClosed g b s).debit x = s.debit x := by cases g <;> rfl
@[simp] theorem slot_debitClosed (x : Booth) : (debitClosed g b s).slot x = s.slot x := by cases g <;> rfl

theorem boothLine_debitClosed : (debitClosed g b s).boothLine b =
    { s.boothLine b with
      debitWork := none, misses := 0
      health := if (s.boothLine b).health = .suspect then .inService else (s.boothLine b).health } := by
  unfold debitClosed closedGood
  rw [modBoothLine_modBoothLine, boothLine_modBoothLine_self]
  cases g <;> rfl

theorem boothLine_debitClosed_ne {x : Booth} (h : x ≠ b) : (debitClosed g b s).boothLine x = s.boothLine x := by
  unfold debitClosed closedGood
  rw [modBoothLine_modBoothLine, boothLine_modBoothLine_ne h]
  cases g <;> rfl

/-- A booth that takes work still takes it when a reply has closed its transaction. -/
theorem takesWork_debitClosed : TakesWork b (debitClosed g b s) ↔ TakesWork b s := by
  unfold TakesWork
  rw [boothLine_debitClosed]
  dsimp only
  cases (s.boothLine b).health <;> decide

theorem settings_debitClosed : (debitClosed g b s).settings = s.settings :=
  settings_modSeg s fun _ => ⟨rfl, rfl⟩

end

end Sys2Proof.Machine
end

section
/-!
# Units confirmed beside an uncertain record (R104, R111)
-/

namespace Sys2Proof.Machine

section
variable {b : Booth} {s t u : State} {i k count : Nat} {e : CardEntry}

/-! ## One count of a counter (R180) -/

/-- Counting up one counter leaves the place of another as it is. -/
theorem counterPlace_bumpBy_ne {c d : CounterId} (hne : c ≠ d) (n : Nat) (s : State) :
    ((bumpBy c n s).counters.get d.1)[d.2]? = (s.counters.get d.1)[d.2]? := by
  rw [bumpBy_counters, get_set]
  split_ifs with unit
  · rw [List.getElem?_modify_ne _ _ fun place => hne (Prod.ext unit place), unit]
  · rfl

/-- A count goes by the counter's place alone. -/
theorem counter_bump_congr {c : CounterId} (h : (t.counters.get c.1)[c.2]? = (s.counters.get c.1)[c.2]?) :
    (bump c t).counter c = (bump c s).counter c := by
  have read : ∀ x : State, (bump c x).counter c = (((x.counters.get c.1)[c.2]?).map (satAdd · 1)).getD 0 := by
    intro x
    unfold State.counter bump
    rw [bumpBy_counters, get_set, if_pos rfl, List.getD, List.getElem?_modify_eq]
    rfl
  rw [read, read, h]

theorem counter_of_place {c : CounterId} (h : (t.counters.get c.1)[c.2]? = (s.counters.get c.1)[c.2]?) :
    t.counter c = s.counter c := by
  unfold State.counter
  rw [List.getD, List.getD, h]

/-! ## The record dropped (R111) -/

/-- What units on the entry at place i make of booth b's uncertain record. -/
structure RecordDropped (b : Booth) (i k : Nat) (s t : State) : Prop where
  debit : t.debit b = { s.debit b with uncertain := if k = 0 then (s.debit b).uncertain else none }
  finals : ∀ u, (s.debit b).uncertain = some u → 1 ≤ k → u.entry ≠ i →
    t.counter Ctr.uncertainFinals = (bump Ctr.uncertainFinals s).counter Ctr.uncertainFinals
  uncounted : (k = 0 ∨ ∀ u, (s.debit b).uncertain = some u → u.entry = i) →
    t.counter Ctr.uncertainFinals = s.counter Ctr.uncertainFinals
  others : ∀ x, x ≠ b → t.debit x = s.debit x
  rest : t = { s with debits := t.debits, counters := t.counters }

theorem recordDropped_dropRecord (b : Booth) (i k : Nat) (s : State) : RecordDropped b i k s (dropRecord b i k s) := by
  unfold dropRecord
  cases hu : (s.debit b).uncertain with
  | none =>
    dsimp only
    exact ⟨by rw [hu, ite_self, ← hu], fun u h => (by rw [hu] at h; cases h), fun _ => rfl, fun _ _ => rfl, rfl⟩
  | some u =>
    dsimp only
    by_cases hk : k = 0
    · rw [if_pos hk]
      refine ⟨by rw [if_pos hk], fun _ _ units => ?_, fun _ => rfl, fun _ _ => rfl, rfl⟩
      omega
    · have dropped : (modDebit b (fun d => { d with uncertain := none }) s).debit b =
          { s.debit b with uncertain := if k = 0 then (s.debit b).uncertain else none } := by
        rw [debit_modDebit_self, if_neg hk]
      rw [if_neg hk]
      by_cases same : u.entry = i
      · rw [if_pos same]
        refine ⟨dropped, fun v hv _ other => ?_, fun _ => rfl, fun _ hx => debit_modDebit_ne hx _ s, rfl⟩
        rw [hu] at hv
        cases hv
        exact absurd same other
      · rw [if_neg same]
        refine ⟨dropped, fun _ _ _ _ => rfl, fun kept => ?_,
          fun x hx => (debit_bump _ _ x).trans (debit_modDebit_ne hx _ s), rfl⟩
        rcases kept with none | own
        · exact absurd none hk
        · exact absurd (own u hu) same

/-! ## The confirmation (R104) -/

/-- Confirmed units on the entry e, before the uncertain record is looked at: the record, the slot's count and the
counters. -/
def unitsConfirmed (b : Booth) (i k count : Nat) (e : CardEntry) (s : State) : State :=
  bumpBy Ctr.unitsConfirmed k (bump Ctr.cancelsConfirmed
    (setSlotCount b i count (modDebit b (Debit.confirmed i k count e.unitValue) s)))

theorem confirm_eq_dropRecord (hi : (s.debit b).cards[i]? = some e) :
    confirm b i k count s = dropRecord b i k (unitsConfirmed b i k count e s) := by
  have value : (((s.debit b).cards[i]?).map CardEntry.unitValue).getD 0 = e.unitValue := by
    rw [hi]
    rfl
  unfold confirm
  dsimp only
  rw [value]
  rfl

theorem debit_unitsConfirmed :
    (unitsConfirmed b i k count e s).debit b = (s.debit b).confirmed i k count e.unitValue := by
  unfold unitsConfirmed
  rw [debit_bumpBy, debit_bump, debit_setSlotCount, debit_modDebit_self]

theorem slotCounted_unitsConfirmed (hi : (s.debit b).cards[i]? = some e) :
    SlotCounted b count { e with cancelled := e.cancelled + k, lastKnown := count }
      (modDebit b (Debit.confirmed i k count e.unitValue) s)
      (setSlotCount b i count (modDebit b (Debit.confirmed i k count e.unitValue) s)) :=
  slotCounted_setSlotCount (by rw [debit_modDebit_self]; exact entry_confirmed hi e.unitValue)

/-- k units confirmed on an entry with no request outstanding, beside an uncertain record or without. -/
theorem confirms_confirm_record (hi : (s.debit b).cards[i]? = some e) (ho : (s.debit b).outstanding = .none) :
    Confirms b i k count e s (confirm b i k count s) := by
  have entry := entry_confirmed (k := k) (count := count) hi e.unitValue
  have D := recordDropped_dropRecord b i k (unitsConfirmed b i k count e s)
  rw [confirm_eq_dropRecord hi]
  generalize dropRecord b i k _ = t at D ⊢
  obtain ⟨debit, finals, uncounted, debits, rest⟩ := D
  rw [debit_unitsConfirmed] at debit finals uncounted
  obtain ⟨slot, slotElse, slots, slotRest⟩ := slotCounted_unitsConfirmed (k := k) (count := count) hi
  unfold unitsConfirmed at finals uncounted debits rest
  generalize setSlotCount b i count _ = v at slot slotElse slots slotRest finals uncounted debits rest
  have place : ((bumpBy Ctr.unitsConfirmed k (bump Ctr.cancelsConfirmed v)).counters.get Ctr.uncertainFinals.1)[
      Ctr.uncertainFinals.2]? = (s.counters.get Ctr.uncertainFinals.1)[Ctr.uncertainFinals.2]? := by
    rw [counterPlace_bumpBy_ne (by decide), bump, counterPlace_bumpBy_ne (by decide), slotRest]
    rfl
  have tslot : ∀ x, t.slot x = v.slot x := fun x => by rw [rest]; rfl
  exact {
    balance := by rw [debit]; rfl
    covered := by rw [debit]; rfl
    request := by rw [debit]; exact ho
    entry := ⟨_, by rw [debit]; exact entry, rfl⟩
    others := fun j hj => by rw [debit]; exact List.getElem?_modify_ne _ _ hj.symm
    charges := by rw [debit, ← ho]; rfl
    finals := fun u hu hk hne => (finals u hu hk hne).trans (counter_bump_congr place)
    uncounted := fun h => (uncounted h).trans (counter_of_place place)
    slot := fun r v w l hs hid => (tslot b).trans (slot r v w l hs hid)
    slotElse := fun hs => (tslot b).trans (slotElse hs)
    call := by rw [rest, slotRest]; rfl
    frame := fun x hx => by
      refine ⟨by rw [rest, slotRest]; rfl, (debits x hx).trans ?_, (tslot x).trans (slots x hx),
        by rw [rest, slotRest]; rfl⟩
      rw [slotRest]
      exact debit_modDebit_ne hx _ s
    rest := by
      rw [rest, slotRest]
      exact ⟨rfl, rfl, rfl, rfl, rfl⟩ }

end

end Sys2Proof.Machine
end

section
/-!
# DONE and COUNT with a count in range (R104, R109)
-/

namespace Sys2Proof.Machine

section
variable {g : Segment} {drop tag : Byte} {b : Booth} {s t u : State} {i k count : Nat} {e : CardEntry} {a : Ask}

/-! ## From the closed request back to the reply -/

/-- The state u is s with booth b's debit request answered: its transaction closed, its debit work gone, no request
outstanding. -/
structure RequestClosed (b : Booth) (s u : State) : Prop where
  debit : u.debit b = { s.debit b with outstanding := .none }
  work : (u.boothLine b).debitWork = none
  signals : (u.boothLine b).signals = (s.boothLine b).signals
  takes : TakesWork b u ↔ TakesWork b s
  finals : (u.counters.get Ctr.uncertainFinals.1)[Ctr.uncertainFinals.2]? =
    (s.counters.get Ctr.uncertainFinals.1)[Ctr.uncertainFinals.2]?
  ctx : ∀ x, u.ctx x = s.ctx x
  slot : ∀ x, u.slot x = s.slot x
  others : ∀ x, x ≠ b → u.debit x = s.debit x ∧ u.boothLine x = s.boothLine x
  now : u.now = s.now
  rest : u.ring = s.ring ∧ u.settings = s.settings ∧ u.trunk = s.trunk ∧ u.route = s.route ∧ u.tariff = s.tariff

/-- The request answered by a good reply: the transaction closed, the outstanding request cleared. -/
theorem requestClosed_clearOutstanding (g : Segment) (b : Booth) (s : State) :
    RequestClosed b s (clearOutstanding b (debitClosed g b s)) where
  debit := by
    unfold clearOutstanding
    rw [debit_modDebit_self, debit_debitClosed]
  work := congrArg BoothLine.debitWork boothLine_debitClosed
  signals := (congrArg BoothLine.signals boothLine_debitClosed :)
  takes := takesWork_debitClosed
  finals := by cases g <;> rfl
  ctx x := ctx_debitClosed (b := b) x
  slot x := slot_debitClosed (b := b) x
  others x hx := ⟨(debit_modDebit_ne hx _ _).trans (debit_debitClosed x), boothLine_debitClosed_ne hx⟩
  now := by cases g <;> rfl
  rest := ⟨by cases g <;> rfl, settings_debitClosed, by cases g <;> rfl, by cases g <;> rfl, by cases g <;> rfl⟩

/-- A counter beside the closed request is none of its business. -/
theorem RequestClosed.bumped {c : CounterId} (hc : c ≠ Ctr.uncertainFinals)
    (h : RequestClosed b s (clearOutstanding b u)) : RequestClosed b s (clearOutstanding b (bump c u)) := by
  obtain ⟨debit, work, signals, takes, finals, ctx, slot, others, now, rest⟩ := h
  have same : ∀ x, (clearOutstanding b (bump c u)).debit x = (clearOutstanding b u).debit x := fun _ => rfl
  exact ⟨(same b).trans debit, work, signals, takes, (counterPlace_bumpBy_ne hc 1 u).trans finals, ctx, slot, others,
    now, rest⟩

theorem RequestClosed.card (h : RequestClosed b s u) (hi : (s.debit b).cards[i]? = some e) :
    (u.debit b).cards[i]? = some e := by
  rw [h.debit]
  exact hi

theorem RequestClosed.outstanding (h : RequestClosed b s u) : (u.debit b).outstanding = .none := by rw [h.debit]

/-- Units confirmed once the request is closed are confirmed of the state at the reply. -/
theorem RequestClosed.confirms (R : RequestClosed b s u) (h : Confirms b i k count e u t) :
    Confirms b i k count e s t := by
  obtain ⟨debit, -, -, -, place, ctx, slots, lines, -, closedRest⟩ := R
  obtain ⟨balance, covered, request, entry, others, charges, finals, uncounted, slot, slotElse, call, frame,
    rest⟩ := h
  rw [debit] at balance covered others charges finals uncounted
  rw [slots] at slot slotElse
  obtain ⟨cring, csettings, ctrunk, croute, ctariff⟩ := closedRest
  obtain ⟨ring, settings, trunk, route, tariff⟩ := rest
  exact {
    balance, covered, request, entry, others, charges, slot, call := call.trans (ctx b)
    finals := fun r hr hk hne => (finals r hr hk hne).trans (counter_bump_congr place)
    uncounted := fun h => (uncounted h).trans (counter_of_place place)
    slotElse := fun h => (slotElse h).trans (slots b ▸ rfl)
    frame := fun x hx => by
      obtain ⟨fctx, fdebit, fslot, fline⟩ := frame x hx
      obtain ⟨odebit, oline⟩ := lines x hx
      exact ⟨fctx.trans (ctx x), fdebit.trans odebit, fslot.trans (slots x), fline.trans oline⟩
    rest := ⟨ring.trans cring, settings.trans csettings, trunk.trans ctrunk, route.trans croute,
      tariff.trans ctariff⟩ }

/-- What is shown once the request is closed is shown to the booth of the reply. -/
theorem RequestClosed.shown {cause : Prop} (R : RequestClosed b s u) (h : Shown cause b i count e u t) :
    Shown cause b i count e s t := by
  have slot : CardInSlot b e u ↔ CardInSlot b e s := by
    unfold CardInSlot
    rw [R.slot]
  obtain ⟨posts, quiet, warns⟩ := h
  rw [slot, R.takes, R.signals] at posts quiet
  rw [slot] at warns
  exact ⟨posts, quiet, warns⟩

/-! ## Units confirmed and shown (R104, R113) -/

/-- The state in which k units have been confirmed on the entry at place i, and shown when there are any. -/
def countConfirmed (b : Booth) (i k count : Nat) (s : State) : State :=
  if k = 0 then confirm b i k count s else countSignals b i (confirm b i k count s)

theorem boothLine_confirm (x : Booth) : (confirm b i k count s).boothLine x = s.boothLine x :=
  congrArg (fun l : Lines => l.booths.get x) line_confirm

theorem entry_confirm (hi : (s.debit b).cards[i]? = some e) :
    ((confirm b i k count s).debit b).cards[i]? =
      some { e with cancelled := e.cancelled + k, lastKnown := count } := by
  rw [confirm_eq_dropRecord hi, (recordDropped_dropRecord b i k _).debit, debit_unitsConfirmed]
  exact entry_confirmed hi e.unitValue

theorem confirms_countConfirmed (hi : (s.debit b).cards[i]? = some e) (ho : (s.debit b).outstanding = .none) :
    Confirms b i k count e s (countConfirmed b i k count s) := by
  have C := confirms_confirm_record (k := k) (count := count) hi ho
  unfold countConfirmed
  split_ifs
  · exact C
  · exact C.signalled (entry_confirm hi) (countSignalled (entry_confirm hi))

theorem shown_countConfirmed (hi : (s.debit b).cards[i]? = some e) (ho : (s.debit b).outstanding = .none) :
    Shown (1 ≤ k) b i count e s (countConfirmed b i k count s) := by
  have slot := (confirms_confirm_record (k := k) (count := count) hi ho).cardInSlot_iff.symm
  have entry := entry_confirm (k := k) (count := count) hi
  unfold countConfirmed
  split_ifs with none
  · exact shown_nothing (by omega) (congrArg BoothLine.signals (boothLine_confirm b)) entry rfl
  · exact (countSignalled entry).shown.congr (iff_true_intro (by omega)) slot (boothLine_confirm b).symm rfl rfl rfl

/-- A signal is no debit work. -/
theorem debitWork_toldLine (sig : Option Signal) (l : BoothLine) : (toldLine sig l).debitWork = l.debitWork := by
  rw [toldLine_rest]

theorem debitWork_countSignals (hi : (s.debit b).cards[i]? = some e) :
    ((countSignals b i s).boothLine b).debitWork = (s.boothLine b).debitWork := by
  unfold countSignals
  split_ifs
  · rw [hi]
    dsimp only
    rw [postSignal_eq, (lowCreditTested (s := modBoothLine b _ s) hi).line, debitWork_toldLine,
      boothLine_modBoothLine_self, debitWork_toldLine]
  · rfl

theorem debitWork_countConfirmed (hi : (s.debit b).cards[i]? = some e) :
    ((countConfirmed b i k count s).boothLine b).debitWork = (s.boothLine b).debitWork := by
  unfold countConfirmed
  split_ifs
  · rw [boothLine_confirm]
  · rw [debitWork_countSignals (entry_confirm hi), boothLine_confirm]

/-! ## The reply (R104, R109) -/

theorem countReply_inRange (hb : a.before ≤ count) (hn : count ≤ a.before + a.n) :
    countReply b a count s =
      goOn b a.final (countConfirmed b a.entry (count - a.before) count (clearOutstanding b s)) := by
  unfold countReply
  rw [confirmedUnits_of_le hb hn]
  rfl

/-- The units of a count in range are confirmed and shown in s1, and the call goes on from there to t (R104). -/
structure CountConfirms (b : Booth) (a : Ask) (count : Nat) (e : CardEntry) (s s1 t : State) : Prop where
  confirms : Confirms b a.entry (count - a.before) count e s s1
  shown : Shown (1 ≤ count - a.before) b a.entry count e s s1
  work : (s1.boothLine b).debitWork = none
  goes : t = goOn b a.final s1

theorem RequestClosed.countConfirms (R : RequestClosed b s (clearOutstanding b u))
    (hi : (s.debit b).cards[a.entry]? = some e) (hb : a.before ≤ count) (hn : count ≤ a.before + a.n) :
    ∃ s1, CountConfirms b a count e s s1 (countReply b a count u) :=
  ⟨_, R.confirms (confirms_countConfirmed (R.card hi) R.outstanding),
    R.shown (shown_countConfirmed (R.card hi) R.outstanding),
    (debitWork_countConfirmed (R.card hi)).trans R.work, countReply_inRange hb hn⟩

/-- The call goes on by its state after a confirmation (R104). -/
theorem goOn_speech (final : Bool) (h : (s.ctx b).state = .speech) : goOn b final s = unitsDue b s := by
  unfold goOn
  rw [h]

theorem goOn_ending (final : Bool) (h : (s.ctx b).state = .ending) : goOn b final s = settleOn b final s := by
  unfold goOn
  rw [h]

theorem goOn_waits (final : Bool) (hs : (s.ctx b).state ≠ .speech) (he : (s.ctx b).state ≠ .ending) :
    goOn b final s = s := by
  unfold goOn
  split
  · next h => exact absurd h hs
  · next h => exact absurd h he
  · rfl

section
variable {s1 : State} (h : CountConfirms b a count e s s1 t)
include h

theorem CountConfirms.waits (hs : (s.ctx b).state ≠ .speech) (he : (s.ctx b).state ≠ .ending) : t = s1 :=
  h.goes.trans (goOn_waits a.final (h.confirms.call ▸ hs) (h.confirms.call ▸ he))

theorem CountConfirms.unitsChecked (hs : (s.ctx b).state = .speech) : UnitsChecked b s1 t := by
  rw [h.goes, goOn_speech a.final (h.confirms.call ▸ hs)]
  exact unitsChecked_unitsDue b s1

theorem CountConfirms.settlesOn (he : (s.ctx b).state = .ending) : SettlesOn b a.final s1 t := by
  rw [h.goes, goOn_ending a.final (h.confirms.call ▸ he)]
  exact settlesOn_settleOn b a.final s1

/-- In SPEECH with the balance paid no unit is due. -/
theorem CountConfirms.paid (hs : (s.ctx b).state = .speech)
    (hp : 0 ≤ (s.debit b).p + ((count - a.before) * e.unitValue : Nat)) : t = s1 := by
  rw [h.goes, goOn_speech a.final (h.confirms.call ▸ hs)]
  exact unitsDue_rests (.inr (.inl (h.confirms.balance ▸ hp)))

end

/-- The outcome confirms the units of a count in range: with nothing more where the call waits or owes nothing, and
else with the units-due check or the settle behind it (R104). -/
def ConfirmsUnits (b : Booth) (a : Ask) (count : Nat) (e : CardEntry) (s : State)
    (o : Host.Outcome State Fault Refusal) : Prop :=
  (((s.ctx b).state = .swap
      ∨ ((s.ctx b).state = .speech ∧ 0 ≤ (s.debit b).p + ((count - a.before) * e.unitValue : Nat))) →
    ∃ t, o = .next t ∧ Confirms b a.entry (count - a.before) count e s t ∧ (t.boothLine b).debitWork = none)
  ∧ ∃ s1 t, o = .next t ∧ Confirms b a.entry (count - a.before) count e s s1
      ∧ Shown (1 ≤ count - a.before) b a.entry count e s s1
      ∧ (s1.boothLine b).debitWork = none
      ∧ ((s.ctx b).state = .speech → UnitsChecked b s1 t)
      ∧ ((s.ctx b).state = .ending → SettlesOn b a.final s1 t)
      ∧ ((s.ctx b).state ≠ .speech → (s.ctx b).state ≠ .ending → t = s1)

theorem RequestClosed.confirmsUnits (R : RequestClosed b s (clearOutstanding b u))
    (hi : (s.debit b).cards[a.entry]? = some e) (hb : a.before ≤ count) (hn : count ≤ a.before + a.n) :
    ConfirmsUnits b a count e s (.next (countReply b a count u)) := by
  obtain ⟨s1, C⟩ := R.countConfirms hi hb hn
  refine ⟨fun quiet => ?_, s1, _, rfl, C.confirms, C.shown, C.work, C.unitsChecked, C.settlesOn, C.waits⟩
  have same : countReply b a count u = s1 := by
    rcases quiet with swap | ⟨speech, paid⟩
    · exact C.waits (by rw [swap]; nofun) (by rw [swap]; nofun)
    · exact C.paid speech paid
  exact ⟨_, rfl, same ▸ C.confirms, same ▸ C.work⟩

/-! ## The outcomes of the Debit Unit's requests -/

theorem debitOutcome_done {count : BitVec 16} (ho : (s.debit b).outstanding = .cancel a) :
    debitOutcome b (some (.done count)) s = countReply b a count.toNat s := by
  unfold debitOutcome
  rw [ho]

theorem debitOutcome_none {reply : Option BoothReply} (ho : (s.debit b).outstanding = .none) :
    debitOutcome b reply s = bump Ctr.unmatchedOutcomes s := by
  unfold debitOutcome
  rw [ho]

/-- COUNT of the entry's card to the outstanding VERIFY (R109). -/
theorem debitOutcome_count {count : BitVec 16} (ho : (s.debit b).outstanding = .verify a)
    (hi : (s.debit b).cards[a.entry]? = some e) :
    debitOutcome b (some (.count e.series e.serial count)) s =
      countReply b a count.toNat
        (if (confirmedUnits count.toNat a.before a.n).isSome then bump Ctr.verifiesConfirmed s else s) := by
  unfold debitOutcome
  rw [ho]
  dsimp only
  rw [hi]
  exact if_pos rfl

end

end Sys2Proof.Machine

section
open Sys2Proof Sys2Proof.Machine

/-- Settles O40: the reply goes to the Debit Unit on the closed transaction (`exec_reply_debit`), whose count is
confirmed beside whatever uncertain record there is (`confirms_confirm_record`); what is confirmed once the request is
closed is confirmed of the state at the reply (`RequestClosed.confirms`). -/
theorem countsConfirmUnits : Obligations.CountsConfirmUnits := by
  refine ⟨fun s g drop tag b a e count ht card low high => ?_,
    fun s g drop tag b r reply ht hr h accepts rf out => ?_⟩
  · have closed := requestClosed_clearOutstanding g b s
    refine ⟨fun n serial h out => ?_, fun serial h out => ?_⟩
    · have reply := exec_reply_debit (reply := .done count) (.inl ⟨n, serial, rfl⟩) ht h rfl nofun
      rw [debitOutcome_done (by rw [debit_debitClosed]; exact out)] at reply
      exact reply ▸ closed.confirmsUnits card low high
    · have reply := exec_reply_debit (reply := .count e.series e.serial count) (.inr ⟨serial, rfl⟩) ht h rfl nofun
      rw [debitOutcome_count (by rw [debit_debitClosed]; exact out) (by rw [debit_debitClosed]; exact card),
        confirmedUnits_of_le low high] at reply
      exact reply ▸ (closed.bumped (by decide)).confirmsUnits card low high
  · rw [exec_reply_debit hr ht h accepts rf, debitOutcome_none (by rw [debit_debitClosed]; exact out)]
    rfl

end
end

section
/-!
# A count out of range, and a count found at STATUS (R82, R105, R112)
-/

namespace Sys2Proof.Machine

section
variable {g : Segment} {drop tag : Byte} {b : Booth} {s t u : State} {i count : Nat} {e : CardEntry} {a : Ask}

/-! ## The reply (R104, R106, R109) -/

/-- The reply gives this count to the outstanding request a on the entry e: DONE or FAIL WRITE ERROR to a CANCEL, COUNT
of the entry's card to a VERIFY. -/
def GivesCount (r : Request) (reply : BoothReply) (o : Outstanding) (a : Ask) (e : CardEntry) (count : BitVec 16) :
    Prop :=
  o = .cancel a ∧ (∃ n serial, r = .cancel n serial) ∧ (reply = .done count ∨ reply = .fail .writeError count)
    ∨ o = .verify a ∧ (∃ serial, r = .verify serial) ∧ reply = .count e.series e.serial count

theorem GivesCount.accepted {r : Request} {reply : BoothReply} {o : Outstanding} {count : BitVec 16}
    (h : GivesCount r reply o a e count) :
    r.IsDebit ∧ r.accepts reply = true ∧ ∀ c, reply ≠ .fail .readerFault c := by
  rcases h with ⟨-, ⟨n, serial, rfl⟩, rfl | rfl⟩ | ⟨-, ⟨serial, rfl⟩, rfl⟩
  · exact ⟨.inl ⟨n, serial, rfl⟩, rfl, nofun⟩
  · exact ⟨.inl ⟨n, serial, rfl⟩, rfl, nofun⟩
  · exact ⟨.inr ⟨serial, rfl⟩, rfl, nofun⟩

theorem countReply_outside (h : count < a.before ∨ a.before + a.n < count) :
    countReply b a count s = countFault b a.entry s := by
  unfold countReply
  rw [confirmedUnits_outside h]

theorem writeErrorReply_outside (h : count < a.before ∨ a.before + a.n < count) :
    writeErrorReply b a count s = countFault b a.entry s := by
  unfold writeErrorReply
  rw [confirmedUnits_outside h]

theorem debitOutcome_writeError {count : BitVec 16} (ho : (s.debit b).outstanding = .cancel a) :
    debitOutcome b (some (.fail .writeError count)) s = writeErrorReply b a count.toNat s := by
  unfold debitOutcome
  rw [ho]

/-- However the count comes, out of range it is a count fault (R104, R106, R109). -/
theorem debitOutcome_outside {r : Request} {reply : BoothReply} {count : BitVec 16}
    (hi : (s.debit b).cards[a.entry]? = some e) (h : GivesCount r reply (s.debit b).outstanding a e count)
    (out : count.toNat < a.before ∨ a.before + a.n < count.toNat) :
    debitOutcome b (some reply) s = countFault b a.entry s := by
  rcases h with ⟨ho, -, rfl | rfl⟩ | ⟨ho, -, rfl⟩
  · rw [debitOutcome_done ho, countReply_outside out]
  · rw [debitOutcome_writeError ho, writeErrorReply_outside out]
  · rw [debitOutcome_count ho hi, confirmedUnits_outside out]
    exact countReply_outside out

/-! ## The end of the call when no other card is there to ask (R102, R105, R118) -/

/-- An update that keeps a test's answer on every element keeps where the test first holds. -/
theorem findIdx?_modify {α : Type} {p : α → Bool} {f : α → α} (h : ∀ x, p (f x) = p x) (l : List α) (i : Nat) :
    (l.modify i f).findIdx? p = l.findIdx? p := by
  induction l generalizing i with
  | nil => simp
  | cons x l ih =>
    cases i with
    | zero => simp [List.findIdx?_cons, h]
    | succ i => simp [List.findIdx?_cons, ih]

theorem slotEntry_valid {r : CardRecord} {v w l : Nat} (hs : s.slot b = .valid r v w l) :
    s.slotEntry b =
      (s.listPlace b (r.series, r.serial)).bind fun j => ((s.debit b).cards[j]?).map fun e => (j, e) := by
  unfold State.slotEntry State.listPlace
  rw [hs]
  dsimp only
  cases List.findIdx? _ (s.debit b).cards <;> rfl

theorem slotEntry_eq_some_iff {x : CardEntry} {j : Nat} : s.slotEntry b = some (j, x) ↔
    ∃ r v w l, s.slot b = .valid r v w l ∧ s.listPlace b (r.series, r.serial) = some j
      ∧ (s.debit b).cards[j]? = some x := by
  constructor
  · intro found
    cases hs : s.slot b with
    | empty => simp [State.slotEntry, hs] at found
    | refused r reason action => simp [State.slotEntry, hs] at found
    | valid r v w l =>
      rw [slotEntry_valid hs, Option.bind_eq_some_iff] at found
      obtain ⟨k, place, entry⟩ := found
      obtain ⟨y, card, same⟩ := Option.map_eq_some_iff.mp entry
      cases same
      exact ⟨r, v, w, l, rfl, place, card⟩
  · rintro ⟨r, v, w, l, hs, place, card⟩
    rw [slotEntry_valid hs, place, Option.bind_some, card]
    rfl

theorem currentCard_eq_some_iff {x : CardEntry} {j : Nat} : s.currentCard b = some (j, x) ↔
    s.slotEntry b = some (j, x) ∧ x.countFault = false := by
  unfold State.currentCard
  cases s.slotEntry b with
  | none => simp
  | some y =>
    obtain ⟨k, z⟩ := y
    dsimp only
    split_ifs with flagged
    · refine ⟨nofun, fun ⟨same, unflagged⟩ => ?_⟩
      cases same
      rw [flagged] at unflagged
      cases unflagged
    · refine ⟨fun same => ⟨same, ?_⟩, And.left⟩
      cases same
      exact Bool.eq_false_iff.mpr flagged

/-- A count fault leaves no card to ask when none but its own entry's was. -/
theorem currentCard_faulted (hslot : t.slot b = s.slot b)
    (hcards : (t.debit b).cards = (s.debit b).cards.modify i fun x => { x with countFault := true })
    (own : ∀ j x, s.currentCard b = some (j, x) → j = i) : t.currentCard b = none := by
  rw [Option.eq_none_iff_forall_ne_some]
  rintro ⟨j, x⟩ current
  obtain ⟨entry, unflagged⟩ := currentCard_eq_some_iff.mp current
  obtain ⟨r, v, w, l, slot, place, found⟩ := slotEntry_eq_some_iff.mp entry
  unfold State.listPlace at place
  rw [hcards, findIdx?_modify ?keeps] at place
  case keeps => exact fun _ => rfl
  rw [hcards] at found
  by_cases same : j = i
  · subst same
    rw [List.getElem?_modify_eq] at found
    obtain ⟨y, -, rfl⟩ := Option.map_eq_some_iff.mp found
    cases unflagged
  · rw [List.getElem?_modify_ne _ _ (Ne.symm same)] at found
    have before := slotEntry_eq_some_iff.mpr ⟨r, v, w, l, hslot ▸ slot, place, found⟩
    exact same (own j x (currentCard_eq_some_iff.mpr ⟨before, unflagged⟩))

/-- A call ended CARD FAULT has its ticket at once, with the charge as it stands, and its fault is held (R105, R121). -/
structure EndsCardFault (b : Booth) (e : CardEntry) (s t : State) : Prop where
  ticket : ∃ tk, t.ring.tickets = s.ring.tickets ++ [tk] ∧ tk.endCause = some .cardFault
    ∧ tk.charged = (s.debit b).charged
    ∧ tk.shortfall = min 4294967295 ((s.debit b).charged - (s.debit b).covered)
  ctx : (t.ctx b).state = .free ∧ (t.ctx b).endCause = some .cardFault
  debit : (t.debit b).p = (s.debit b).p ∧ (t.debit b).covered = (s.debit b).covered ∧ (t.debit b).cards = []
  held : s.mgmt.faultHeld = none → t.mgmt.faultHeld = some (debitFault .cardCount b e s)
  settings : t.settings = s.settings

/-- With no other card to ask, a count fault in SPEECH or SWAP completes the call (R105, R118). -/
theorem CountFault.endsCardFault (h : CountFault b i e s t)
    (metered : (s.ctx b).state = .speech ∨ (s.ctx b).state = .swap)
    (own : ∀ j x, s.currentCard b = some (j, x) → j = i) : EndsCardFault b e s t := by
  obtain ⟨v, debit, rest, -, settings, fault, settles, -⟩ := h
  have vslot : v.slot b = s.slot b := by rw [rest]; rfl
  have wdebit := debit_ending b .cardFault v
  have cause : ((ending b .cardFault v).ctx b).endCause = some .cardFault := by rw [ctx_ending]
  have wring : (ending b .cardFault v).ring = s.ring := by
    change v.ring = _
    rw [rest]
  have wmgmt : (ending b .cardFault v).mgmt = v.mgmt := rfl
  have wsettings : (ending b .cardFault v).settings = v.settings := rfl
  have noCard : (ending b .cardFault v).currentCard b = none :=
    currentCard_faulted (s := s) vslot (by rw [wdebit, debit]) own
  have settles := settles metered
  generalize ending b .cardFault v = w at wdebit cause wring wmgmt wsettings noCard settles
  have C : Completed b w t := settles.completes fun j x passes => nomatch noCard.symm.trans passes.card
  have ticket : t.ring.tickets =
      s.ring.tickets ++ [ticketOf b (w.ctx b).endCause (w.debit b).uncertainCount w] := by
    rw [C.ring, ← wring]
    rfl
  refine ⟨⟨_, ticket, cause, ?_, ?_⟩, ?_, ?_, fun free => ?_, C.settings.trans (wsettings.trans settings)⟩
  · change (w.debit b).charged = _
    rw [wdebit, debit]
  · change min 4294967295 ((w.debit b).charged - (w.debit b).covered) = _
    rw [wdebit, debit]
  · rw [C.ctx, cause]
    exact ⟨rfl, rfl⟩
  · rw [C.debit, wdebit, debit]
    exact ⟨rfl, rfl, rfl⟩
  · rw [C.rest]
    exact (congrArg Mgmt.faultHeld wmgmt).trans (fault.held free).1

theorem ring_debitClosed : (debitClosed g b s).ring = s.ring := by cases g <;> rfl

theorem mgmt_debitClosed : (debitClosed g b s).mgmt = s.mgmt := by cases g <;> rfl

theorem debitFault_debitClosed (kind : FaultKind) :
    debitFault kind b e (debitClosed g b s) = debitFault kind b e s := by
  cases g <;> rfl

/-! ## A count found at STATUS (R82, R112) -/

/-- A STATUS report of the card that stayed in its slot is a matter of its count alone (R82). -/
theorem boothEvent_statusCard {r r' : CardRecord} {v w l : Nat} (hs : s.slot b = .valid r' v w l)
    (hseries : r'.series = r.series) (hserial : r'.serial = r.serial) :
    boothEvent b true (.cardIn r) s =
      if r.cancelled.toNat = l then bump Ctr.cardsIn s
      else countAtStatus b (r.series, r.serial) r.cancelled.toNat
        (setSlot b (.valid r' v w r.cancelled.toNat) (bump Ctr.cardsIn s)) := by
  have slot : (bump Ctr.cardsIn s).slot b = .valid r' v w l := hs
  rw [boothEvent_cardIn]
  unfold cardInEvent
  dsimp only
  rw [slot]
  dsimp only
  rw [hseries, hserial, decide_eq_true rfl]
  rfl

/-- A count at STATUS that is no business of the call: it has no answer yet, is CARDLESS, or knows no such card. -/
theorem countAtStatus_unheard {series : BitVec 16} {serial : BitVec 32}
    (h : (s.ctx b).state.preAnswer = true ∧ (s.ctx b).state ≠ .routed ∨ (s.ctx b).state = .free ∨ ¬NeedsCard b s
      ∨ Unlisted b series serial s) : countAtStatus b (series, serial) count s = s := by
  unfold countAtStatus
  split
  · rfl
  next needs =>
    split
    next i place =>
      have quiet : (s.ctx b).state.preAnswer = true ∧ (s.ctx b).state ≠ .routed ∨ (s.ctx b).state = .free := by
        rcases h with h | h | h | h
        · exact .inl h
        · exact .inr h
        · exact absurd (cardlessCall_iff.mpr h) needs
        · cases place.symm.trans (listPlace_of_unlisted h)
      generalize (s.ctx b).state = x at quiet
      rcases quiet with ⟨unanswered, other⟩ | rfl
      · cases x with
        | dialling | cardWait => rfl
        | routed => exact absurd rfl other
        | _ => cases unanswered
      · rfl
    · rfl

section
variable {series : BitVec 16} {serial : BitVec 32} (needs : NeedsCard b s) (listed : Listed b series serial i e s)
include needs listed

theorem countAtStatus_answered
    (h : (s.ctx b).state = .speech ∨ (s.ctx b).state = .swap ∨ (s.ctx b).state = .ending) :
    CountTaken b i count e s (countAtStatus b (series, serial) count s) := by
  have taken := countTaken_takeCount (count := count) listed.1
  unfold countAtStatus
  rw [if_neg (not_cardlessCall needs), listPlace_of_listed listed]
  rcases h with h | h | h <;> rw [h] <;> exact taken

theorem countAtStatus_routed (h : (s.ctx b).state = .routed) (first : i = 0) :
    countAtStatus b (series, serial) count s =
      modDebit b (fun d => { d with cards := d.cards.modify 0 fun x => { x with lastKnown := count } }) s := by
  subst first
  unfold countAtStatus
  rw [if_neg (not_cardlessCall needs), listPlace_of_listed listed, h]
  rfl

end

end

end Sys2Proof.Machine

section
open Sys2Proof Sys2Proof.Machine

/-- Settles O41: however the count comes, it is a count fault of the state with the transaction closed
(`debitOutcome_outside`), and the flagged entry is no card to ask (`currentCard_faulted`); a STATUS report reaches the
call as a count taken (`countTaken_takeCount`). -/
theorem countOutOfRangeEndsTheCall : Obligations.CountOutOfRangeEndsTheCall := by
  refine ⟨fun s g drop tag b a e count r reply ht card out answers gives => ?_,
    fun s b r r' v w l slot series serial => ?_⟩
  · obtain ⟨debit, accepts, noFault⟩ := GivesCount.accepted gives
    have card' : ((debitClosed g b s).debit b).cards[a.entry]? = some e := by rw [debit_debitClosed]; exact card
    have gives' : GivesCount r reply ((debitClosed g b s).debit b).outstanding a e count := by
      rw [debit_debitClosed]
      exact gives
    have fault := countFault_countFault card'
    rw [exec_reply_debit debit ht answers accepts noFault, debitOutcome_outside card' gives' out]
    refine ⟨fun metered own => ?_, _, rfl, fault⟩
    have ends := fault.endsCardFault (by rw [ctx_debitClosed]; exact metered) fun j x current =>
      own j x ((currentCard_congr (slot_debitClosed b) (by rw [debit_debitClosed])).symm.trans current)
    obtain ⟨⟨tk, tickets, cause, charged, shortfall⟩, ⟨free, ended⟩, ⟨p, covered, cards⟩, held, settings⟩ := ends
    rw [debit_debitClosed] at charged shortfall p covered
    rw [ring_debitClosed] at tickets
    rw [mgmt_debitClosed, debitFault_debitClosed] at held
    exact ⟨_, tk, rfl, tickets, cause, charged, shortfall, free, ended, p, covered, cards, held,
      settings.trans settings_debitClosed⟩
  · dsimp only
    rw [boothEvent_statusCard slot series serial]
    refine ⟨fun same => if_pos same, fun other unheard => ?_, fun i e other needs listed => ⟨fun answered => ?_,
      fun routed first => ?_⟩⟩
    · rw [if_neg other]
      exact countAtStatus_unheard unheard
    · rw [if_neg other]
      exact countAtStatus_answered needs listed answered
    · rw [if_neg other]
      exact countAtStatus_routed needs listed routed first

end
end

section
/-!
# FAIL by request and reason (R89, R106, R107, R109, R110)
-/

namespace Sys2Proof.Machine

section
variable {g : Segment} {drop tag : Byte} {b : Booth} {s t u : State} {i k count : Nat} {e : CardEntry} {a : Ask}

/-! ## An outcome that says the card is not there (R107, R109) -/

theorem goesOnCardless_cardGone (b : Booth) (final : Bool) (s : State) :
    GoesOnCardless b final s (cardGone b final s) where
  speech h := by
    unfold cardGone
    rw [h]
    exact enterSwap_speech .cardRemoved h
  ending h := by
    unfold cardGone
    rw [h]
    exact settlesOn_settleOn b final _
  rests hs he := by
    unfold cardGone
    split
    · next h => exact absurd h hs
    · next h => exact absurd h he
    · rfl

theorem debitOutcome_cardless {reason : FailReason} {count : BitVec 16} (h : reason = .noCard ∨ reason = .wrongCard)
    (ho : (s.debit b).outstanding = .cancel a) :
    debitOutcome b (some (.fail reason count)) s = noCardReply b a s := by
  unfold debitOutcome
  rw [ho]
  rcases h with rfl | rfl <;> rfl

/-! ## A request made uncertain (R110) -/

/-- The debit record when the outstanding request a has become uncertain (R110). -/
def Debit.madeUncertain (a : Ask) (d : Debit) : Debit :=
  { d with
    outstanding := .none, uncertainCount := min 255 (d.uncertainCount + 1)
    uncertain := some { entry := a.entry, before := a.before, n := a.n } }

/-- A request becomes uncertain with its report: one update of the record, one report, and counters. -/
theorem makeUncertain_eq (b : Booth) (a : Ask) (s : State) :
    ∃ counters, makeUncertain b a true s =
      reportFault .uncertainCancel b (s.ctx b).plan (s.ctx b).walkDigits
        (((s.debit b).cards[a.entry]?).map CardEntry.identity)
        { modDebit b (Debit.madeUncertain a) s with counters := counters } := by
  unfold makeUncertain
  dsimp only
  rw [if_pos rfl]
  split
  · exact ⟨_, rfl⟩
  · exact ⟨_, rfl⟩

theorem madeUncertain_makeUncertain (hi : (s.debit b).cards[a.entry]? = some e) :
    MadeUncertain b a e s (makeUncertain b a true s) := by
  obtain ⟨counters, made⟩ := makeUncertain_eq b a s
  rw [made, hi]
  have taken := faultTaken_reportFault .uncertainCancel b (s.ctx b).plan (s.ctx b).walkDigits (some e.identity)
    { modDebit b (Debit.madeUncertain a) s with counters := counters }
  have rest := reportFault_rest .uncertainCancel b (s.ctx b).plan (s.ctx b).walkDigits (some e.identity)
    { modDebit b (Debit.madeUncertain a) s with counters := counters }
  rw [Option.map_some]
  generalize reportFault _ _ _ _ _ _ = t at taken rest ⊢
  refine ⟨?_, taken.congr rfl rfl, fun x hx => ?_, ?_⟩
  · rw [rest]
    exact debit_modDebit_self b (Debit.madeUncertain a) s
  · rw [rest]
    exact debit_modDebit_ne hx (Debit.madeUncertain a) s
  · rw [rest]
    rfl

/-- The reply leaves the cancel of the entry e uncertain: any FAIL but READER FAULT, or a COUNT of another card
(R109). -/
def LeavesUncertain (e : CardEntry) (count : BitVec 16) (reply : BoothReply) : Prop :=
  (∃ reason, reason ≠ .readerFault ∧ reply = .fail reason count)
    ∨ ∃ series serial, ¬(series = e.series ∧ serial = e.serial) ∧ reply = .count series serial count

theorem LeavesUncertain.accepted {serial : BitVec 32} {count : BitVec 16} {reply : BoothReply}
    (h : LeavesUncertain e count reply) :
    (Request.verify serial).accepts reply = true ∧ ∀ c, reply ≠ .fail .readerFault c := by
  rcases h with ⟨reason, other, rfl⟩ | ⟨series, serial', -, rfl⟩
  · refine ⟨by cases reason <;> rfl, fun c same => ?_⟩
    cases same
    exact other rfl
  · exact ⟨rfl, nofun⟩

theorem debitOutcome_uncertain {count : BitVec 16} {reply : BoothReply} (h : LeavesUncertain e count reply)
    (ho : (s.debit b).outstanding = .verify a) (hi : (s.debit b).cards[a.entry]? = some e) :
    debitOutcome b (some reply) s = uncertainReply b a s := by
  unfold debitOutcome
  rw [ho]
  rcases h with ⟨reason, other, rfl⟩ | ⟨series, serial, other, rfl⟩
  · cases reason with
    | readerFault => exact absurd rfl other
    | noCard | wrongCard | writeError => rfl
  · dsimp only
    rw [hi]
    refine if_neg fun same => other ?_
    obtain ⟨hseries, hserial⟩ := Prod.mk.inj (Option.some.inj same)
    exact ⟨hseries.symm, hserial.symm⟩

/-! ## WRITE ERROR with a count in range (R106) -/

/-- The state in which the card of the entry at place i has been released for its write error, where it is in the
slot. -/
def writeErrorReleased (b : Booth) (i : Nat) (s : State) : State :=
  bump Ctr.writeErrors (if s.slotHolds b i then releaseCard b .writeError s else s)

theorem writeErrorReleased_spec {x : CardEntry} (hi : (s.debit b).cards[i]? = some x) (same : x.identity = e.identity) :
    WriteErrorReleased b e s (writeErrorReleased b i s) := by
  obtain ⟨hseries, hserial⟩ := Prod.mk.inj same
  have held : s.slotHolds b i = true ↔ CardInSlot b e s := by
    rw [slotHolds_iff hi, CardInSlot, hseries, hserial, CardInSlot]
  unfold writeErrorReleased
  split_ifs with inSlot
  · obtain ⟨released, -, line, frame, rest⟩ := cardReleased_releaseCard (b := b) (s := s) (reason := .writeError) nofun
    generalize releaseCard b .writeError s = u at released line frame rest
    refine ⟨fun r v w l slot _ _ => released r v w l slot, fun none => absurd (held.mp inSlot) none, ?_, frame, ?_⟩
    · exact (congrArg BoothLine.signals line :)
    · exact congrArg (bump Ctr.writeErrors) rest
  · refine ⟨fun r v w l slot ser sid => absurd (held.mpr ⟨r, v, w, l, slot, ser, sid⟩) inSlot, fun _ => ⟨rfl, rfl⟩, rfl,
      fun _ _ => ⟨rfl, rfl⟩, rfl⟩

@[simp] theorem now_setSlotCount : (setSlotCount b i count s).now = s.now := by
  unfold setSlotCount
  split
  · split <;> rfl
  · rfl

@[simp] theorem now_dropRecord : (dropRecord b i k s).now = s.now := by rw [(recordDropped_dropRecord b i k s).rest]

@[simp] theorem now_confirm : (confirm b i k count s).now = s.now := by simp [confirm]

/-- The call goes on by its state after a write error (R106). -/
def afterWriteError (b : Booth) (final : Bool) (s : State) : State :=
  match (s.ctx b).state with
  | .speech => enterSwap b .credit s
  | .ending => settleOn b final s
  | _ => s

theorem writeErrorReply_inRange (hb : a.before ≤ count) (hn : count ≤ a.before + a.n) :
    writeErrorReply b a count s =
      afterWriteError b a.final (writeErrorReleased b a.entry
        (confirm b a.entry (count - a.before) count (clearOutstanding b s))) := by
  unfold writeErrorReply
  rw [confirmedUnits_of_le hb hn]
  rfl

theorem afterWriteError_speech (final : Bool) (h : (s.ctx b).state = .speech) :
    afterWriteError b final s =
      bump Ctr.swapEntries (modCtx b (fun c => swapped c s.now s.mgmt.limits.swapWindow .credit) s) := by
  unfold afterWriteError
  rw [h]
  exact enterSwap_speech .credit h

theorem afterWriteError_ending (final : Bool) (h : (s.ctx b).state = .ending) :
    SettlesOn b final s (afterWriteError b final s) := by
  unfold afterWriteError
  rw [h]
  exact settlesOn_settleOn b final s

theorem afterWriteError_waits (final : Bool) (hs : (s.ctx b).state ≠ .speech) (he : (s.ctx b).state ≠ .ending) :
    afterWriteError b final s = s := by
  unfold afterWriteError
  split
  · next h => exact absurd h hs
  · next h => exact absurd h he
  · rfl

/-- A write error with a count in range: its units confirmed but not shown in s1, the card released in s2, and the call
going on from there to t (R106). -/
structure WriteErrorConfirms (b : Booth) (a : Ask) (count : Nat) (e : CardEntry) (s s1 s2 t : State) : Prop where
  confirms : Confirms b a.entry (count - a.before) count e s s1
  shown : Shown False b a.entry count e s s1
  work : (s1.boothLine b).debitWork = none
  released : WriteErrorReleased b e s1 s2
  now : s1.now = s.now
  goes : t = afterWriteError b a.final s2

theorem RequestClosed.writeErrorConfirms (R : RequestClosed b s (clearOutstanding b u))
    (hi : (s.debit b).cards[a.entry]? = some e) (hb : a.before ≤ count) (hn : count ≤ a.before + a.n) :
    ∃ s1 s2, WriteErrorConfirms b a count e s s1 s2 (writeErrorReply b a count u) := by
  have entry := entry_confirm (k := count - a.before) (count := count) (R.card hi)
  have line := boothLine_confirm (b := b) (i := a.entry) (k := count - a.before) (count := count)
    (s := clearOutstanding b u) b
  refine ⟨_, _, R.confirms (confirms_confirm_record (R.card hi) R.outstanding),
    shown_nothing not_false ((congrArg BoothLine.signals line).trans R.signals) entry rfl,
    (congrArg BoothLine.debitWork line).trans R.work, writeErrorReleased_spec entry rfl, now_confirm.trans R.now,
    writeErrorReply_inRange hb hn⟩

section
variable {s1 s2 : State} (h : WriteErrorConfirms b a count e s s1 s2 t)
include h

theorem WriteErrorConfirms.call : s2.ctx b = s.ctx b := by
  rw [h.released.rest]
  exact h.confirms.call

theorem WriteErrorConfirms.speech (hs : (s.ctx b).state = .speech) :
    t = bump Ctr.swapEntries (modCtx b (fun c => swapped c s.now s.mgmt.limits.swapWindow .credit) s2) := by
  have now : s2.now = s.now := by
    rw [h.released.rest]
    exact h.now
  have limits : s2.mgmt.limits = s.mgmt.limits := by
    rw [h.released.rest]
    obtain ⟨-, settings, -⟩ := h.confirms.rest
    exact congrArg Settings.limits settings
  rw [h.goes, afterWriteError_speech a.final (h.call ▸ hs), now, limits]

theorem WriteErrorConfirms.ending (he : (s.ctx b).state = .ending) : SettlesOn b a.final s2 t := by
  rw [h.goes]
  exact afterWriteError_ending a.final (h.call ▸ he)

theorem WriteErrorConfirms.waits (hs : (s.ctx b).state ≠ .speech) (he : (s.ctx b).state ≠ .ending) : t = s2 :=
  h.goes.trans (afterWriteError_waits a.final (h.call ▸ hs) (h.call ▸ he))

end

/-! ## FAIL to an EJECT and a RETAIN (R89) -/

theorem exec_fail (g : Segment) (drop tag : Byte) (reason : FailReason) (count : BitVec 16) (s : State) :
    exec (.fail g drop tag reason count) s = .next (receiveReply g drop tag (.fail reason count) s) := rfl

theorem exec_fail_eject {count : BitVec 16} {r : CardRecord} {reason : CardReason} {action : StopAction}
    (ht : tag.toNat ≤ 7) (h : Answers g drop tag .eject b s) (hs : s.slot b = .refused r reason action) :
    exec (.fail g drop tag .noCard count) s =
      .next (setSlot b .empty (clearCardAction b (closedGood g b none s))) := by
  obtain ⟨tr, request, booth, closes⟩ :=
    receiveReply_answers h (reply := .fail .noCard count) ht rfl rfl (fun _ => nofun)
  have slot : (clearCardAction b (closedGood g b none s)).slot b = .refused r reason action := by
    rw [← hs]
    cases g <;> rfl
  rw [exec_fail, closes]
  unfold handGood clearServed
  rw [request, booth]
  dsimp only
  unfold ejectOutcome emptyRefused
  dsimp only
  rw [slot]

theorem exec_fail_retain {serial : BitVec 32} {reason : FailReason} {count : BitVec 16} (ht : tag.toNat ≤ 7)
    (hr : reason = .noCard ∨ reason = .wrongCard) (h : Answers g drop tag (.retain serial) b s) :
    exec (.fail g drop tag reason count) s =
      .next (bump Ctr.retainsFailed (clearCardAction b (closedGood g b none s))) := by
  have accepts : (Request.retain serial).accepts (.fail reason count) = true := by
    rcases hr with rfl | rfl <;> rfl
  obtain ⟨tr, request, booth, closes⟩ := receiveReply_answers h ht rfl accepts (fun _ => nofun)
  rw [exec_fail, closes]
  unfold handGood clearServed
  rw [request, booth]
  rcases hr with rfl | rfl <;> rfl

end

end Sys2Proof.Machine
end

section
/-!
# The end of the call of a booth that leaves service (R20, R120)
-/

namespace Sys2Proof.Machine

section
variable {b : Booth} {s t u v : State}

/-! ## Completion that leaves the card where it is (R17, R20) -/

/-- The call of booth b, in s, has been completed in t with its card left in the slot, by the steps of R17 but the
release of the card. -/
structure CompletedInPlace (b : Booth) (s t : State) : Prop where
  ctx : t.ctx b = { Ctx.reset with hookOff := (s.ctx b).hookOff, endCause := (s.ctx b).endCause }
  ring : t.ring = ticketWritten (s.buildTicket b) s.ring
  debit : t.debit b = { s.debit b with cards := [], uncertain := none }
  hangup : ChannelReleased b ((s.ctx b).exchangeCleared = false) s t
  line : ¬LastBusy b s → t.boothLine b = lineAtCallEnd (s.boothLine b)
  lastLine : LastBusy b s → t.boothLine b = lineAtDrainEnd (s.entry b).enabled (lineAtCallEnd (s.boothLine b))
  others : OthersAfterEnd b s t
  rest : t = { s with
    ctxs := t.ctxs, debits := t.debits, line := { s.line with booths := t.line.booths }, trunk := t.trunk,
    ring := t.ring, mgmt := { s.mgmt with service := t.mgmt.service, notices := t.mgmt.notices },
    counters := t.counters }

/-- R17's steps but the card's: the ticket (w), the channel (r), the end of the drain (t). -/
theorem completedInPlace_of_steps {w r : State} {counters : Vector (List Nat) 12} (W : TicketWrote b s w)
    (R : ChannelFreed b ((s.ctx b).exchangeCleared = false) (modCtx b (fun c => { c with held := [] }) w) r)
    (D : DrainTested (modBoothLine b lineAtCallEnd { freeContext b r with counters := counters }) t) :
    CompletedInPlace b s t := by
  have wctx : ∀ x, w.ctx x = s.ctx x := fun x => by rw [W.rest]; rfl
  have O : CallOver b s (modBoothLine b lineAtCallEnd { freeContext b r with counters := counters }) := by
    refine callOver_of_release R (fun x hx => ?_) ?_ ?_ (fun x hx => ?_) ?_ rfl rfl
    · rw [ctx_modCtx_ne hx, debit_modCtx, slot_modCtx, boothLine_modCtx, W.rest]
      exact ⟨rfl, rfl, rfl, rfl⟩
    · rw [modCtx_mgmt, W.rest]
    · rw [modCtx_line, W.rest]
    · refine ⟨?_, ?_, rfl, boothLine_modBoothLine_ne hx _ _⟩
      · exact (ctx_freeContext b x r).trans (if_neg hx.symm)
      · exact (debit_freeContext b x r).trans (if_neg hx.symm)
    · exact congrArg Ctx.state (ctx_freeContext_self b r)
  have uline : (modBoothLine b lineAtCallEnd { freeContext b r with counters := counters }).boothLine b =
      lineAtCallEnd (s.boothLine b) := by
    refine (boothLine_modBoothLine_self b lineAtCallEnd _).trans (congrArg lineAtCallEnd ?_)
    change r.boothLine b = _
    rw [R.frame, W.rest]
    rfl
  exact {
    ctx := by
      rw [D.rest]
      change (freeContext b r).ctx b = _
      rw [ctx_freeContext_self, R.calls b, ctx_modCtx_self, wctx]
      rfl
    ring := by
      rw [D.rest, R.frame]
      exact W.ring
    debit := by
      rw [D.rest]
      change (freeContext b r).debit b = _
      rw [debit_freeContext, if_pos rfl, R.frame, W.rest]
      rfl
    hangup := R.toChannelReleased.congr (by rw [W.rest]; rfl) (by rw [W.rest]; rfl) (by rw [D.rest]; rfl)
    line := fun hl => by rw [O.notDrained D hl, uline]
    lastLine := fun hl => by rw [(O.drained D hl).2 b, uline]
    others := O.othersAfterEnd D
    rest := by rw [D.rest, R.frame, W.rest]; rfl }

theorem completedInPlace_complete (b : Booth) (s : State) : CompletedInPlace b s (complete b false s) := by
  obtain ⟨counters, h⟩ := complete_eq b false s
  rw [h]
  refine completedInPlace_of_steps (ticketWrote_writeTicket b s) ?_ (drainTested_checkDrain _)
  have owes : ((s.ctx b).exchangeCleared = false) = ((!(s.ctx b).exchangeCleared) = true) := by rw [Bool.not_eq_true']
  rw [owes]
  exact channelFreed_releaseChannel _ _ _

/-- The line of a booth out of service hears nothing of the end of a drain: it is as the end of the call leaves it. -/
theorem lineAtDrainEnd_out {l : BoothLine} (enabled : Bool) (h : ¬(l.health = .inService ∨ l.health = .suspect)) :
    lineAtDrainEnd enabled l = l := if_neg fun both => h both.2

theorem lineAtCallEnd_out {l : BoothLine} (h : ¬(l.health = .inService ∨ l.health = .suspect)) :
    ¬((lineAtCallEnd l).health = .inService ∨ (lineAtCallEnd l).health = .suspect) := by
  unfold lineAtCallEnd
  split_ifs
  · rintro (h | h) <;> cases h
  · exact h

theorem CompletedInPlace.lineOut (h : CompletedInPlace b s t)
    (out : ¬((s.boothLine b).health = .inService ∨ (s.boothLine b).health = .suspect)) :
    t.boothLine b = lineAtCallEnd (s.boothLine b) := by
  by_cases last : LastBusy b s
  · rw [h.lastLine last, lineAtDrainEnd_out _ (lineAtCallEnd_out out)]
  · exact h.line last

/-! ## A request dropped with its call (R110) -/

/-- What a drop of booth b's outstanding request, if there is one, leaves (R110, R120). -/
structure RequestDropped (b : Booth) (s t : State) : Prop where
  debit : t.debit b = { s.debit b with
    outstanding := .none, uncertain := (t.debit b).uncertain
    uncertainCount :=
      if (s.debit b).outstanding = .none then (s.debit b).uncertainCount
      else min 255 ((s.debit b).uncertainCount + 1) }
  others : ∀ x, x ≠ b → t.debit x = s.debit x
  held : s.mgmt.faultHeld ≠ none → t.mgmt.faultHeld = s.mgmt.faultHeld
  later : (s.debit b).outstanding = .none → t.mgmt.laterFaults = s.mgmt.laterFaults
  rest : t = { s with
    debits := t.debits, counters := t.counters
    mgmt := { s.mgmt with faultHeld := t.mgmt.faultHeld, laterFaults := t.mgmt.laterFaults,
                          notices := t.mgmt.notices } }

theorem requestDropped_makeUncertain {a : Ask} (ho : (s.debit b).outstanding ≠ .none) :
    RequestDropped b s (makeUncertain b a true s) := by
  obtain ⟨counters, made⟩ := makeUncertain_eq b a s
  have taken := faultTaken_reportFault .uncertainCancel b (s.ctx b).plan (s.ctx b).walkDigits
    (((s.debit b).cards[a.entry]?).map CardEntry.identity)
    { modDebit b (Debit.madeUncertain a) s with counters := counters }
  have rest := reportFault_rest .uncertainCancel b (s.ctx b).plan (s.ctx b).walkDigits
    (((s.debit b).cards[a.entry]?).map CardEntry.identity)
    { modDebit b (Debit.madeUncertain a) s with counters := counters }
  rw [made]
  generalize reportFault _ _ _ _ _ _ = t at taken rest ⊢
  have debit : t.debit b = (s.debit b).madeUncertain a := by
    rw [rest]
    exact debit_modDebit_self b (Debit.madeUncertain a) s
  refine ⟨?_, fun x hx => ?_, fun busy => ?_, fun none => absurd none ho, ?_⟩
  · rw [debit, if_neg ho]
    rfl
  · rw [rest]
    exact debit_modDebit_ne hx (Debit.madeUncertain a) s
  · rw [taken.later busy]
    rfl
  · have debits : t.debits = (modDebit b (Debit.madeUncertain a) s).debits := by rw [rest]
    rw [debits]
    exact rest.trans (congrArg (fun m : Mgmt => { s with
      debits := (modDebit b (Debit.madeUncertain a) s).debits, counters := t.counters, mgmt := m }) taken.rest)

theorem requestDropped_dropOutstanding (b : Booth) (s : State) : RequestDropped b s (dropOutstanding b true s) := by
  cases ho : (s.debit b).outstanding with
  | none =>
    have same : dropOutstanding b true s = s := by
      unfold dropOutstanding
      rw [ho]
      rfl
    rw [same]
    exact ⟨by rw [if_pos ho, ← ho], fun _ _ => rfl, fun _ => rfl, fun _ => rfl, rfl⟩
  | cancel a | verify a =>
    unfold dropOutstanding
    rw [ho]
    exact requestDropped_makeUncertain (by rw [ho]; nofun)

/-! ## The call of a booth that leaves service (R20) -/

/-- Booth b's answered call, in s, is ready in v to be completed at once: it has this cause, its request is dropped and
its settle is cut short (R20, R120). -/
structure CutOff (b : Booth) (cause : Option EndCause) (s v : State) : Prop where
  ctx : v.ctx b = { s.ctx b with
    state := (v.ctx b).state, endCause := cause, swapWindow := (v.ctx b).swapWindow }
  debit : v.debit b = { s.debit b with
    nextTick := (v.debit b).nextTick, cardLeft := (v.debit b).cardLeft, stage := .settled
    outstanding := .none, uncertain := (v.debit b).uncertain
    uncertainCount :=
      if (s.debit b).outstanding = .none then (s.debit b).uncertainCount
      else min 255 ((s.debit b).uncertainCount + 1) }
  others : ∀ x, x ≠ b → v.ctx x = s.ctx x ∧ v.debit x = s.debit x
  held : s.mgmt.faultHeld ≠ none → v.mgmt.faultHeld = s.mgmt.faultHeld
  later : (s.debit b).outstanding = .none → v.mgmt.laterFaults = s.mgmt.laterFaults
  rest : v = { s with
    ctxs := v.ctxs, debits := v.debits, counters := v.counters
    mgmt := { s.mgmt with faultHeld := v.mgmt.faultHeld, laterFaults := v.mgmt.laterFaults,
                          notices := v.mgmt.notices } }

/-- A call in ENDING has its cause already. -/
theorem cutOff_dropped (b : Booth) (s : State) :
    CutOff b (s.ctx b).endCause s (modDebit b Debit.settle (dropOutstanding b true s)) := by
  obtain ⟨debit, others, held, later, rest⟩ := requestDropped_dropOutstanding b s
  generalize dropOutstanding b true s = u at debit others held later rest
  have ctx : ∀ x, u.ctx x = s.ctx x := fun x => by rw [rest]; rfl
  refine ⟨?_, ?_, fun x hx => ⟨ctx x, (debit_modDebit_ne hx _ u).trans (others x hx)⟩, held, later, ?_⟩
  · rw [ctx_modDebit, ctx]
  · rw [debit_modDebit_self]
    rw [debit]
    rfl
  · rw [rest]
    rfl

/-- A call in SPEECH or SWAP is put into ENDING first. -/
theorem cutOff_ending (b : Booth) (cause : EndCause) (s : State) :
    CutOff b (some cause) s (modDebit b Debit.settle (dropOutstanding b true (ending b cause s))) := by
  have cut := cutOff_dropped b (ending b cause s)
  generalize modDebit b Debit.settle _ = v at cut ⊢
  obtain ⟨ctx, debit, others, held, later, rest⟩ := cut
  rw [ctx_ending] at ctx
  rw [debit_ending] at debit later
  refine ⟨ctx, debit, fun x hx => ?_, held, later, ?_⟩
  · obtain ⟨octx, odebit⟩ := others x hx
    rw [octx, odebit, ending, ctx_modDebit, debit_modDebit_ne hx]
    exact ⟨ctx_modCtx_ne hx _ s, rfl⟩
  · exact rest

theorem CutOff.buildTicket {recorded : Option EndCause} (h : CutOff b recorded s v) :
    v.buildTicket b = ticketOf b recorded
      (if (s.debit b).outstanding = .none then (s.debit b).uncertainCount
        else min 255 ((s.debit b).uncertainCount + 1)) s := by
  have entry : v.entry b = s.entry b := by rw [h.rest]; rfl
  have ring : v.ring = s.ring := by rw [h.rest]
  unfold State.buildTicket ticketOf State.cardlessCall
  rw [entry, ring, h.ctx, h.debit]
  rfl

/-- The hook state of a booth that leaves service is ON (R20). -/
def hookedOn (b : Booth) (s : State) : State := modCtx b (fun c => { c with hookOff := false }) s

theorem endForHealth_free (cause : EndCause) (h : (s.ctx b).state = .free) : endForHealth b cause s = hookedOn b s := by
  unfold endForHealth
  rw [h]
  rfl

theorem endForHealth_unanswered (cause : EndCause) (h : (s.ctx b).state.preAnswer = true) :
    endForHealth b cause s = hookedOn b (endBeforeAnswer b cause s) := by
  unfold endForHealth
  dsimp only
  rw [if_pos h]
  rfl

/-- R20's end of an answered call: its settle is cut short and it is completed in place. -/
theorem endForHealth_answered (cause : EndCause)
    (h : (s.ctx b).state = .speech ∨ (s.ctx b).state = .swap ∨ (s.ctx b).state = .ending) :
    ∃ v, CutOff b (if (s.ctx b).state = .ending then (s.ctx b).endCause else some cause) s v
      ∧ endForHealth b cause s = hookedOn b (complete b false v) := by
  unfold endForHealth
  rcases h with h | h | h <;> rw [h]
  · exact ⟨_, cutOff_ending b cause s, rfl⟩
  · exact ⟨_, cutOff_ending b cause s, rfl⟩
  · exact ⟨_, cutOff_dropped b s, rfl⟩

/-! ## What the end leaves (R11, R17, R20) -/

/-- What is common to the ends of a call for health: the hook state ON, what the call charged as it was, nothing of the
Card Unit moved, and a fault already held kept. -/
structure CallGone (b : Booth) (s t : State) : Prop where
  charges : (t.debit b).p = (s.debit b).p ∧ (t.debit b).charged = (s.debit b).charged
    ∧ (t.debit b).covered = (s.debit b).covered
  line : ¬((s.boothLine b).health = .inService ∨ (s.boothLine b).health = .suspect) →
    t.boothLine b = lineAtCallEnd (s.boothLine b)
  others : OthersAfterEnd b s t
  held : s.mgmt.faultHeld ≠ none → t.mgmt.faultHeld = s.mgmt.faultHeld
  later : (s.debit b).outstanding = .none → t.mgmt.laterFaults = s.mgmt.laterFaults
  card : t.card = s.card

theorem OthersAfterEnd.hookedOn (h : OthersAfterEnd b s t) : OthersAfterEnd b s (hookedOn b t) where
  last := h.last
  more := h.more
  calls x hx := by
    obtain ⟨ctx, rest⟩ := h.calls x hx
    have same : (Machine.hookedOn b t).ctx x = t.ctx x := ctx_modCtx_ne hx _ t
    rw [same]
    exact ⟨ctx, rest⟩

theorem EndedBeforeAnswer.lineOut {cause : EndCause} (h : EndedBeforeAnswer b cause s t)
    (quiet : endSignal cause = none)
    (out : ¬((s.boothLine b).health = .inService ∨ (s.boothLine b).health = .suspect)) :
    t.boothLine b = lineAtCallEnd (s.boothLine b) := by
  have told : toldLine (endSignal cause) (s.boothLine b) = s.boothLine b := by rw [quiet]; rfl
  obtain ⟨-, -, -, -, line, lastLine, -, -, -, -⟩ := h
  rw [told] at line lastLine
  by_cases last : LastBusy b s
  · rw [lastLine last, lineAtDrainEnd_out _ (lineAtCallEnd_out out)]
  · exact line last

theorem callGone_unanswered {cause : EndCause} (quiet : endSignal cause = none)
    (h : (s.ctx b).state.preAnswer = true) : CallGone b s (endForHealth b cause s) := by
  have E := endedBeforeAnswer b cause s
  rw [endForHealth_unanswered cause h]
  generalize endBeforeAnswer b cause s = t at E ⊢
  refine ⟨?_, fun out => E.lineOut quiet out, E.others.hookedOn, fun _ => ?_, fun _ => ?_, ?_⟩
  · change (t.debit b).p = _ ∧ (t.debit b).charged = _ ∧ (t.debit b).covered = _
    rw [E.debit]
    exact ⟨rfl, rfl, rfl⟩
  · rw [hookedOn, modCtx_mgmt, E.rest]
  · rw [hookedOn, modCtx_mgmt, E.rest]
  · rw [hookedOn, modCtx_card, E.rest]

/-- What an end does to the other booths goes by what the call of booth b itself has no part in. -/
theorem OthersAfterEnd.congr (h : OthersAfterEnd b v t)
    (hs : ∀ x, x ≠ b →
      v.ctx x = s.ctx x ∧ v.debit x = s.debit x ∧ v.slot x = s.slot x ∧ v.boothLine x = s.boothLine x)
    (hservice : v.mgmt.service = s.mgmt.service) (hmap : ∀ x, v.entry x = s.entry x) : OthersAfterEnd b s t := by
  have last : LastBusy b v ↔ LastBusy b s := by
    unfold LastBusy
    rw [hservice]
    refine and_congr_right fun _ => forall₂_congr fun x hx => ?_
    obtain ⟨ctx, -⟩ := hs x hx
    rw [ctx]
  have drained : ∀ x, x ≠ b → drainedLine v x = drainedLine s x := fun x hx => by
    obtain ⟨-, -, -, line⟩ := hs x hx
    rw [drainedLine, line, hmap, drainedLine]
  refine ⟨fun l => ?_, fun l => ?_, fun x hx => ?_⟩
  · obtain ⟨service, lines⟩ := h.last (last.mpr l)
    exact ⟨service, fun x hx => (lines x hx).trans (drained x hx)⟩
  · obtain ⟨service, lines⟩ := h.more (mt last.mp l)
    refine ⟨service.trans hservice, fun x hx => ?_⟩
    obtain ⟨-, -, -, line⟩ := hs x hx
    exact (lines x hx).trans line
  · obtain ⟨ctx, debit, slot, -⟩ := hs x hx
    obtain ⟨tctx, tdebit, tslot⟩ := h.calls x hx
    exact ⟨ctx ▸ tctx, tdebit.trans debit, tslot.trans slot⟩

theorem CutOff.callGone {recorded : Option EndCause} (h : CutOff b recorded s v) :
    CallGone b s (Machine.hookedOn b (complete b false v)) := by
  have P := completedInPlace_complete b v
  generalize complete b false v = t at P ⊢
  have lines : ∀ x, v.boothLine x = s.boothLine x := fun x => by rw [h.rest]; rfl
  have others : OthersAfterEnd b s t := P.others.congr (fun x hx => by
    obtain ⟨ctx, debit⟩ := h.others x hx
    exact ⟨ctx, debit, by rw [h.rest]; rfl, lines x⟩) (by rw [h.rest]) (fun x => by rw [h.rest]; rfl)
  have theld : t.mgmt.faultHeld = v.mgmt.faultHeld := by rw [P.rest]
  have tlater : t.mgmt.laterFaults = v.mgmt.laterFaults := by rw [P.rest]
  refine ⟨?_, fun out => ?_, others.hookedOn, fun busy => theld.trans (h.held busy),
    fun none => tlater.trans (h.later none), ?_⟩
  · change (t.debit b).p = _ ∧ (t.debit b).charged = _ ∧ (t.debit b).covered = _
    rw [P.debit, h.debit]
    exact ⟨rfl, rfl, rfl⟩
  · refine (P.lineOut ?_).trans (congrArg lineAtCallEnd (lines b))
    rw [lines]
    exact out
  · rw [Machine.hookedOn, modCtx_card, P.rest, h.rest]

/-- A call ended because its booth left service (R20). -/
theorem callGone_endForHealth {cause : EndCause} (quiet : endSignal cause = none) (h : (s.ctx b).state ≠ .free) :
    CallGone b s (endForHealth b cause s) := by
  cases hs : (s.ctx b).state with
  | free => exact absurd hs h
  | dialling | cardWait | routed => exact callGone_unanswered quiet (by rw [hs]; rfl)
  | speech | swap | ending =>
    obtain ⟨v, cut, ends⟩ := endForHealth_answered (b := b) cause (by rw [hs]; simp)
    rw [ends]
    exact cut.callGone

end

end Sys2Proof.Machine
end

section
/-!
# READER FAULT (R91, R134)
-/

namespace Sys2Proof.Machine

section
variable {b : Booth} {s t u v : State}

/-- The two states differ in booth b's line and slot, in faults, notices and counters at most. -/
structure AlikeBeside (b : Booth) (s s' : State) : Prop where
  booths : ∀ x, s'.ctx x = s.ctx x ∧ s'.debit x = s.debit x ∧ s'.entry x = s.entry x
  others : ∀ x, x ≠ b → s'.slot x = s.slot x ∧ s'.boothLine x = s.boothLine x
  trunk : s'.trunk = s.trunk
  ring : s'.ring = s.ring
  service : s'.mgmt.service = s.mgmt.service
  settings : s'.settings = s.settings

theorem ticketOf_congr {cause : Option EndCause} {uncertain : Nat} (h : AlikeBeside b s u) :
    ticketOf b cause uncertain u = ticketOf b cause uncertain s := by
  obtain ⟨ctx, debit, entry⟩ := h.booths b
  unfold ticketOf State.cardlessCall
  rw [ctx, debit, entry, h.ring]

theorem OthersAfterEnd.alike (h : OthersAfterEnd b s t) (hs : AlikeBeside b s u) (ht : AlikeBeside b t v) :
    OthersAfterEnd b u v := by
  have before : OthersAfterEnd b u t := h.congr (fun x hx => by
    obtain ⟨ctx, debit, -⟩ := hs.booths x
    obtain ⟨slot, line⟩ := hs.others x hx
    exact ⟨ctx.symm, debit.symm, slot.symm, line.symm⟩) hs.service.symm fun x => by
      obtain ⟨-, -, entry⟩ := hs.booths x
      exact entry.symm
  obtain ⟨last, more, calls⟩ := before
  have lines : ∀ x, x ≠ b → v.boothLine x = t.boothLine x := fun x hx => by
    obtain ⟨-, line⟩ := ht.others x hx
    exact line
  refine ⟨fun l => ?_, fun l => ?_, fun x hx => ?_⟩
  · obtain ⟨service, line⟩ := last l
    exact ⟨ht.service.trans service, fun x hx => (lines x hx).trans (line x hx)⟩
  · obtain ⟨service, line⟩ := more l
    exact ⟨ht.service.trans service, fun x hx => (lines x hx).trans (line x hx)⟩
  · obtain ⟨ctx, debit, -⟩ := ht.booths x
    obtain ⟨slot, -⟩ := ht.others x hx
    rw [ctx, debit, slot]
    exact calls x hx

/-- What the end of a call for health says is said of states that differ in what it says nothing of. -/
theorem EndedForHealth.alike {cause : EndCause} (h : EndedForHealth b cause s t) (hs : AlikeBeside b s u)
    (ht : AlikeBeside b t v) (slot : v.slot b = .empty) : EndedForHealth b cause u v := by
  obtain ⟨uctx, udebit, uentry⟩ := hs.booths b
  obtain ⟨vctx, vdebit, -⟩ := ht.booths b
  obtain ⟨-, free, unanswered, answered, charges, others, settings⟩ := h
  have hangup : ∀ {owes : Prop}, ChannelReleased b owes s t → ChannelReleased b owes u v :=
    fun R => R.congr hs.trunk uentry ht.trunk
  refine ⟨slot, fun h => ?_, fun h => ?_, fun h => ?_, ?_, fun h => ?_, ?_⟩
  · obtain ⟨ctx, trunk, ring, service, calls⟩ := free (uctx ▸ h)
    refine ⟨by rw [vctx, ctx, uctx], by rw [ht.trunk, trunk, hs.trunk], by rw [ht.ring, ring, hs.ring],
      by rw [ht.service, service, hs.service], fun x hx => ?_⟩
    obtain ⟨xctx, xdebit, xslot, xline⟩ := calls x hx
    obtain ⟨sctx, sdebit, -⟩ := hs.booths x
    obtain ⟨tctx, tdebit, -⟩ := ht.booths x
    obtain ⟨sslot, sline⟩ := hs.others x hx
    obtain ⟨tslot, tline⟩ := ht.others x hx
    exact ⟨by rw [tctx, xctx, sctx], by rw [tdebit, xdebit, sdebit], by rw [tslot, xslot, sslot],
      by rw [tline, xline, sline]⟩
  · obtain ⟨ctx, ring, cards, uncertain, released⟩ := unanswered (uctx ▸ h)
    exact ⟨vctx.trans ctx, by rw [ht.ring, ring, hs.ring], by rw [vdebit, cards], by rw [vdebit, uncertain],
      hangup released⟩
  · have ended := answered (uctx ▸ h)
    dsimp only at ended ⊢
    rw [uctx, udebit, vctx, vdebit, ht.ring, hs.ring, ticketOf_congr hs]
    obtain ⟨ctx, ring, cards, outstanding, uncertain, count, stage, released⟩ := ended
    exact ⟨ctx, ring, cards, outstanding, uncertain, count, stage, hangup released⟩
  · rw [udebit, vdebit]
    exact charges
  · exact (others (uctx ▸ h)).alike hs ht
  · rw [ht.settings, settings, hs.settings]

/-- The slot emptied is booth b's alone. -/
theorem alikeBeside_setSlot (b : Booth) (x : CardSlot) (s : State) : AlikeBeside b s (setSlot b x s) where
  booths _ := ⟨rfl, rfl, rfl⟩
  others _ hx := ⟨slot_setSlot_ne hx x s, rfl⟩
  trunk := rfl
  ring := rfl
  service := rfl
  settings := rfl

theorem alikeBeside_modBoothLine (b : Booth) (f : BoothLine → BoothLine) (s : State) :
    AlikeBeside b s (modBoothLine b f s) where
  booths _ := ⟨rfl, rfl, rfl⟩
  others _ hx := ⟨rfl, boothLine_modBoothLine_ne hx f s⟩
  trunk := rfl
  ring := rfl
  service := rfl
  settings := rfl

theorem alikeBeside_notePending (b : Booth) (c : NoticeCause) (s : State) : AlikeBeside b s (notePending c s) where
  booths _ := ⟨rfl, rfl, rfl⟩
  others _ _ := ⟨rfl, rfl⟩
  trunk := rfl
  ring := rfl
  service := rfl
  settings := rfl

theorem alikeBeside_reportFault (kind : FaultKind) (b : Booth) (plan : Fin 8) (digits : List Digit)
    (card : Option (BitVec 16 × BitVec 32)) (s : State) : AlikeBeside b s (reportFault kind b plan digits card s) := by
  have settings : (reportFault kind b plan digits card s).settings = s.settings :=
    reportFault_closed (settings_closed s.settings) rfl
  have taken := (faultTaken_reportFault kind b plan digits card s).rest
  have rest := reportFault_rest kind b plan digits card s
  generalize reportFault kind b plan digits card s = t at settings taken rest ⊢
  refine ⟨fun x => ?_, fun x _ => ?_, ?_, ?_, by rw [taken], settings⟩
  · rw [rest]
    exact ⟨rfl, rfl, rfl⟩
  · rw [rest]
    exact ⟨rfl, rfl⟩
  · rw [rest]
  · rw [rest]

theorem alikeBeside_refl (b : Booth) (s : State) : AlikeBeside b s s :=
  ⟨fun _ => ⟨rfl, rfl, rfl⟩, fun _ _ => ⟨rfl, rfl⟩, rfl, rfl, rfl, rfl⟩

theorem AlikeBeside.trans (h : AlikeBeside b s t) (k : AlikeBeside b t u) : AlikeBeside b s u where
  booths x := by
    obtain ⟨hctx, hdebit, hentry⟩ := h.booths x
    obtain ⟨kctx, kdebit, kentry⟩ := k.booths x
    exact ⟨kctx.trans hctx, kdebit.trans hdebit, kentry.trans hentry⟩
  others x hx := by
    obtain ⟨hslot, hline⟩ := h.others x hx
    obtain ⟨kslot, kline⟩ := k.others x hx
    exact ⟨kslot.trans hslot, kline.trans hline⟩
  trunk := k.trunk.trans h.trunk
  ring := k.ring.trans h.ring
  service := k.service.trans h.service
  settings := k.settings.trans h.settings

theorem AlikeBeside.symm (h : AlikeBeside b s t) : AlikeBeside b t s where
  booths x := by
    obtain ⟨ctx, debit, entry⟩ := h.booths x
    exact ⟨ctx.symm, debit.symm, entry.symm⟩
  others x hx := by
    obtain ⟨slot, line⟩ := h.others x hx
    exact ⟨slot.symm, line.symm⟩
  trunk := h.trunk.symm
  ring := h.ring.symm
  service := h.service.symm
  settings := h.settings.symm

/-! ## The end of the call, whatever its state (R20) -/

theorem ctx_hookedOn (b : Booth) (s : State) : (hookedOn b s).ctx b = { s.ctx b with hookOff := false } :=
  ctx_modCtx_self b _ s

/-- A call without an answer is ended before answer (R11). -/
theorem endForHealth_endsUnanswered {cause : EndCause} (owes : cause ≠ .exchangeCleared)
    (h : (s.ctx b).state.preAnswer = true) (ht : t = endForHealth b cause s) :
    t.ctx b = { Ctx.reset with endCause := some cause } ∧ t.ring = { s.ring with reserved := s.ring.reserved - 1 }
      ∧ (t.debit b).cards = [] ∧ (t.debit b).uncertain = none ∧ ChannelReleased b True s t := by
  have E := endedBeforeAnswer b cause s
  rw [endForHealth_unanswered cause h] at ht
  generalize endBeforeAnswer b cause s = w at E ht
  subst ht
  rw [ctx_hookedOn, E.ctx]
  refine ⟨rfl, E.ring, ?_, ?_, ?_⟩
  · exact congrArg Debit.cards E.debit
  · exact congrArg Debit.uncertain E.debit
  · have hangup := E.hangup
    rw [eq_true owes] at hangup
    exact hangup.congr rfl rfl rfl

/-- An answered call has its ticket at once, its settle cut short and its request uncertain (R17, R20, R120). -/
theorem endForHealth_endsAnswered {cause : EndCause}
    (h : (s.ctx b).state = .speech ∨ (s.ctx b).state = .swap ∨ (s.ctx b).state = .ending)
    (ht : t = endForHealth b cause s) :
    let recorded := if (s.ctx b).state = .ending then (s.ctx b).endCause else some cause
    let uncertain :=
      if (s.debit b).outstanding = .none then (s.debit b).uncertainCount
      else min 255 ((s.debit b).uncertainCount + 1)
    t.ctx b = { Ctx.reset with endCause := recorded }
      ∧ t.ring = ticketWritten (ticketOf b recorded uncertain s) s.ring
      ∧ (t.debit b).cards = [] ∧ (t.debit b).outstanding = .none ∧ (t.debit b).uncertain = none
      ∧ (t.debit b).uncertainCount = uncertain ∧ (t.debit b).stage = .settled
      ∧ ChannelReleased b ((s.ctx b).exchangeCleared = false) s t := by
  intro recorded uncertain
  obtain ⟨v, cut, ends⟩ := endForHealth_answered cause h
  have P := completedInPlace_complete b v
  rw [ends] at ht
  generalize complete b false v = w at P ht
  subst ht
  have ring : v.ring = s.ring := by rw [cut.rest]
  have debit : (hookedOn b w).debit b = { v.debit b with cards := [], uncertain := none } := P.debit
  rw [ctx_hookedOn, P.ctx, debit, cut.ctx, cut.debit]
  refine ⟨rfl, ?_, rfl, rfl, rfl, rfl, rfl, ?_⟩
  · exact P.ring.trans (by rw [cut.buildTicket, ring])
  · have hangup := P.hangup
    rw [cut.ctx] at hangup
    exact hangup.congr (by rw [cut.rest]) (by rw [cut.rest]; rfl) rfl

/-- The call of a booth that leaves service is ended, and its slot may then be emptied (R20, R91). -/
theorem endedForHealth_emptied (b : Booth) {cause : EndCause} (quiet : endSignal cause = none)
    (owes : cause ≠ .exchangeCleared) (s : State) :
    EndedForHealth b cause s (setSlot b .empty (endForHealth b cause s)) where
  slot := slot_setSlot_self b .empty _
  free h := by
    rw [endForHealth_free cause h]
    refine ⟨ctx_hookedOn b s, rfl, rfl, rfl, fun x hx => ⟨?_, rfl, slot_setSlot_ne hx _ _, rfl⟩⟩
    rw [ctx_setSlot, hookedOn, ctx_modCtx_ne hx]
  unanswered h := by
    obtain ⟨ctx, ring, cards, uncertain, released⟩ := endForHealth_endsUnanswered owes h rfl
    exact ⟨ctx, ring, cards, uncertain, released.congr rfl rfl rfl⟩
  answered h := by
    obtain ⟨ctx, ring, cards, outstanding, uncertain, count, stage, released⟩ := endForHealth_endsAnswered h rfl
    exact ⟨ctx, ring, cards, outstanding, uncertain, count, stage, released.congr rfl rfl rfl⟩
  charges := by
    by_cases h : (s.ctx b).state = .free
    · rw [endForHealth_free cause h]
      exact ⟨rfl, rfl, rfl⟩
    · exact (callGone_endForHealth quiet h).charges
  others h := by
    have gone := callGone_endForHealth (cause := cause) quiet h
    exact gone.others.alike (alikeBeside_refl b s) (alikeBeside_setSlot b .empty _)
  settings := endForHealth_closed (settings_closed s.settings) rfl

/-! ## READER FAULT (R91, R134) -/

/-- The line of a booth that a READER FAULT puts out of service, before its work is cleared (R134). -/
def readerLine (l : BoothLine) : BoothLine := { l with health := .reader, probeTimer := none, probeDue := false }

/-- The steps after the end of the call (R91, R134): the work cleared, OUT OF ORDER queued, BOOTH OUT pending, the slot
emptied. -/
def readerLeft (b : Booth) (s : State) : State :=
  setSlot b .empty (notePending .boothOut
    (modBoothLine b (fun l => toldLine (some .outOfOrder) (clearedLine l)) s))

theorem enterReader_eq (b : Booth) (s : State) :
    enterReader b s = readerLeft b (endForHealth b .readerFault (modBoothLine b readerLine s)) := by
  unfold enterReader clearPending
  rw [postSignal_eq, modBoothLine_modBoothLine]
  rfl

/-- The report of a READER FAULT (R91, R177). -/
def readerReport (b : Booth) (s : State) : FaultReport :=
  { kind := .readerFault, booth := b, plan := (s.entry b).plan, digits := [], card := (s.slot b).identity,
    clock := s.tariff.clock }

/-- The state in which the READER FAULT has been reported. -/
def readerReported (b : Booth) (s : State) : State :=
  reportFault .readerFault b (s.entry b).plan [] (s.slot b).identity s

theorem readerFaultEvent_enters (h : (s.boothLine b).health ≠ .reader) :
    readerFaultEvent b s = enterReader b (readerReported b s) := by
  unfold readerFaultEvent
  dsimp only
  split
  · next hr => exact absurd hr h
  · rfl

theorem readerFaultEvent_again (h : (s.boothLine b).health = .reader) :
    readerFaultEvent b s = readerReported b s := by
  unfold readerFaultEvent
  dsimp only
  rw [h]
  rfl

theorem boothLine_readerReported (b : Booth) (s : State) : (readerReported b s).boothLine b = s.boothLine b := by
  unfold readerReported
  rw [reportFault_rest]
  rfl

theorem faultTaken_readerReported (b : Booth) (s : State) : FaultTaken (readerReport b s) s (readerReported b s) :=
  faultTaken_reportFault .readerFault b (s.entry b).plan [] (s.slot b).identity s

theorem FaultTaken.holds {r : FaultReport} (h : FaultTaken r s t) :
    t.mgmt.faultHeld = some (s.mgmt.faultHeld.getD r) := by
  cases hf : s.mgmt.faultHeld with
  | none =>
    obtain ⟨held, -⟩ := h.held hf
    exact held
  | some x =>
    rw [h.later (by rw [hf]; nofun)]
    exact hf

/-- The line of the booth that a READER FAULT takes out of service (R134). -/
theorem readerLeft_line (l : BoothLine) :
    toldLine (some .outOfOrder) (clearedLine (readerLine l)) =
      { clearedLine l with health := .reader, probeTimer := none, probeDue := false, signals := [.outOfOrder] } := rfl

/-- That line when a take-out mark is honoured at the end of the booth's call (R17, R134). -/
theorem readerLeft_markedLine {l : BoothLine} (h : l.mark = true) :
    toldLine (some .outOfOrder) (clearedLine (lineAtCallEnd (readerLine l))) =
      { clearedLine l with
        health := .taken, mark := false, probeTimer := none, probeDue := false, signals := [.outOfOrder] } := by
  rw [lineAtCallEnd_marked (l := readerLine l) h]
  rfl

theorem boothLine_readerLeft (b : Booth) (s : State) :
    (readerLeft b s).boothLine b = toldLine (some .outOfOrder) (clearedLine (s.boothLine b)) := by
  unfold readerLeft
  rw [boothLine_setSlot]
  exact boothLine_modBoothLine_self b (fun l => toldLine (some .outOfOrder) (clearedLine l)) s

theorem alikeBeside_readerLeft (b : Booth) (s : State) : AlikeBeside b s (readerLeft b s) :=
  ((alikeBeside_modBoothLine b _ s).trans (alikeBeside_notePending b .boothOut _)).trans
    (alikeBeside_setSlot b .empty _)

/-- The end of a call for health keeps a fault already held, and counts none without a request to drop. -/
theorem faults_endForHealth {cause : EndCause} (quiet : endSignal cause = none) :
    (s.mgmt.faultHeld ≠ none → (endForHealth b cause s).mgmt.faultHeld = s.mgmt.faultHeld)
      ∧ ((s.debit b).outstanding = .none → (endForHealth b cause s).mgmt.laterFaults = s.mgmt.laterFaults) := by
  by_cases h : (s.ctx b).state = .free
  · rw [endForHealth_free cause h]
    exact ⟨fun _ => rfl, fun _ => rfl⟩
  · have gone := callGone_endForHealth (cause := cause) quiet h
    exact ⟨gone.held, gone.later⟩

/-- A booth that is not READER leaves service by a READER FAULT (R91, R134). -/
theorem leavesService_readerFault (h : (s.boothLine b).health ≠ .reader) :
    LeavesService b .readerFault (readerReport b s)
      { clearedLine (s.boothLine b) with
        health := .reader, probeTimer := none, probeDue := false, signals := [.outOfOrder] } s
      (readerFaultEvent b s) := by
  have reported := faultTaken_readerReported b s
  have alike : AlikeBeside b s (modBoothLine b readerLine (readerReported b s)) :=
    (alikeBeside_reportFault ..).trans (alikeBeside_modBoothLine b readerLine _)
  have line : (modBoothLine b readerLine (readerReported b s)).boothLine b = readerLine (s.boothLine b) := by
    rw [boothLine_modBoothLine_self, boothLine_readerReported]
  have mgmt : (modBoothLine b readerLine (readerReported b s)).mgmt = (readerReported b s).mgmt := rfl
  rw [readerFaultEvent_enters h, enterReader_eq]
  generalize modBoothLine b readerLine (readerReported b s) = v at alike line mgmt ⊢
  obtain ⟨ctx, debit, -⟩ := alike.booths b
  obtain ⟨held, later⟩ := faults_endForHealth (b := b) (s := v) (cause := .readerFault) rfl
  have ended := endedForHealth_emptied b (cause := .readerFault) rfl nofun v
  have gone : (v.ctx b).state ≠ .free →
      (endForHealth b .readerFault v).boothLine b = lineAtCallEnd (readerLine (s.boothLine b)) := fun busy => by
    rw [(callGone_endForHealth rfl busy).line (by rw [line]; rintro (h | h) <;> cases h), line]
  have idle : (v.ctx b).state = .free →
      (endForHealth b .readerFault v).boothLine b = readerLine (s.boothLine b) := fun free => by
    rw [endForHealth_free .readerFault free]
    exact line
  generalize endForHealth b .readerFault v = w at held later ended gone idle ⊢
  refine ⟨fun kept => ?_, fun marked busy => ?_, ?_, ?_, fun asks busy => ?_, notePending_waiting .boothOut _⟩
  · have wline : w.boothLine b = readerLine (s.boothLine b) := by
      by_cases free : (v.ctx b).state = .free
      · exact idle free
      · have unmarked := kept.resolve_right (ctx ▸ free)
        rw [gone free, lineAtCallEnd_unmarked (l := readerLine (s.boothLine b)) unmarked]
    rw [boothLine_readerLeft, wline, readerLeft_line]
  · rw [boothLine_readerLeft, gone (by rw [ctx]; exact busy), readerLeft_markedLine marked]
  · exact ended.alike alike.symm
      ((alikeBeside_setSlot b .empty w).symm.trans (alikeBeside_readerLeft b w)) (slot_setSlot_self b .empty _)
  · change w.mgmt.faultHeld = _
    rw [held (by rw [mgmt, reported.holds]; nofun), mgmt, reported.holds]
  · change w.mgmt.laterFaults = _
    rw [later (by rw [debit]; exact asks), mgmt, reported.later busy]

theorem readerFaultTaken (b : Booth) (s : State) : ReaderFaultTaken b s (readerFaultEvent b s) where
  enters := leavesService_readerFault
  again h := by
    rw [readerFaultEvent_again h]
    exact ⟨faultTaken_readerReported b s, reportFault_rest .readerFault b (s.entry b).plan [] (s.slot b).identity s⟩

/-! ## READER FAULT as a reply (R91, R130) -/

/-- The work that a good reply has served leaves the booth's line by the request (R130). -/
theorem clearServed_eq (tr : Transaction) (s : State) :
    clearServed tr s = modBoothLine tr.booth (servedLine tr.request) s := by
  unfold clearServed
  cases hr : tr.request with
  | poll bit | signal sig => exact (modBoothLine_of_fixed rfl).symm
  | status | cancel n serial | verify serial | eject | retain serial => rfl

/-- FAIL READER FAULT is accepted to any request, a probe's too, and is the fault as an event (R91). -/
theorem exec_fail_readerFault {g : Segment} {drop tag : Byte} {count : BitVec 16} {tr : Transaction}
    (ht : tag.toNat ≤ 7) (opened : (s.seg g).transaction = some tr) (hdrop : tr.drop = drop.toNat)
    (htag : tr.tag.val = tag.toNat) (counts : tr.orphan = false) :
    exec (.fail g drop tag .readerFault count) s =
      .next (readerFaultEvent tr.booth
        (modBoothLine tr.booth (servedLine tr.request) (closedGood g tr.booth none s))) := by
  have accepts : tr.request.accepts (.fail .readerFault count) = true := by cases tr.request <;> rfl
  have follow : s.followOnAfter tr (.fail .readerFault count) = none := by
    unfold State.followOnAfter
    cases tr.request <;> rfl
  rw [exec_fail]
  unfold receiveReply
  rw [if_pos (by rw [decide_eq_true ht]; rfl), opened]
  dsimp only
  rw [if_pos ⟨htag, hdrop⟩, if_pos accepts]
  unfold goodReply
  rw [follow, counts, ← clearServed_eq]
  rfl

end

end Sys2Proof.Machine

section
open Sys2Proof Sys2Proof.Machine

/-- Settles O42: the reply goes to its owner on the closed transaction (`exec_reply_debit`, `exec_fail_eject`,
`exec_fail_retain`, `exec_fail_readerFault`), where its outcome is that of the Debit Unit's requests
(`goesOnCardless_cardGone`, `WriteErrorConfirms`, `madeUncertain_makeUncertain`) or the end of the call of a booth that
leaves service (`endedForHealth_emptied`, `leavesService_readerFault`). -/
theorem failByRequestAndReason : Obligations.FailByRequestAndReason := by
  refine ⟨fun s g drop tag b count ht => ⟨fun n serial a reason cardless h out => ?_,
    fun n serial a e h out card low high => ?_, fun serial a e reply h out card uncertain => ?_,
    fun r x action h slot => exec_fail_eject ht h slot, fun serial reason gone h => exec_fail_retain ht gone h,
    fun tr opened drop tag booth counts => ?_⟩, fun s b m => readerFaultTaken b s⟩
  · have accepts : (Request.cancel n serial).accepts (.fail reason count) = true := by
      rcases cardless with rfl | rfl <;> rfl
    have reply := exec_reply_debit (.inl ⟨n, serial, rfl⟩) ht h accepts (by rcases cardless with rfl | rfl <;> nofun)
    rw [debitOutcome_cardless cardless (by rw [debit_debitClosed]; exact out)] at reply
    exact ⟨_, reply, goesOnCardless_cardGone b a.final _⟩
  · have reply := exec_reply_debit (reply := .fail .writeError count) (.inl ⟨n, serial, rfl⟩) ht h rfl nofun
    rw [debitOutcome_writeError (by rw [debit_debitClosed]; exact out)] at reply
    obtain ⟨s1, s2, W⟩ := (requestClosed_clearOutstanding g b s).writeErrorConfirms card low high
    exact ⟨s1, s2, _, reply, W.confirms, W.shown, W.work, W.released, W.speech, W.ending, W.waits⟩
  · have leaves : LeavesUncertain e count reply := uncertain
    obtain ⟨accepts, noFault⟩ := leaves.accepted (serial := serial)
    have card' : ((debitClosed g b s).debit b).cards[a.entry]? = some e := by rw [debit_debitClosed]; exact card
    rw [exec_reply_debit (.inr ⟨serial, rfl⟩) ht h accepts noFault,
      debitOutcome_uncertain leaves (by rw [debit_debitClosed]; exact out) card']
    exact ⟨_, _, rfl, madeUncertain_makeUncertain card', goesOnCardless_cardGone b a.final _⟩
  · subst booth
    exact ⟨_, exec_fail_readerFault ht opened drop tag counts, readerFaultTaken tr.booth _⟩

end
end

section
/-!
# BOOTH MAP WRITE (R91, R125, R131)
-/

namespace Sys2Proof.Machine

section
variable {b x : Booth} {g : Segment} {e old new : MapEntry} {s : State}

/-! ## The arguments -/

theorem segmentOf_eq_some {v : Byte} : segmentOf v = some g ↔ g.code = v.toNat := by
  unfold segmentOf
  split_ifs with west east
  · subst west
    cases g <;> decide
  · subst east
    cases g <;> decide
  · refine ⟨nofun, fun h => ?_⟩
    cases g
    · exact absurd (BitVec.eq_of_toNat_eq h.symm) west
    · exact absurd (BitVec.eq_of_toNat_eq h.symm) east

/-- A BOOTH MAP WRITE is in range exactly when each field is (R125). -/
theorem boothMapArgs_eq_some {n c d ch p f : Byte} :
    boothMapArgs [n, c, d, ch, p, f] = some (b, e) ↔
      b.val = n.toNat ∧ e.segment.code = c.toNat ∧ (1 ≤ d.toNat ∧ d.toNat ≤ 31 ∧ e.drop = d.toNat)
        ∧ e.channel.val = ch.toNat ∧ e.plan.val = p.toNat ∧ (f.toNat ≤ 1 ∧ e.enabled = decide (f = 1#8)) := by
  rw [← finOf_eq_some, ← segmentOf_eq_some, ← finOf_eq_some, ← finOf_eq_some, ← flagOf_eq_some]
  unfold boothMapArgs
  dsimp only
  split
  next booth segment channel plan enabled =>
    rw [booth, segment, channel, plan, enabled]
    obtain ⟨segment', drop, channel', plan', enabled'⟩ := e
    split_ifs with range
    · simp [range, eq_comm]
    · simp [← and_assoc, range]
  next unnamed =>
    refine ⟨nofun, ?_⟩
    rintro ⟨booth, segment, -, channel, plan, enabled⟩
    exact (unnamed _ _ _ _ _ booth segment channel plan enabled).elim

/-! ## The checks (R125) -/

/-- Another enabled booth has the entry's drop address on the entry's segment. -/
def State.DropTaken (s : State) (b : Booth) (e : MapEntry) : Prop :=
  ∃ x, x ≠ b ∧ (s.entry x).enabled = true ∧ (s.entry x).segment = e.segment ∧ (s.entry x).drop = e.drop

/-- Another enabled booth has the entry's trunk channel. -/
def State.ChannelTaken (s : State) (b : Booth) (e : MapEntry) : Prop :=
  ∃ x, x ≠ b ∧ (s.entry x).enabled = true ∧ (s.entry x).channel = e.channel

theorem otherEnabled_iff {p : MapEntry → Bool} :
    s.otherEnabled b p = true ↔ ∃ x, x ≠ b ∧ (s.entry x).enabled = true ∧ p (s.entry x) = true := by
  simp [State.otherEnabled, allBooths, and_assoc]

theorem dropTaken_iff :
    (s.otherEnabled b fun x => decide (x.segment = e.segment) && decide (x.drop = e.drop)) = true ↔
      s.DropTaken b e := by
  simp [otherEnabled_iff, State.DropTaken]

theorem channelTaken_iff :
    (s.otherEnabled b fun x => decide (x.channel = e.channel)) = true ↔ s.ChannelTaken b e := by
  simp [otherEnabled_iff, State.ChannelTaken]

theorem mapRefusal_busy (h : (s.ctx b).state ≠ .free) : s.mapRefusal b e = some .state := if_pos h

theorem mapRefusal_disabled (h : (s.ctx b).state = .free) (off : e.enabled = false) : s.mapRefusal b e = none := by
  unfold State.mapRefusal
  rw [if_neg (not_not.mpr h), if_pos off]

/-- The checks of a write that enables, or leaves enabled, a FREE booth. -/
theorem mapRefusal_enabled (h : (s.ctx b).state = .free) (on : e.enabled = true) :
    s.mapRefusal b e =
      if s.otherEnabled b fun x => decide (x.segment = e.segment) && decide (x.drop = e.drop) then some .conflict
      else if s.otherEnabled b fun x => decide (x.channel = e.channel) then some .conflict
      else if 24 ≤ s.othersOn b e.segment then some .full
      else none := by
  unfold State.mapRefusal
  rw [if_neg (not_not.mpr h), if_neg (by rw [on]; decide)]

theorem mapRefusal_taken (h : (s.ctx b).state = .free) (on : e.enabled = true)
    (taken : s.DropTaken b e ∨ s.ChannelTaken b e) : s.mapRefusal b e = some .conflict := by
  rw [mapRefusal_enabled h on]
  rcases taken with taken | taken
  · rw [if_pos (dropTaken_iff.mpr taken)]
  · rw [if_pos (channelTaken_iff.mpr taken), ite_self]

theorem mapRefusal_untaken (h : (s.ctx b).state = .free) (on : e.enabled = true) (drop : ¬s.DropTaken b e)
    (channel : ¬s.ChannelTaken b e) : s.mapRefusal b e = if 24 ≤ s.othersOn b e.segment then some .full else none := by
  rw [mapRefusal_enabled h on, if_neg (mt dropTaken_iff.mp drop), if_neg (mt channelTaken_iff.mp channel)]

/-- What holds of an entry that passes the checks and enables its booth. -/
theorem untaken_of_mapRefusal (h : s.mapRefusal b e = none) (on : e.enabled = true) :
    ¬s.DropTaken b e ∧ ¬s.ChannelTaken b e ∧ s.othersOn b e.segment < 24 := by
  by_cases free : (s.ctx b).state = .free
  · by_cases taken : s.DropTaken b e ∨ s.ChannelTaken b e
    · rw [mapRefusal_taken free on taken] at h
      cases h
    · obtain ⟨drop, channel⟩ := not_or.mp taken
      rw [mapRefusal_untaken free on drop channel] at h
      refine ⟨drop, channel, Nat.not_le.mp fun full => ?_⟩
      rw [if_pos full] at h
      cases h
  · rw [mapRefusal_busy free] at h
    cases h

/-! ## The effect (R125) -/

theorem entry_setEntry (b x : Booth) (e : MapEntry) (s : State) :
    (setEntry b e s).entry x = if x = b then e else s.entry x := by
  unfold setEntry State.entry
  rw [get_set]
  simp only [eq_comm]

/-- The segment with the transaction open to the booth, if there is one, to be discarded. -/
def orphaned (b : Booth) (l : SegLine) : SegLine :=
  { l with transaction := l.transaction.map fun tr => if tr.booth = b then { tr with orphan := true } else tr }

theorem disableBooth_eq (b : Booth) (g : Segment) (s : State) :
    disableBooth b g s = setSlot b .empty (modBoothLine b leftLine (modSeg g (orphaned b) s)) := rfl

theorem enableBooth_eq (b : Booth) (s : State) : enableBooth b s = modBoothLine b enteredLine s := rfl

@[simp] theorem boothLine_modSeg (g : Segment) (f : SegLine → SegLine) (s : State) (x : Booth) :
    (modSeg g f s).boothLine x = s.boothLine x := by cases g <;> rfl
@[simp] theorem slot_modSeg (g : Segment) (f : SegLine → SegLine) (s : State) (x : Booth) :
    (modSeg g f s).slot x = s.slot x := by cases g <;> rfl
@[simp] theorem seg_modBoothLine (b : Booth) (f : BoothLine → BoothLine) (s : State) (g : Segment) :
    (modBoothLine b f s).seg g = s.seg g := by cases g <;> rfl
@[simp] theorem seg_setSlot (b : Booth) (y : CardSlot) (s : State) (g : Segment) :
    (setSlot b y s).seg g = s.seg g := by cases g <;> rfl
@[simp] theorem seg_bump (c : CounterId) (s : State) (g : Segment) : (bump c s).seg g = s.seg g := by
  cases g <;> rfl
@[simp] theorem seg_setEntry (b : Booth) (e : MapEntry) (s : State) (g : Segment) :
    (setEntry b e s).seg g = s.seg g := by cases g <;> rfl

/-- A booth that leaves service: its line, its slot and its segment (R91, R125). -/
structure BoothDisabled (b : Booth) (g : Segment) (s t : State) : Prop where
  line : t.boothLine b = leftLine (s.boothLine b)
  slot : t.slot b = .empty
  seg : t.seg g = orphaned b (s.seg g)
  segs : ∀ g', g' ≠ g → t.seg g' = s.seg g'

theorem boothDisabled_disableBooth (b : Booth) (g : Segment) (s : State) :
    BoothDisabled b g s (disableBooth b g s) := by
  rw [disableBooth_eq]
  refine ⟨?_, slot_setSlot_self b _ _, ?_, fun g' hg => ?_⟩
  · simp
  · simp
  · simp [seg_modSeg_ne hg.symm]

/-- A booth that leaves one place and enters another, on its old segment's last transaction (R125). -/
theorem BoothDisabled.enable {t : State} (h : BoothDisabled b g s t) :
    (enableBooth b t).boothLine b = enteredLine (leftLine (s.boothLine b)) ∧ (enableBooth b t).slot b = .empty
      ∧ (enableBooth b t).seg g = orphaned b (s.seg g) ∧ ∀ g', g' ≠ g → (enableBooth b t).seg g' = s.seg g' := by
  rw [enableBooth_eq]
  refine ⟨?_, h.slot, ?_, fun g' hg => ?_⟩
  · rw [boothLine_modBoothLine_self, h.line]
  · rw [seg_modBoothLine, h.seg]
  · rw [seg_modBoothLine, h.segs g' hg]

/-- What the disabling and the enabling of the booth keep, the effect of a write keeps. -/
theorem mapEffect_keeps {P : State → Prop} (hs : P s) (disabled : ∀ g t, P t → P (disableBooth b g t))
    (enabled : ∀ t, P t → P (enableBooth b t)) : P (mapEffect b old new s) := by
  unfold mapEffect
  split
  · exact hs
  · exact disabled _ _ hs
  · exact enabled _ hs
  · split
    · exact hs
    · exact enabled _ (disabled _ _ hs)

theorem mapEffect_stays (h : (old.enabled = false ∧ new.enabled = false)
      ∨ (old.enabled = true ∧ new.enabled = true ∧ old.segment = new.segment ∧ old.drop = new.drop)) :
    mapEffect b old new s = s := by
  unfold mapEffect
  rcases h with ⟨was, is⟩ | ⟨was, is, place⟩
  · rw [was, is]
  · rw [was, is]
    exact if_pos place

theorem mapEffect_disables (was : old.enabled = true) (is : new.enabled = false) :
    mapEffect b old new s = disableBooth b old.segment s := by
  unfold mapEffect
  rw [was, is]

theorem mapEffect_enables (was : old.enabled = false) (is : new.enabled = true) :
    mapEffect b old new s = enableBooth b s := by
  unfold mapEffect
  rw [was, is]

theorem mapEffect_moves (was : old.enabled = true) (is : new.enabled = true)
    (moved : old.segment ≠ new.segment ∨ old.drop ≠ new.drop) :
    mapEffect b old new s = enableBooth b (disableBooth b old.segment s) := by
  unfold mapEffect
  rw [was, is]
  exact if_neg (not_and_or.mpr moved)

/-- Beside the booth, its slot and the segments the effect of a write reaches nothing (R125). -/
structure MapEffectFrame (b : Booth) (s t : State) : Prop where
  map : t.line.map = s.line.map
  others : ∀ x, x ≠ b → t.boothLine x = s.boothLine x ∧ t.slot x = s.slot x
  rest : t = { s with line := t.line, card := { s.card with slots := t.card.slots } }

theorem mapEffectFrame_mapEffect (b : Booth) (old new : MapEntry) (s : State) :
    MapEffectFrame b s (mapEffect b old new s) := by
  refine mapEffect_keeps ⟨rfl, fun _ _ => ⟨rfl, rfl⟩, rfl⟩ (fun g t h => ?_) fun t h => ?_
  · obtain ⟨map, others, rest⟩ := h
    rw [disableBooth_eq]
    refine ⟨by simp [map], fun x hx => ?_, ?_⟩
    · rw [boothLine_setSlot, boothLine_modBoothLine_ne hx, boothLine_modSeg, slot_setSlot_ne hx, slot_modBoothLine,
        slot_modSeg]
      exact others x hx
    · rw [rest]
      cases g <;> rfl
  · obtain ⟨map, others, rest⟩ := h
    refine ⟨map, fun x hx => ?_, ?_⟩
    · rw [enableBooth_eq, boothLine_modBoothLine_ne hx]
      exact others x hx
    · rw [rest]
      rfl

end

/-! ## The row -/

section
variable {o t : Byte} {args : List Byte} {rest : List Cmd} {s : State} {b : Booth} {e : MapEntry}

theorem exec_boothMapWrite (hc : CanTake .booths ⟨o, t, 0x30#8, args⟩ rest s) (length : args.length = 6) :
    exec (.boothMapWrite o t args) s =
      .next (answerCommand ⟨o, t, 0x30#8, args⟩ (boothMapOwner args (popped rest s))) := by
  refine congrArg Host.Outcome.next ?_
  rw [beq_iff_eq.mpr length]
  exact takeCommand_canTake hc

theorem exec_boothMapWrite_refused (hc : CanTake .booths ⟨o, t, 0x30#8, args⟩ rest s) (length : args.length = 6)
    (named : boothMapArgs args = some (b, e)) {why : CmdOutcome} (hw : why ≠ .done)
    (refuses : s.mapRefusal b e = some why) :
    exec (.boothMapWrite o t args) s = .next (refusal ⟨o, t, 0x30#8, args⟩ why (popped rest s)) := by
  have refuses : (popped rest s).mapRefusal b e = some why := refuses
  rw [exec_boothMapWrite hc length, boothMapOwner, named, inRange_some]
  dsimp only
  rw [refuses]
  dsimp only
  rw [answerCommand_refusedWith _ hw]

theorem exec_boothMapWrite_written (hc : CanTake .booths ⟨o, t, 0x30#8, args⟩ rest s) (length : args.length = 6)
    (named : boothMapArgs args = some (b, e)) (passes : s.mapRefusal b e = none) :
    exec (.boothMapWrite o t args) s =
      .next (doneWith ⟨o, t, 0x30#8, args⟩ .none
        (bump Ctr.boothMapWrites (mapEffect b (s.entry b) e (setEntry b e (popped rest s))))) := by
  have passes : (popped rest s).mapRefusal b e = none := passes
  rw [exec_boothMapWrite hc length, boothMapOwner, named, inRange_some]
  dsimp only
  rw [passes]
  dsimp only
  rw [answerCommand_carriedOut]
  rfl

theorem exec_boothMapWrite_outOfRange (hc : CanTake .booths ⟨o, t, 0x30#8, args⟩ rest s) (length : args.length = 6)
    (unnamed : boothMapArgs args = none) :
    exec (.boothMapWrite o t args) s = .next (refusal ⟨o, t, 0x30#8, args⟩ .range (popped rest s)) := by
  rw [exec_boothMapWrite hc length, boothMapOwner, unnamed, inRange_none, answerCommand_refusedWith _ (by decide)]

/-- What the obligation says of the booth's line and slot and of the segments after a write, by its old and its new
entry (R125). -/
structure MapWritten (b : Booth) (old new : MapEntry) (s u : State) : Prop where
  entries : ∀ x, u.entry x = if x = b then new else s.entry x
  others : ∀ x, x ≠ b → u.boothLine x = s.boothLine x ∧ u.slot x = s.slot x
  stays : ((old.enabled = false ∧ new.enabled = false)
      ∨ (old.enabled = true ∧ new.enabled = true ∧ old.segment = new.segment ∧ old.drop = new.drop)) →
    u.boothLine b = s.boothLine b ∧ u.slot b = s.slot b ∧ ∀ g, u.seg g = s.seg g
  disabled : old.enabled = true → new.enabled = false →
    u.boothLine b = leftLine (s.boothLine b) ∧ u.slot b = .empty
      ∧ (∀ g, g ≠ old.segment → u.seg g = s.seg g) ∧ u.seg old.segment = orphaned b (s.seg old.segment)
  enabled : old.enabled = false → new.enabled = true →
    u.boothLine b = enteredLine (s.boothLine b) ∧ u.slot b = s.slot b ∧ ∀ g, u.seg g = s.seg g
  moved : old.enabled = true → new.enabled = true → (old.segment ≠ new.segment ∨ old.drop ≠ new.drop) →
    u.boothLine b = enteredLine (leftLine (s.boothLine b)) ∧ u.slot b = .empty
      ∧ (∀ g, g ≠ old.segment → u.seg g = s.seg g) ∧ u.seg old.segment = orphaned b (s.seg old.segment)
  rest : u = { s with line := u.line, card := { s.card with slots := u.card.slots } }

theorem mapWritten_mapEffect (b : Booth) (old new : MapEntry) (s : State) :
    MapWritten b old new s (mapEffect b old new (setEntry b new s)) where
  entries x := by
    rw [← entry_setEntry]
    exact congrArg (fun m : Vector MapEntry 48 => m.get x) (mapEffectFrame_mapEffect b old new (setEntry b new s)).map
  others := (mapEffectFrame_mapEffect b old new (setEntry b new s)).others
  stays h := by
    rw [mapEffect_stays h]
    exact ⟨rfl, rfl, seg_setEntry b new s⟩
  disabled was is := by
    rw [mapEffect_disables was is]
    obtain ⟨line, slot, seg, segs⟩ := boothDisabled_disableBooth b old.segment (setEntry b new s)
    rw [seg_setEntry] at seg
    exact ⟨line, slot, fun g hg => (segs g hg).trans (seg_setEntry b new s g), seg⟩
  enabled was is := by
    rw [mapEffect_enables was is, enableBooth_eq]
    exact ⟨boothLine_modBoothLine_self b _ _, rfl, fun g => (seg_modBoothLine b _ _ g).trans (seg_setEntry b new s g)⟩
  moved was is place := by
    rw [mapEffect_moves was is place]
    obtain ⟨line, slot, seg, segs⟩ := (boothDisabled_disableBooth b old.segment (setEntry b new s)).enable
    rw [seg_setEntry] at seg
    exact ⟨line, slot, fun g hg => (segs g hg).trans (seg_setEntry b new s g), seg⟩
  rest := (mapEffectFrame_mapEffect b old new (setEntry b new s)).rest

end

end Sys2Proof.Machine

section
open Sys2Proof Sys2Proof.Machine

/-- Settles O14: the arguments are in range exactly when each field is (`boothMapArgs_eq_some`), the checks come in
R125's order (`mapRefusal_busy`, `mapRefusal_taken`, `mapRefusal_untaken`), and the effect goes by the old and the new
entry (`mapWritten_mapEffect`). -/
theorem boothMapWriteChecksAndEffect : Obligations.BoothMapWriteChecksAndEffect := by
  intro o t b g d ch p f rest s args c hc
  refine ⟨?_, fun bad => exec_boothMapWrite_outOfRange hc rfl ?_⟩
  · intro hb seg hch hp hseg low high hf booth e sameDrop sameChannel others old orphaned
    have named : boothMapArgs args = some (booth, e) :=
      boothMapArgs_eq_some.mpr ⟨rfl, hseg, ⟨low, high, rfl⟩, rfl, rfl, hf, rfl⟩
    have channel : s.ChannelTaken booth e ↔ sameChannel := by
      simp only [State.ChannelTaken, sameChannel, Fin.ext_iff, e]
    have enables : f = 1#8 → e.enabled = true := fun on => decide_eq_true on
    refine ⟨fun busy => ?_, fun free on taken => ?_, fun free on drop chan full => ?_, fun free passes => ?_⟩
    · exact exec_boothMapWrite_refused hc rfl named (by decide) (mapRefusal_busy busy)
    · exact exec_boothMapWrite_refused hc rfl named (by decide)
        (mapRefusal_taken free (enables on) (taken.imp_right channel.mpr))
    · refine exec_boothMapWrite_refused hc rfl named (why := .full) (by decide) ?_
      rw [mapRefusal_untaken free (enables on) drop (mt channel.mp chan)]
      exact if_pos full
    · have none : s.mapRefusal booth e = none := by
        rcases passes with off | ⟨drop, chan, room⟩
        · exact mapRefusal_disabled free (by subst off; rfl)
        · cases on : e.enabled with
          | false => exact mapRefusal_disabled free on
          | true =>
            rw [mapRefusal_untaken free on drop (mt channel.mp chan)]
            exact if_neg (Nat.not_le.mpr room)
      obtain ⟨entries, others, stays, disabled, enabled, moved, rest⟩ := mapWritten_mapEffect booth old e (popped rest s)
      exact ⟨_, exec_boothMapWrite_written hc rfl named none, entries, others, stays, disabled, enabled, moved, rest⟩
  · rw [Option.eq_none_iff_forall_ne_some]
    rintro ⟨booth, e⟩ named
    obtain ⟨hb, hseg, ⟨low, high, -⟩, hch, hp, hf, -⟩ := boothMapArgs_eq_some.mp named
    have code : e.segment.code < 2 := by cases e.segment <;> decide
    omega

end
end

section
/-!
# The access sets and the Booth Map through every step (R124, R125, R167)
-/

namespace Sys2Proof.Machine

section
variable {P : State → Prop} {s t u v : State} {b : Booth} {e : MapEntry}

/-! ## What writes the map and the access sets -/

/-- The property goes by the Booth Map and the access sets alone. -/
structure ReadsMapAndAccess (P : State → Prop) : Prop where
  congr : ∀ {u v}, v.line.map = u.line.map → v.mgmt.access = u.mgmt.access → P u → P v

theorem ReadsMapAndAccess.closed (h : ReadsMapAndAccess P) : Closed P where
  ctx := h.congr rfl rfl
  debit := h.congr rfl rfl
  slot := h.congr rfl rfl
  line := h.congr rfl rfl
  trunk := h.congr rfl rfl
  notices := h.congr rfl rfl
  cache := h.congr rfl rfl
  reached := h.congr rfl rfl
  counter := h.congr rfl rfl
  seg _ := h.congr (modSeg_line_map _ _ _) (congrArg Mgmt.access (modSeg_mgmt _ _ _))
  ring _ := h.congr rfl rfl
  mgmt hf := h.congr rfl (hf _).1
  fill _ := h.congr rfl rfl
  clock := h.congr rfl rfl
  zero := h.congr rfl rfl

/-- The property holds after power-on, and what BOOTH MAP WRITE and ACCESS WRITE let through keeps it: no other row
writes the map or an access set. -/
structure KeptByWrites (P : State → Prop) : Prop where
  reads : ReadsMapAndAccess P
  reset : P State.reset
  entry : ∀ {s b e}, s.mapRefusal b e = none → P s → P (setEntry b e s)
  access : ∀ {s g x}, ¬(g = Group.access.index ∧ x = 0) → P s → P (setAccess g x s)

namespace KeptByWrites

theorem boothMapOwner (K : KeptByWrites P) (args : List Byte) (hs : P s) : P (boothMapOwner args s).state := by
  refine inRange_closed K.reads.closed (fun x s hs => ?_) hs
  obtain ⟨b, e⟩ := x
  dsimp only
  split
  · exact hs
  next passes =>
    have frame := mapEffectFrame_mapEffect b (s.entry b) e (setEntry b e s)
    have access : (mapEffect b (s.entry b) e (setEntry b e s)).mgmt.access = s.mgmt.access := by
      rw [frame.rest]
      rfl
    exact K.reads.congr frame.map (access) (K.entry passes hs)

theorem accessWriteOwner (K : KeptByWrites P) (args : List Byte) (hs : P s) : P (accessWriteOwner args s).state := by
  unfold Machine.accessWriteOwner
  cases ha : accessWriteArgs args with
  | none => exact hs
  | some x =>
    obtain ⟨g, x⟩ := x
    have allowed : ¬(g = Group.access.index ∧ x = 0) := by
      unfold accessWriteArgs at ha
      split at ha
      · split at ha
        · split_ifs at ha with refused
          cases ha
          exact refused
        · cases ha
      · cases ha
    exact K.reads.congr (u := setAccess g x s) rfl rfl (K.access allowed hs)

/-- The row of a command whose owner keeps the property. -/
theorem row (K : KeptByWrites P) {g : Group} {c : Cmd} {good : Bool} {owner : State → Carried}
    (ho : ∀ u, P u → P (owner u).state) (hs : P s)
    (he : (.next (takeCommand g c good owner s) : Host.Outcome State Fault Refusal) = .next t) : P t := by
  injection he with he
  subst he
  exact takeCommand_closed K.reads.closed ho hs

/-- The row of a setting that is neither map nor access set. -/
theorem otherRow (K : KeptByWrites P) {g : Group} {c : Cmd} {good : Bool} {α : Type} {x : Option α}
    {f : α → State → Carried}
    (hf : ∀ a u, (f a u).state.line.map = u.line.map ∧ (f a u).state.mgmt.access = u.mgmt.access) (hs : P s) :
    (.next (takeCommand g c good (inRange x f) s) : Host.Outcome State Fault Refusal) = .next t → P t :=
  K.row (fun _ hu => inRange_closed K.reads.closed (fun a u h => K.reads.congr (hf a u).1 (hf a u).2 h) hu) hs

theorem exec (K : KeptByWrites P) (hs : P s) {c : Instr} (he : exec c s = .next t) : P t := by
  cases hw : c.writesSettings with
  | false =>
    have kept := settingsChangeOnlyByTheirCommands c s t hw he
    exact K.reads.congr (congrArg Settings.map kept) (congrArg Settings.access kept) hs
  | true =>
    cases c <;> simp only [Instr.writesSettings, Bool.false_eq_true] at hw
    case powerOn =>
      injection he with he
      subst he
      exact K.reads.congr (u := State.reset) rfl rfl K.reset
    case boothMapWrite => exact K.row (fun _ hu => K.boothMapOwner _ hu) hs he
    case accessWrite => exact K.row (fun _ hu => K.accessWriteOwner _ hu) hs he
    case segmentSetup =>
      exact K.otherRow (fun _ _ => ⟨modSeg_line_map _ _ _, congrArg Mgmt.access (modSeg_mgmt _ _ _)⟩) hs he
    case seriesWrite => exact K.otherRow (fun _ _ => by dsimp only; split <;> exact ⟨rfl, rfl⟩) hs he
    case stopAdd => exact K.otherRow (fun _ _ => by dsimp only; split_ifs <;> exact ⟨rfl, rfl⟩) hs he
    case stopRemove => exact K.otherRow (fun _ _ => by dsimp only; split_ifs <;> exact ⟨rfl, rfl⟩) hs he
    all_goals exact K.otherRow (fun _ _ => ⟨rfl, rfl⟩) hs he

theorem stepKeeps (K : KeptByWrites P) : StepKeeps P := by
  intro s t hs ht
  unfold step at ht
  split at ht
  · injection ht with ht
    subst ht
    exact K.reads.congr (u := s) rfl rfl hs
  next c rest _ =>
    exact K.exec (s := { s with pending := rest }) (K.reads.congr (u := s) rfl rfl hs) ht

end KeptByWrites

/-! ## The permitted set of ACCESS (R167) -/

theorem keptByWrites_accessKept : KeptByWrites AccessKept where
  reads.congr _ access h := by
    unfold AccessKept
    rw [access]
    exact h
  reset := accessKept_reset
  entry _ h := h
  access {s g x} allowed h := by
    change (s.mgmt.access.set g.val x g.isLt).get Group.access.index ≠ 0#16
    rw [get_set]
    split
    next hg => exact fun empty => allowed ⟨hg, empty⟩
    next => exact h

/-! ## Drop addresses and channels (R124) -/

theorem ReadsMapAndAccess.of_entry (h : ∀ {u v : State}, (∀ x, v.entry x = u.entry x) → P u → P v) :
    ReadsMapAndAccess P where
  congr hmap _ := h fun x => congrArg (fun m : Vector MapEntry 48 => m.get x) hmap

/-- An entry that passes the checks shares neither drop address nor channel with another enabled booth. -/
theorem mapUnique_setEntry (passes : s.mapRefusal b e = none) (h : MapUnique s) : MapUnique (setEntry b e s) := by
  have apart : ∀ x, x ≠ b → e.enabled = true → (s.entry x).enabled = true →
      (s.entry x).channel ≠ e.channel ∧ ((s.entry x).segment = e.segment → (s.entry x).drop ≠ e.drop) := by
    intro x hx on other
    obtain ⟨drop, channel, -⟩ := untaken_of_mapRefusal passes on
    exact ⟨fun same => channel ⟨x, hx, other, same⟩, fun seg same => drop ⟨x, hx, other, seg, same⟩⟩
  intro x y hxy
  rw [entry_setEntry, entry_setEntry]
  by_cases hx : x = b
  · have hy : y ≠ b := fun hy => hxy (hx.trans hy.symm)
    rw [if_pos hx, if_neg hy]
    intro on other
    obtain ⟨channel, drop⟩ := apart y hy on other
    exact ⟨channel.symm, fun seg => (drop seg.symm).symm⟩
  · rw [if_neg hx]
    by_cases hy : y = b
    · rw [if_pos hy]
      exact fun other on => apart x hx on other
    · rw [if_neg hy]
      exact h x y hxy

theorem keptByWrites_mapUnique : KeptByWrites MapUnique where
  reads := .of_entry fun he h => by simpa only [MapUnique, he] using h
  reset := mapUnique_reset
  entry := mapUnique_setEntry
  access _ h := h

/-! ## Enabled booths on a segment (R124) -/

/-- A count over all booths is the count over the others and the booth itself. -/
theorem countP_allBooths (b : Booth) (p : Booth → Bool) :
    allBooths.countP p = allBooths.countP (fun x => !decide (x = b) && p x) + if p b then 1 else 0 := by
  have split := List.countP_eq_countP_filter_add allBooths p fun x => !decide (x = b)
  have alone : allBooths.filter (fun x => !!decide (x = b)) = [b] := by
    have once : allBooths.count b = 1 := List.count_eq_one_of_mem (List.nodup_finRange 48) (List.mem_finRange b)
    simp only [Bool.not_not]
    rw [List.filter_eq, once]
    rfl
  rw [alone, List.countP_filter] at split
  simpa [Bool.and_comm, List.countP_singleton] using split

theorem othersOn_eq (s : State) (b : Booth) (g : Segment) :
    s.othersOn b g =
      allBooths.countP fun x => !decide (x = b) && ((s.entry x).enabled && decide ((s.entry x).segment = g)) := by
  simp only [State.othersOn, Bool.and_assoc]

/-- How many booths a segment serves beside the written one, and the written one with its new entry. -/
theorem countP_setEntry (b : Booth) (e : MapEntry) (s : State) (g : Segment) :
    (allBooths.countP fun x => ((setEntry b e s).entry x).enabled && decide (((setEntry b e s).entry x).segment = g)) =
      s.othersOn b g + if e.enabled && decide (e.segment = g) then 1 else 0 := by
  rw [countP_allBooths b, othersOn_eq, entry_setEntry, if_pos rfl]
  congr 1
  refine List.countP_congr fun x _ => ?_
  rw [entry_setEntry]
  by_cases hx : x = b <;> simp [hx]

theorem segmentsWithinLimit_setEntry (passes : s.mapRefusal b e = none) (h : SegmentsWithinLimit s) :
    SegmentsWithinLimit (setEntry b e s) := by
  intro g
  rw [countP_setEntry]
  split
  next joins =>
    simp only [Bool.and_eq_true, decide_eq_true_eq] at joins
    obtain ⟨on, rfl⟩ := joins
    obtain ⟨-, -, room⟩ := untaken_of_mapRefusal passes on
    exact room
  next =>
    have before := h g
    rw [countP_allBooths b, ← othersOn_eq] at before
    omega

theorem keptByWrites_segmentsWithinLimit : KeptByWrites SegmentsWithinLimit where
  reads := .of_entry fun he h => by simpa only [SegmentsWithinLimit, he] using h
  reset := segmentsWithinLimit_reset
  entry := segmentsWithinLimit_setEntry
  access _ h := h

end

end Sys2Proof.Machine

section
open Sys2Proof Sys2Proof.Machine

/-- Settles O53: only BOOTH MAP WRITE and ACCESS WRITE write a map entry and an access set (`KeptByWrites.stepKeeps`), and
what their checks let through keeps each of the three. -/
theorem accessAndMapAreKept : Obligations.AccessAndMapAreKept :=
  ⟨keptByWrites_accessKept.stepKeeps, keptByWrites_mapUnique.stepKeeps, keptByWrites_segmentsWithinLimit.stepKeeps⟩

end
end

section
/-!
# The arbiter (R127, R128, R136, R137, R138)
-/

namespace Sys2Proof.Machine

section
variable {s : State} {g : Segment} {k : WorkClass} {b x : Booth}

/-! ## Candidates (R137) -/

theorem takesCommands_iff (h : Health) :
    h.takesCommands = true ↔ h = .inService ∨ h = .suspect ∨ h = .reader ∨ h = .taken := by
  cases h <;> decide

theorem hasCommand_iff (l : BoothLine) :
    l.hasCommand = true ↔ l.statusDue = true ∨ l.cardAction ≠ none ∨ l.signals ≠ [] := by
  simp [BoothLine.hasCommand, Option.isSome_iff_ne_none, or_assoc]

theorem candidate_iff : s.candidate g k b = true ↔ isCandidate s g k b := by
  unfold State.candidate isCandidate
  rw [Bool.and_eq_true, Bool.and_eq_true, decide_eq_true_eq, and_assoc]
  refine and_congr_right fun _ => and_congr_right fun _ => ?_
  cases k with
  | debit => simp [BoothLine.candidate, Option.isSome_iff_ne_none, reachable_iff]
  | command => simp only [BoothLine.candidate, Bool.and_eq_true, hasCommand_iff, takesCommands_iff]
  | poll => simp [BoothLine.candidate, reachable_iff, or_assoc]

theorem anyCandidate_iff : s.anyCandidate g k = true ↔ ∃ x, isCandidate s g k x := by
  simp only [State.anyCandidate, allBooths, List.any_eq_true, List.mem_finRange, true_and, candidate_iff]

theorem anyCandidate_eq_false (h : ¬∃ x, isCandidate s g k x) : s.anyCandidate g k = false :=
  Bool.eq_false_iff.mpr (mt anyCandidate_iff.mp h)

/-! ## The next drop address (R138) -/

/-- The drop address so many places after the last granted one. -/
theorem dropDistance_drop {last i : Nat} (hl : last ≤ 31) (hi : i < 31) :
    dropDistance last ((last + i) % 31 + 1) = i := by
  unfold dropDistance
  omega

theorem drop_dropDistance {last drop : Nat} (hl : last ≤ 31) (low : 1 ≤ drop) (high : drop ≤ 31) :
    (last + dropDistance last drop) % 31 + 1 = drop := by
  unfold dropDistance
  omega

/-- The first place of 0 to n − 1 that holds a value gives it. -/
theorem findSome?_range {α : Type} {n i : Nat} {f : Nat → Option α} {a : α} (hi : i < n) (ha : f i = some a)
    (before : ∀ j, j < i → f j = none) : (List.range n).findSome? f = some a := by
  refine List.findSome?_eq_some_iff.mpr ⟨List.range i, i, (List.range n).drop (i + 1), ?_, ha, fun j hj => ?_⟩
  · calc List.range n = (List.range n).take (i + 1) ++ (List.range n).drop (i + 1) := (List.take_append_drop ..).symm
      _ = List.range (i + 1) ++ (List.range n).drop (i + 1) := by rw [List.take_range, Nat.min_eq_left hi]
      _ = List.range i ++ i :: (List.range n).drop (i + 1) := by rw [List.range_succ, List.append_assoc]; rfl
  · exact before j (List.mem_range.mp hj)

/-- Every drop address in its range, and the last granted one too or none yet (R124, R138). -/
structure DropsInRange (g : Segment) (s : State) : Prop where
  booths : ∀ b, 1 ≤ (s.entry b).drop ∧ (s.entry b).drop ≤ 31
  last : (s.seg g).lastDrop ≤ 31

/-- The one booth that meets a condition is the one found. -/
theorem find?_allBooths {p : Booth → Bool} (hb : p b = true) (only : ∀ x, p x = true → x = b) :
    allBooths.find? p = some b := by
  cases found : allBooths.find? p with
  | none => exact absurd hb (List.find?_eq_none.mp found b (List.mem_finRange b))
  | some x => rw [only x (List.find?_some found)]

/-- The candidate whose drop address comes next is the first of its class. -/
theorem firstCandidate_eq (range : DropsInRange g s) (hb : isCandidate s g k b)
    (next : ∀ x, x ≠ b → isCandidate s g k x →
      dropDistance (s.seg g).lastDrop (s.entry b).drop < dropDistance (s.seg g).lastDrop (s.entry x).drop) :
    s.firstCandidate g k = some b := by
  obtain ⟨drops, last⟩ := range
  obtain ⟨low, high⟩ := drops b
  have place := drop_dropDistance last low high
  have reached : dropDistance (s.seg g).lastDrop (s.entry b).drop < 31 := Nat.mod_lt _ (by decide)
  unfold State.firstCandidate dropsAfter
  rw [List.findSome?_map]
  refine findSome?_range reached ?_ fun j hj => ?_
  · rw [Function.comp_apply, place]
    refine find?_allBooths (by rw [candidate_iff.mpr hb, decide_eq_true rfl]; rfl) fun x hx => ?_
    rw [Bool.and_eq_true, candidate_iff, decide_eq_true_eq] at hx
    obtain ⟨waits, same⟩ := hx
    by_contra other
    have later := next x other waits
    rw [same] at later
    exact Nat.lt_irrefl _ later
  · rw [Function.comp_apply, List.find?_eq_none]
    intro x _ hx
    rw [Bool.and_eq_true, candidate_iff, decide_eq_true_eq] at hx
    obtain ⟨waits, drop⟩ := hx
    have nearer := dropDistance_drop last (hj.trans reached)
    rw [← drop] at nearer
    by_cases same : x = b
    · subst same
      omega
    · have later := next x same waits
      omega

/-! ## The class of a grant (R138) -/

/-- The turn of a class that comes by the burst limit and the order of classes. -/
def ClassTurn (s : State) (g : Segment) (k : WorkClass) : Prop :=
  match k with
  | .debit =>
    ¬((s.seg g).burst = 4 ∧ ((∃ x, isCandidate s g .command x) ∨ ∃ x, isCandidate s g .poll x))
  | .command => (s.seg g).burst = 4 ∨ ¬∃ x, isCandidate s g .debit x
  | .poll => ((s.seg g).burst = 4 ∨ ¬∃ x, isCandidate s g .debit x) ∧ ¬∃ x, isCandidate s g .command x

theorem grantClass_eq (waits : ∃ x, isCandidate s g k x) (turn : ClassTurn s g k) : s.grantClass g = some k := by
  have any := anyCandidate_iff.mpr waits
  unfold State.grantClass
  dsimp only
  cases k with
  | debit =>
    have fair : ¬((s.seg g).burst = 4 ∧ (s.anyCandidate g .command = true ∨ s.anyCandidate g .poll = true)) := by
      rw [anyCandidate_iff, anyCandidate_iff]
      exact turn
    rw [if_neg fair, if_pos any]
  | command =>
    rcases turn with burst | none
    · rw [if_pos ⟨burst, .inl any⟩, if_pos any]
    · rw [if_pos any, if_pos any, anyCandidate_eq_false none, if_neg Bool.false_ne_true, ite_self]
  | poll =>
    obtain ⟨before, idle⟩ := turn
    have idle := anyCandidate_eq_false idle
    rcases before with burst | none
    · rw [if_pos ⟨burst, .inr any⟩, idle]
      rfl
    · rw [anyCandidate_eq_false none, idle, any, if_neg Bool.false_ne_true, if_neg Bool.false_ne_true,
        if_neg Bool.false_ne_true, if_pos rfl, ite_self]

theorem grantClass_none (h : ∀ k x, ¬isCandidate s g k x) : s.grantClass g = none := by
  have none : ∀ k, s.anyCandidate g k = false := fun k => anyCandidate_eq_false (not_exists.mpr (h k))
  simp [State.grantClass, none]

/-! ## The choice (R138) -/

/-- A grant that is no follow-on: there is no follow-on booth, or debit work overrides it, or it is a candidate no
longer. -/
def NoFollowOn (s : State) (g : Segment) : Prop :=
  ∀ f, (s.seg g).followOn = some f → (∃ x, isCandidate s g .debit x) ∨ ¬isCandidate s g .poll f

theorem followOn_passed (h : NoFollowOn s g) {f : Booth} (hf : (s.seg g).followOn = some f) :
    ¬(!s.anyCandidate g .debit && s.candidate g .poll f) = true := by
  rw [Bool.and_eq_true, Bool.not_eq_true', Bool.eq_false_iff, Ne, anyCandidate_iff, candidate_iff, not_and_or, not_not]
  exact h f hf

/-- The choice when no follow-on booth takes it. -/
theorem grantChoice_ordinary (h : NoFollowOn s g) :
    s.grantChoice g = (s.grantClass g).bind fun k => (s.firstCandidate g k).map fun b => (k, b) := by
  unfold State.grantChoice
  dsimp only
  cases hf : (s.seg g).followOn with
  | none => rfl
  | some f => exact if_neg (followOn_passed h hf)

theorem grantChoice_none (h : ∀ k x, ¬isCandidate s g k x) : s.grantChoice g = none := by
  rw [grantChoice_ordinary fun f _ => .inr (h .poll f), grantClass_none h]
  rfl

theorem grantChoice_followOn (hf : (s.seg g).followOn = some b) (waits : isCandidate s g .poll b)
    (free : ¬∃ x, isCandidate s g .debit x) : s.grantChoice g = some (.poll, b) := by
  unfold State.grantChoice
  dsimp only
  rw [hf]
  exact if_pos (by rw [anyCandidate_eq_false free, candidate_iff.mpr waits]; rfl)

theorem grantChoice_turn (range : DropsInRange g s) (waits : isCandidate s g k b) (passed : NoFollowOn s g)
    (turn : ClassTurn s g k)
    (next : ∀ x, x ≠ b → isCandidate s g k x →
      dropDistance (s.seg g).lastDrop (s.entry b).drop < dropDistance (s.seg g).lastDrop (s.entry x).drop) :
    s.grantChoice g = some (k, b) := by
  rw [grantChoice_ordinary passed, grantClass_eq ⟨b, waits⟩ turn, Option.bind_some, firstCandidate_eq range waits next]
  rfl

/-! ## The request sent (R127, R128, R137) -/

theorem sends_request {l : BoothLine} (h : l.candidate k = true) : sends l k (l.request k) := by
  cases k with
  | debit =>
    simp only [BoothLine.candidate, Bool.and_eq_true, Option.isSome_iff_exists] at h
    obtain ⟨⟨work, hw⟩, -⟩ := h
    unfold sends BoothLine.request
    rw [hw]
    cases work with
    | cancel n serial => exact .inl ⟨n, serial, rfl, rfl⟩
    | verify serial => exact .inr ⟨serial, rfl, rfl⟩
  | command =>
    simp only [BoothLine.candidate, Bool.and_eq_true, hasCommand_iff] at h
    obtain ⟨work, -⟩ := h
    unfold sends BoothLine.request
    dsimp only
    cases hd : l.statusDue with
    | true => exact .inl ⟨rfl, rfl⟩
    | false =>
      refine .inr ⟨rfl, ?_⟩
      cases ha : l.cardAction with
      | some action =>
        cases action with
        | eject => exact .inl ⟨rfl, rfl⟩
        | retain serial => exact .inr (.inl ⟨serial, rfl, rfl⟩)
      | none =>
        cases hs : l.signals with
        | nil => simp [hd, ha, hs] at work
        | cons sig q => exact .inr (.inr ⟨rfl, sig, q, rfl, rfl⟩)
  | poll => exact rfl

/-- The signals of a booth's line that a request in flight leaves queued (R136). -/
def signalsLeft (r : Request) (q : List Signal) : List Signal :=
  match r with
  | .signal _ => q.tail
  | _ => q

theorem granted_eq (l : BoothLine) (k : WorkClass) :
    l.granted k = { l with signals := signalsLeft (l.request k) l.signals
                           probeDue := if k = .poll then false else l.probeDue } := by
  obtain ⟨_, _, _, _, _, _, _, debitWork, statusDue, cardAction, _, signals⟩ := l
  cases k with
  | debit =>
    cases debitWork with
    | none => rfl
    | some work => cases work <;> rfl
  | command =>
    cases statusDue with
    | true => rfl
    | false =>
      cases cardAction with
      | some action => cases action <;> rfl
      | none => cases signals <;> rfl
  | poll => rfl

/-- The transaction that a grant opens (R127, R128). -/
def grantedTransaction (g : Segment) (k : WorkClass) (b : Booth) (s : State) : Transaction :=
  let r := (s.boothLine b).request k
  { booth := b, drop := (s.entry b).drop, tag := (s.seg g).nextTag, request := r
    expiry := s.now + windowLength (if r.isCancel then (s.seg g).writeCode else (s.seg g).replyCode)
    probe := decide (k = .poll) && decide ((s.boothLine b).health = .lost), orphan := false }

/-- The segment that has granted (R138). -/
def grantedSeg (tr : Transaction) (k : WorkClass) (l : SegLine) : SegLine :=
  { l with transaction := some tr, nextTag := l.nextTag + 1, lastDrop := tr.drop
           burst := if k = .debit then min 4 (l.burst + 1) else 0 }

theorem sendGrant_eq (g : Segment) (k : WorkClass) (b : Booth) (s : State) :
    sendGrant g k b s =
      bump (Ctr.transactions g) (modBoothLine b (fun l => l.granted k)
        (modSeg g (grantedSeg (grantedTransaction g k b s) k) s)) := by
  cases g <;> rfl

/-- The grant of a class to a booth, sent (R127, R128, R137). -/
structure GrantSent (g : Segment) (k : WorkClass) (b : Booth) (s t : State) : Prop where
  seg : t.seg g = grantedSeg (grantedTransaction g k b s) k (s.seg g)
  segs : ∀ g', g' ≠ g → t.seg g' = s.seg g'
  line : t.boothLine b = (s.boothLine b).granted k
  lines : ∀ x, x ≠ b → t.boothLine x = s.boothLine x
  map : t.line.map = s.line.map
  rest : t = bump (Ctr.transactions g) { s with line := t.line }

theorem grantSent_sendGrant (g : Segment) (k : WorkClass) (b : Booth) (s : State) :
    GrantSent g k b s (sendGrant g k b s) := by
  rw [sendGrant_eq]
  refine ⟨by simp, fun g' hg => by simp [seg_modSeg_ne hg.symm], by simp, fun x hx => ?_, by simp, ?_⟩
  · rw [boothLine_bump, boothLine_modBoothLine_ne hx, boothLine_modSeg]
  · cases g <;> rfl

/-! ## The row (R137, R138) -/

theorem exec_arbiterGrant (g : Segment) (s : State) : exec (.arbiterGrant g) s = .next (arbiterTurn g s) := rfl

theorem arbiterTurn_busy (h : (s.seg g).transaction ≠ none ∨ (s.seg g).hold ≠ none) : arbiterTurn g s = s := by
  refine if_neg ?_
  rw [Bool.and_eq_true, Option.isNone_iff_eq_none, Option.isNone_iff_eq_none, not_and_or]
  exact h

theorem arbiterTurn_idle (h : ∀ k x, ¬isCandidate s g k x) : arbiterTurn g s = s := by
  unfold arbiterTurn
  rw [grantChoice_none h]
  exact ite_self s

theorem arbiterTurn_grants (open_ : (s.seg g).transaction = none) (hold : (s.seg g).hold = none)
    (choice : s.grantChoice g = some (k, b)) : arbiterTurn g s = sendGrant g k b s := by
  unfold arbiterTurn
  rw [open_, hold, choice]
  rfl

end

end Sys2Proof.Machine

section
open Sys2Proof Sys2Proof.Machine

/-- Settles O34: the class comes by the burst limit and the order of classes (`grantClass_eq`), the booth by drop address
(`firstCandidate_eq`), unless the follow-on booth takes the grant (`grantChoice_followOn`); what is sent is
`sends_request`. -/
theorem arbiterGrantsInOrder : Obligations.ArbiterGrantsInOrder := by
  intro s g
  rw [exec_arbiterGrant]
  refine ⟨fun busy => by rw [arbiterTurn_busy busy], fun idle => by rw [arbiterTurn_idle idle], ?_⟩
  intro closed hold drops last k b waits any follow turn choice
  have chosen : s.grantChoice g = some (k, b) := by
    rcases choice with ⟨poll, followOn, free⟩ | ⟨passed, order, next⟩
    · subst poll
      exact grantChoice_followOn followOn waits free
    · exact grantChoice_turn ⟨drops, last⟩ waits passed (by cases k <;> exact order) next
  have candidate : (s.boothLine b).candidate k = true := by
    have := candidate_iff.mpr waits
    unfold State.candidate at this
    exact (Bool.and_eq_true_iff.mp this).2
  obtain ⟨seg, segs, line, lines, map, rest⟩ := grantSent_sendGrant g k b s
  rw [arbiterTurn_grants closed hold chosen]
  rw [granted_eq] at line
  exact ⟨_, _, grantedTransaction g k b s, rfl, sends_request candidate, congrArg SegLine.transaction seg, rfl, seg, line, lines,
    segs, rest, map⟩

end
end

section
/-!
# BOOTH READ, STATUS READ and the setups (R126, R128, R162, R172, R174)
-/

namespace Sys2Proof.Machine

section
variable {o t : Byte} {rest : List Cmd} {s : State}

/-! ## BOOTH READ and STATUS READ (R126, R174) -/

theorem exec_boothRead {b : Byte} (hc : CanTake .read ⟨o, t, 0x76#8, [b]⟩ rest s) (hb : b.toNat < 48) :
    exec (.boothRead o t [b]) s =
      .next (doneWith ⟨o, t, 0x76#8, [b]⟩ (s.boothData ⟨b.toNat, hb⟩) (popped rest s)) :=
  congrArg Host.Outcome.next ((takeCommand_inRange (x := byteArg 48 [b]) hc (finOf_of_lt hb)).trans
    (answerCommand_carriedOut _ _ _))

theorem exec_boothRead_outOfRange {b : Byte} (hc : CanTake .read ⟨o, t, 0x76#8, [b]⟩ rest s) (hb : 48 ≤ b.toNat) :
    exec (.boothRead o t [b]) s = .next (refusal ⟨o, t, 0x76#8, [b]⟩ .range (popped rest s)) :=
  congrArg Host.Outcome.next (takeCommand_outOfRange (x := byteArg 48 [b]) hc (finOf_of_le hb))

theorem exec_statusRead (hc : CanTake .read ⟨o, t, 0x77#8, []⟩ rest s) :
    exec (.statusRead o t []) s =
      .next (doneWith ⟨o, t, 0x77#8, []⟩ (popped rest s).statusData (popped rest s)) :=
  congrArg Host.Outcome.next ((takeCommand_canTake hc).trans (answerCommand_carriedOut _ _ _))

/-! ## SEGMENT SETUP (R128) -/

theorem segmentSetupArgs_eq_some {g r w : Byte} {seg : Segment} {reply write : Nat} :
    segmentSetupArgs [g, r, w] = some (seg, reply, write) ↔
      seg.code = g.toNat ∧ (r.toNat ≤ 15 ∧ reply = r.toNat) ∧ (w.toNat ≤ 15 ∧ write = w.toNat) := by
  rw [← segmentOf_eq_some]
  unfold segmentSetupArgs
  dsimp only
  cases segmentOf g with
  | none => simp
  | some x =>
    dsimp only
    split_ifs with range
    · simp [range, eq_comm]
    · refine ⟨nofun, ?_⟩
      rintro ⟨-, ⟨hr, -⟩, hw, -⟩
      exact (range ⟨hr, hw⟩).elim

theorem exec_segmentSetup {g r w : Byte} {seg : Segment} (hc : CanTake .booths ⟨o, t, 0x32#8, [g, r, w]⟩ rest s)
    (hg : seg.code = g.toNat) (hr : r.toNat ≤ 15) (hw : w.toNat ≤ 15) :
    exec (.segmentSetup o t [g, r, w]) s =
      .next (doneWith ⟨o, t, 0x32#8, [g, r, w]⟩ .none
        (modSeg seg (fun x => { x with replyCode := r.toNat, writeCode := w.toNat }) (popped rest s))) :=
  congrArg Host.Outcome.next
    ((takeCommand_inRange hc (segmentSetupArgs_eq_some.mpr ⟨hg, ⟨hr, rfl⟩, hw, rfl⟩)).trans
      (answerCommand_carriedOut _ _ _))

theorem exec_segmentSetup_outOfRange {g r w : Byte} (hc : CanTake .booths ⟨o, t, 0x32#8, [g, r, w]⟩ rest s)
    (h : 2 ≤ g.toNat ∨ 15 < r.toNat ∨ 15 < w.toNat) :
    exec (.segmentSetup o t [g, r, w]) s = .next (refusal ⟨o, t, 0x32#8, [g, r, w]⟩ .range (popped rest s)) := by
  refine congrArg Host.Outcome.next (takeCommand_outOfRange hc (Option.eq_none_iff_forall_ne_some.mpr ?_))
  rintro ⟨seg, reply, write⟩ named
  obtain ⟨hg, ⟨hr, -⟩, hw, -⟩ := segmentSetupArgs_eq_some.mp named
  have code : seg.code < 2 := by cases seg <;> decide
  omega

/-! ## RING SETUP (R162) -/

theorem exec_ringSetup {h1 h0 : Byte} (hc : CanTake .tickets ⟨o, t, 0x42#8, [h1, h0]⟩ rest s)
    (h : 1 ≤ num2 h1 h0 ∧ num2 h1 h0 ≤ 512) :
    exec (.ringSetup o t [h1, h0]) s =
      .next (doneWith ⟨o, t, 0x42#8, [h1, h0]⟩ .none (bump Ctr.ringSetups
        (modRing (fun r => { r with highWater := num2 h1 h0 }) (popped rest s)))) :=
  congrArg Host.Outcome.next ((takeCommand_inRange (x := ringSetupArg [h1, h0]) hc (if_pos h)).trans
    (answerCommand_carriedOut _ _ _))

theorem exec_ringSetup_outOfRange {h1 h0 : Byte} (hc : CanTake .tickets ⟨o, t, 0x42#8, [h1, h0]⟩ rest s)
    (h : ¬(1 ≤ num2 h1 h0 ∧ num2 h1 h0 ≤ 512)) :
    exec (.ringSetup o t [h1, h0]) s = .next (refusal ⟨o, t, 0x42#8, [h1, h0]⟩ .range (popped rest s)) :=
  congrArg Host.Outcome.next (takeCommand_outOfRange (x := ringSetupArg [h1, h0]) hc (if_neg h))

/-! ## LIMITS WRITE (R172) -/

theorem secondsArg_eq_some {b : Byte} {v : Nat} :
    secondsArg b = some v ↔ (1 ≤ b.toNat ∧ b.toNat ≤ 60) ∧ v = b.toNat := by
  unfold secondsArg
  split_ifs with range
  · simp [range, eq_comm]
  · simp [range]

theorem limitsArgs_eq_some {d c w m p : Byte} {l : Limits} :
    limitsArgs [d, c, w, m, p] = some l ↔
      (1 ≤ d.toNat ∧ d.toNat ≤ 60) ∧ (1 ≤ c.toNat ∧ c.toNat ≤ 60) ∧ (1 ≤ w.toNat ∧ w.toNat ≤ 60)
        ∧ (1 ≤ p.toNat ∧ p.toNat ≤ 60)
        ∧ l = { digitWait := d.toNat, cardWait := c.toNat, swapWindow := w.toNat, maxCall := m.toNat,
                probe := p.toNat } := by
  unfold limitsArgs
  dsimp only
  split
  next digit card swap probe =>
    obtain ⟨hd, rfl⟩ := secondsArg_eq_some.mp digit
    obtain ⟨hc, rfl⟩ := secondsArg_eq_some.mp card
    obtain ⟨hw, rfl⟩ := secondsArg_eq_some.mp swap
    obtain ⟨hp, rfl⟩ := secondsArg_eq_some.mp probe
    simp only [hd, hc, hw, hp, and_self, true_and, Option.some_inj, eq_comm]
  next unnamed =>
    refine ⟨nofun, ?_⟩
    rintro ⟨hd, hc, hw, hp, -⟩
    exact (unnamed _ _ _ _ (if_pos hd) (if_pos hc) (if_pos hw) (if_pos hp)).elim

theorem exec_limitsWrite {args : List Byte} {l : Limits} (hc : CanTake .service ⟨o, t, 0x54#8, args⟩ rest s)
    (length : args.length = 5) (named : limitsArgs args = some l) :
    exec (.limitsWrite o t args) s =
      .next (doneWith ⟨o, t, 0x54#8, args⟩ .none (bump Ctr.limitsWrites
        (modMgmt (fun m => { m with limits := l }) (popped rest s)))) := by
  refine congrArg Host.Outcome.next ?_
  rw [beq_iff_eq.mpr length]
  exact (takeCommand_inRange hc named).trans (answerCommand_carriedOut _ _ _)

theorem exec_limitsWrite_outOfRange {args : List Byte} (hc : CanTake .service ⟨o, t, 0x54#8, args⟩ rest s)
    (length : args.length = 5) (unnamed : limitsArgs args = none) :
    exec (.limitsWrite o t args) s = .next (refusal ⟨o, t, 0x54#8, args⟩ .range (popped rest s)) := by
  refine congrArg Host.Outcome.next ?_
  rw [beq_iff_eq.mpr length]
  exact takeCommand_outOfRange hc unnamed

end

end Sys2Proof.Machine

section
open Sys2Proof Sys2Proof.Machine

/-- Settles O15: both owners answer with what they read of the state the command was taken from. -/
theorem boothAndStatusRead : Obligations.BoothAndStatusRead :=
  ⟨fun _ _ _ _ _ hc => ⟨exec_boothRead hc, exec_boothRead_outOfRange hc⟩, fun _ _ _ _ hc => exec_statusRead hc⟩

/-- Settles O18: each write's arguments are in range exactly when each field is (`segmentSetupArgs_eq_some`,
`limitsArgs_eq_some`). -/
theorem setupWrites : Obligations.SetupWrites := by
  refine ⟨fun o t g r w rest s hc => ?_, fun o t h1 h0 rest s hc => ?_, ?_⟩
  · exact ⟨fun seg hg hr hw => exec_segmentSetup hc hg hr hw, exec_segmentSetup_outOfRange hc⟩
  · exact ⟨fun low high => exec_ringSetup hc ⟨low, high⟩, fun bad => exec_ringSetup_outOfRange hc (by omega)⟩
  · intro o t d c w m p rest s hc inRange
    refine ⟨fun hd hc' hw hp => exec_limitsWrite hc rfl (limitsArgs_eq_some.mpr ⟨hd, hc', hw, hp, rfl⟩), fun bad => ?_⟩
    refine exec_limitsWrite_outOfRange hc rfl (Option.eq_none_iff_forall_ne_some.mpr fun l named => ?_)
    obtain ⟨hd, hc', hw, hp, -⟩ := limitsArgs_eq_some.mp named
    rcases bad with bad | bad | bad | bad
    · exact bad hd
    · exact bad hc'
    · exact bad hw
    · exact bad hp

end
end

section
/-!
# Stale and garbled frames (R127, R129, R140)
-/

namespace Sys2Proof.Machine

section
variable {s : State} {g : Segment} {drop tag : Byte} {reply : BoothReply} {tr : Transaction}

/-- A frame that can be parsed, with a tag in its range (R127). -/
structure Parsable (reply : BoothReply) (tag : Byte) : Prop where
  reply : reply.parses = true
  tag : tag.toNat ≤ 7

theorem Parsable.taken (h : Parsable reply tag) : (reply.parses && decide (tag.toNat ≤ 7)) = true := by
  rw [h.reply, decide_eq_true h.tag]
  rfl

/-- A frame that answers no open transaction is stale (R129). -/
theorem receiveReply_stale (h : Parsable reply tag)
    (other : ∀ tr, (s.seg g).transaction = some tr → ¬(tr.tag.val = tag.toNat ∧ tr.drop = drop.toNat)) :
    receiveReply g drop tag reply s = bump (Ctr.stale g) s := by
  unfold receiveReply
  rw [if_pos h.taken]
  cases opened : (s.seg g).transaction with
  | none => rfl
  | some tr => exact if_neg (other tr opened)

/-- A frame that answers the open transaction, by whether its request accepts the reply (R129). -/
theorem receiveReply_matching (h : Parsable reply tag) (opened : (s.seg g).transaction = some tr)
    (htag : tr.tag.val = tag.toNat) (hdrop : tr.drop = drop.toNat) :
    receiveReply g drop tag reply s =
      if tr.request.accepts reply then goodReply g tr reply s else garbledFrame g s := by
  unfold receiveReply
  rw [if_pos h.taken, opened]
  exact if_pos ⟨htag, hdrop⟩

theorem garbledFrame_noneOpen (closed : (s.seg g).transaction = none) : garbledFrame g s = bump (Ctr.garbled g) s := by
  unfold garbledFrame
  dsimp only
  rw [seg_bump, closed]

theorem exec_staleBoothFrame (g : Segment) (drop tag : Byte) (reply : BoothReply) (s : State) :
    exec (.staleBoothFrame g drop tag reply) s = .next (receiveReply g drop tag reply s) := rfl

end

end Sys2Proof.Machine

section
open Sys2Proof Sys2Proof.Machine

/-- Settles O35: what a frame counts as goes by the open transaction (`receiveReply_stale`, `receiveReply_matching`). -/
theorem staleAndGarbledFrames : Obligations.StaleAndGarbledFrames := by
  intro s g drop tag reply hp ht
  have parsable : Parsable reply tag := ⟨hp, ht⟩
  refine ⟨fun other => ?_, fun closed => ?_, fun tr opened htag hdrop mismatch => ?_⟩
  · rw [exec_staleBoothFrame, exec_replyRow, receiveReply_stale parsable other]
    exact ⟨rfl, rfl⟩
  · rw [exec_boothFrameGarbled, garbledFrame_noneOpen closed]
  · rw [exec_replyRow, exec_boothFrameGarbled, receiveReply_matching parsable opened htag hdrop,
      if_neg (by rw [mismatch]; decide)]

end
end

section
/-!
# EVENTS to POLL, STATUS and a probe (R129, R131, R133, R138)
-/

namespace Sys2Proof.Machine

section
variable {s : State} {g : Segment} {drop tag : Byte} {b : Booth} {reply : BoothReply} {tr : Transaction}

/-! ## A good reply, whatever its request (R129) -/

theorem goodReply_eq (orphan : tr.orphan = false) :
    goodReply g tr reply s = handGood tr reply (closedGood g tr.booth (s.followOnAfter tr reply) s) := by
  unfold goodReply
  rw [orphan]
  rfl

theorem boothLine_closedGood (g : Segment) (b : Booth) (f : Option Booth) (s : State) :
    (closedGood g b f s).boothLine b =
      { s.boothLine b with
        misses := 0, health := if (s.boothLine b).health = .suspect then .inService else (s.boothLine b).health } := by
  unfold closedGood
  rw [boothLine_modBoothLine_self, boothLine_modSeg]

theorem closedGood_mgmt (g : Segment) (b : Booth) (f : Option Booth) (s : State) :
    (closedGood g b f s).mgmt = s.mgmt := by
  cases g <;> rfl

/-- The events of a frame that can be parsed. -/
theorem parsable_events {more batch status : Bool} {evs : List BoothEvent} (ht : tag.toNat ≤ 7)
    (few : evs.length ≤ 4) (each : ∀ e ∈ evs, e.parses = true) : Parsable (.events more batch status evs) tag where
  reply := by
    change (decide (evs.length ≤ 4) && evs.all BoothEvent.parses) = true
    rw [decide_eq_true few, List.all_eq_true.mpr each]
    rfl
  tag := ht

/-! ## A batch (R131, R138) -/

theorem exec_events (g : Segment) (drop tag : Byte) (more batch status : Bool) (evs : List BoothEvent) (s : State) :
    exec (.events g drop tag more batch status evs) s =
      .next (receiveReply g drop tag (.events more batch status evs) s) := rfl

/-- A batch in reply to a POLL is the open transaction's good reply. -/
theorem exec_events_poll {more batch bit : Bool} {evs : List BoothEvent}
    (h : Parsable (.events more batch false evs) tag) (asks : Answers g drop tag (.poll bit) b s) :
    exec (.events g drop tag more batch false evs) s =
      .next (takeBatch b batch evs (closedGood g b
        (if more && decide (batch = (s.boothLine b).expectBit) then some b else none) s)) := by
  obtain ⟨tr, opened, hdrop, htag, request, rfl, probe, orphan⟩ := asks.opened
  have follow : s.followOnAfter tr (.events more batch false evs) =
      if more && decide (batch = (s.boothLine tr.booth).expectBit) then some tr.booth else none := by
    unfold State.followOnAfter
    rw [request, probe, orphan]
    simp
  rw [exec_events, receiveReply_matching h opened htag hdrop, if_pos (by rw [request]; rfl), goodReply_eq orphan,
    follow]
  unfold handGood clearServed
  rw [request, probe]
  rfl

theorem takeBatch_expected {batch : Bool} (evs : List BoothEvent) (h : batch = (s.boothLine b).expectBit) :
    takeBatch b batch evs s =
      boothEvents b false evs (modBoothLine b (fun l => { l with expectBit := !l.expectBit }) s) := if_pos h

theorem takeBatch_other {batch : Bool} (evs : List BoothEvent) (h : batch ≠ (s.boothLine b).expectBit) :
    takeBatch b batch evs s = s := if_neg h

theorem expectBit_closedGood (g : Segment) (b : Booth) (f : Option Booth) (s : State) :
    ((closedGood g b f s).boothLine b).expectBit = (s.boothLine b).expectBit := by
  rw [boothLine_closedGood]

/-! ## STATUS (R131) -/

/-- The booth's line when a STATUS reply has been taken (R131). -/
def statusTaken (batch : Bool) (l : BoothLine) : BoothLine :=
  { l with statusDue := false, firstStatus := false
           expectBit := if l.firstStatus then !batch else l.expectBit }

theorem exec_events_status {more batch : Bool} {evs : List BoothEvent}
    (h : Parsable (.events more batch true evs) tag) (asks : Answers g drop tag .status b s) :
    exec (.events g drop tag more batch true evs) s =
      .next (if evs.any BoothEvent.isCardIn then
          boothEvents b true evs (modBoothLine b (statusTaken batch) (closedGood g b none s))
        else cardOutEvent b (boothEvents b true evs (modBoothLine b (statusTaken batch) (closedGood g b none s)))) := by
  obtain ⟨tr, request, booth, closes⟩ := receiveReply_answers asks h.tag h.reply rfl (fun _ => nofun)
  have line : ∀ u : State,
      modBoothLine b (fun l => if l.firstStatus then { l with expectBit := !batch, firstStatus := false } else l)
        (modBoothLine b (fun l => { l with statusDue := false }) u) = modBoothLine b (statusTaken batch) u := by
    intro u
    rw [modBoothLine_modBoothLine]
    refine modBoothLine_congr ?_
    unfold statusTaken
    cases (u.boothLine b).firstStatus <;> rfl
  rw [exec_events, closes]
  unfold handGood clearServed
  rw [request, booth]
  dsimp only
  unfold statusIntake
  rw [line]

/-! ## A probe (R133) -/

/-- The line of a LOST booth that a probe's reply has returned to service (R133). -/
def returnedLine (sig : Signal) (l : BoothLine) : BoothLine :=
  { l with health := .inService, misses := 0, probeTimer := none, probeDue := false, statusDue := true
           signals := joinSignal sig l.signals }

theorem probeReturn_closedGood (lost : (s.boothLine b).health = .lost) (f : Option Booth) :
    probeReturn b (closedGood g b f s) =
      modBoothLine b (returnedLine s.orderSignal) (modSeg g (fun x => { x with transaction := none, followOn := f }) s) := by
  have health : ((closedGood g b f s).boothLine b).health = .lost := by
    rw [boothLine_closedGood]
    dsimp only
    rw [lost]
    rfl
  have shown : (closedGood g b f s).orderSignal = s.orderSignal := by
    unfold State.orderSignal
    rw [closedGood_mgmt]
  unfold probeReturn
  rw [if_pos health]
  dsimp only
  rw [shown, postSignal_eq]
  unfold closedGood
  rw [modBoothLine_modBoothLine, modBoothLine_modBoothLine]
  rfl

theorem exec_events_probe {more batch bit : Bool} {evs : List BoothEvent}
    (h : Parsable (.events more batch false evs) tag) (opened : (s.seg g).transaction = some tr)
    (hdrop : tr.drop = drop.toNat) (htag : tr.tag.val = tag.toNat) (request : tr.request = .poll bit)
    (probe : tr.probe = true) (orphan : tr.orphan = false) (lost : (s.boothLine tr.booth).health = .lost) :
    exec (.events g drop tag more batch false evs) s =
      .next (modBoothLine tr.booth (returnedLine s.orderSignal)
        (modSeg g (fun x => { x with transaction := none, followOn := none }) s)) := by
  have follow : s.followOnAfter tr (.events more batch false evs) = none := by
    unfold State.followOnAfter
    rw [request, probe]
    simp
  rw [exec_events, receiveReply_matching h opened htag hdrop, if_pos (by rw [request]; rfl), goodReply_eq orphan,
    follow, ← probeReturn_closedGood lost]
  unfold handGood clearServed
  rw [request, probe]
  rfl

end

end Sys2Proof.Machine

section
open Sys2Proof Sys2Proof.Machine

/-- Settles O43: the reply closes the transaction (`receiveReply_matching`), and the batch goes by its bit
(`takeBatch_expected`, `takeBatch_other`), a STATUS reply to the intake and a probe's reply to the return to service. -/
theorem eventsByRequest : Obligations.EventsByRequest := by
  intro s g drop tag b more batch evs ht few each
  have parsable : ∀ status, Parsable (.events more batch status evs) tag := fun _ => parsable_events ht few each
  refine ⟨fun bit asks => ⟨fun expected => ?_, fun other => ?_⟩, fun asks => exec_events_status (parsable true) asks,
    fun tr bit opened hdrop htag request booth probe orphan lost => ?_⟩
  · rw [exec_events_poll (parsable false) asks, takeBatch_expected _ (expected.trans (expectBit_closedGood ..).symm),
      decide_eq_true expected, Bool.and_true]
    rfl
  · rw [exec_events_poll (parsable false) asks, takeBatch_other _ (by rw [expectBit_closedGood]; exact other),
      decide_eq_false other, Bool.and_false]
    rfl
  · subst booth
    exact exec_events_probe (parsable false) opened hdrop htag request probe orphan lost

end
end

section
/-!
# Misses by request and health (R125, R129, R130, R132, R133, R136)
-/

namespace Sys2Proof.Machine

section
variable {s u : State} {g : Segment} {r : Request} {b : Booth} {tr : Transaction} {f : State → State} {q : List Signal}

/-! ## The two ways of a miss (R129) -/

/-- Both misses of the segment, by the expiry of the window and by a garbled frame, lead to f of the state they close
the transaction on. -/
def BothMisses (g : Segment) (tr : Transaction) (s : State) (f : State → State) : Prop :=
  exec (.replyWindowExpiry g) s = .next (f { s with now := max s.now tr.expiry })
    ∧ exec (.boothFrameGarbled g) s = .next (f (bump (Ctr.garbled g) s))

/-- The state differs from s in its time base and its counters at most. -/
structure SameButTime (s u : State) : Prop where
  rest : u = { s with now := u.now, counters := u.counters }

theorem SameButTime.line (h : SameButTime s u) (x : Booth) : u.boothLine x = s.boothLine x := by
  rw [h.rest]
  rfl

theorem SameButTime.debit (h : SameButTime s u) (x : Booth) : u.debit x = s.debit x := by
  rw [h.rest]
  rfl

theorem bothMisses (opened : (s.seg g).transaction = some tr) (h : ∀ u, SameButTime s u → closeMiss g tr u = f u) :
    BothMisses g tr s f := by
  constructor
  · rw [exec_replyWindowExpiry, windowExpiry, opened, ← h _ ⟨rfl⟩]
    rfl
  · rw [exec_boothFrameGarbled, garbledFrame]
    rw [seg_bump, opened, ← h _ ⟨rfl⟩]

theorem BothMisses.congr {f' : State → State} (h : BothMisses g tr s f) (same : ∀ u, SameButTime s u → f u = f' u) :
    BothMisses g tr s f' := by
  obtain ⟨expires, garbles⟩ := h
  exact ⟨expires.trans (congrArg Host.Outcome.next (same _ ⟨rfl⟩)),
    garbles.trans (congrArg Host.Outcome.next (same _ ⟨rfl⟩))⟩

/-- A miss whose handing on leaves health and miss count as they are, and is no third of a SUSPECT booth. -/
theorem bothMisses_handed {after : State → State} (h : OpenTo g r b s tr)
    (third : ¬((s.boothLine b).health = .suspect ∧ 2 ≤ (s.boothLine b).misses))
    (handed : ∀ u, SameButTime s u → handMiss tr (closedMissed g u) = after (closedMissed g u))
    (line : ∀ u, ((after u).boothLine b).health = (u.boothLine b).health
      ∧ ((after u).boothLine b).misses = (u.boothLine b).misses) :
    BothMisses g tr s fun u => modBoothLine b missedLine (after (closedMissed g u)) := by
  refine bothMisses h.opened fun u hu => ?_
  rw [closeMiss_eq h, handed u hu]
  refine missHealth_eq ?_
  obtain ⟨health, misses⟩ := line (closedMissed g u)
  rw [health, misses, boothLine_closedMissed, hu.line]
  exact third

/-! ## What a miss leaves, by request (R130, R136) -/

theorem handMiss_verify {serial : BitVec 32} (hr : tr.request = .verify serial) {a : Ask}
    (ho : (u.debit tr.booth).outstanding = .verify a) : handMiss tr u = u := by
  unfold handMiss debitOutcome
  rw [hr]
  dsimp only
  rw [ho]

/-- Nothing is lost of a request whose work stays pending until it is served. -/
theorem handMiss_pending (hr : (∃ bit, tr.request = .poll bit) ∨ tr.request = .status ∨ tr.request = .eject
      ∨ ∃ serial, tr.request = .retain serial) : handMiss tr u = u := by
  unfold handMiss
  rcases hr with ⟨bit, hr⟩ | hr | hr | ⟨serial, hr⟩ <;> rw [hr]

theorem handMiss_signal {sig : Signal} (hr : tr.request = .signal sig) :
    handMiss tr u = postTo tr.booth (fun l => { l with signals := returnSignal sig l.signals }) u := by
  unfold handMiss
  rw [hr]

theorem handMiss_unmatched_verify {serial : BitVec 32} (hr : tr.request = .verify serial)
    (ho : (u.debit tr.booth).outstanding = .none) : handMiss tr u = bump Ctr.unmatchedOutcomes u := by
  unfold handMiss
  rw [hr]
  exact debitOutcome_none ho

theorem handMiss_unmatched_cancel {n : Nat} {serial : BitVec 32} (hr : tr.request = .cancel n serial)
    (ho : (u.debit tr.booth).outstanding = .none) :
    handMiss tr u = bump Ctr.unmatchedOutcomes (modBoothLine tr.booth (fun l => { l with debitWork := none }) u) := by
  unfold handMiss
  rw [hr]
  exact debitOutcome_none ho

theorem isShowUnits_iff {sig : Signal} : sig.isShowUnits = true ↔ ∃ n, sig = .showUnits n := by
  cases sig <;> simp [Signal.isShowUnits]

/-- R136's rule of the oldest end, as the statements read it. -/
theorem signalReturned_returnSignal (sig : Signal) (q : List Signal) : SignalReturned sig q (returnSignal sig q) := by
  have outdated : (sig.isShowUnits && q.any Signal.isShowUnits) = true ↔
      ∃ n m, sig = .showUnits n ∧ .showUnits m ∈ q := by
    simp only [Bool.and_eq_true, List.any_eq_true, isShowUnits_iff]
    constructor
    · rintro ⟨⟨n, hn⟩, _, hx, m, rfl⟩
      exact ⟨n, m, hn, hx⟩
    · rintro ⟨n, m, hn, hx⟩
      exact ⟨⟨n, hn⟩, _, hx, m, rfl⟩
  unfold returnSignal
  refine ⟨fun n m hn hm => ?_, fun full => ?_, fun room current => ?_⟩
  · rw [if_pos (outdated.mpr ⟨n, m, hn, hm⟩)]
  · rw [if_pos full, ite_self]
  · have fresh : ¬∃ n m, sig = .showUnits n ∧ .showUnits m ∈ q := fun ⟨n, m, hn, hm⟩ => current n m hn hm
    rw [if_neg (mt outdated.mp fresh), if_neg (Nat.not_le.mpr room)]

/-- The booth's queue of signals replaced. -/
def requeued (b : Booth) (q : List Signal) : State → State := modBoothLine b fun l => { l with signals := q }

theorem requeued_same (h : (u.boothLine b).signals = q) : requeued b q u = u :=
  modBoothLine_of_fixed (by subst h; rfl)

/-- A miss that replaces the queue of signals and nothing else. -/
theorem bothMisses_requeued (h : OpenTo g r b s tr)
    (third : ¬((s.boothLine b).health = .suspect ∧ 2 ≤ (s.boothLine b).misses))
    (handed : ∀ u, u.boothLine b = s.boothLine b → u.debit b = s.debit b → handMiss tr u = requeued b q u) :
    BothMisses g tr s fun u => modBoothLine b missedLine (requeued b q (closedMissed g u)) := by
  refine bothMisses_handed h third (fun u hu => handed _ ?_ ?_) fun u => ?_
  · rw [boothLine_closedMissed, hu.line]
  · rw [debit_closedMissed, hu.debit]
  · unfold requeued
    rw [boothLine_modBoothLine_self]
    exact ⟨rfl, rfl⟩

/-- The requests of which a miss loses nothing: they stay pending, or outstanding in the Debit Unit (R130). -/
def Standing (r : Request) (b : Booth) (s : State) : Prop :=
  (∃ bit, r = .poll bit) ∨ r = .status ∨ r = .eject ∨ (∃ serial, r = .retain serial)
    ∨ ((∃ serial, r = .verify serial) ∧ ∃ a, (s.debit b).outstanding = .verify a)

theorem handMiss_standing (h : OpenTo g r b s tr) (standing : Standing r b s) (hd : u.debit b = s.debit b) :
    handMiss tr u = u := by
  obtain ⟨-, rfl, rfl, -⟩ := h
  rcases standing with hr | hr | hr | hr | ⟨⟨serial, hr⟩, a, ho⟩
  · exact handMiss_pending (.inl hr)
  · exact handMiss_pending (.inr (.inl hr))
  · exact handMiss_pending (.inr (.inr (.inl hr)))
  · exact handMiss_pending (.inr (.inr (.inr hr)))
  · exact handMiss_verify hr (hd ▸ ho)

theorem bothMisses_standing (h : OpenTo g r b s tr)
    (third : ¬((s.boothLine b).health = .suspect ∧ 2 ≤ (s.boothLine b).misses)) (standing : Standing r b s) :
    BothMisses g tr s fun u =>
      modBoothLine b missedLine (requeued b (s.boothLine b).signals (closedMissed g u)) :=
  bothMisses_requeued h third fun u line debit => by
    rw [handMiss_standing h standing debit, requeued_same (congrArg BoothLine.signals line)]

/-- The first miss of a POLL makes an IN SERVICE booth SUSPECT (R132). -/
theorem bothMisses_first {bit : Bool} (h : OpenTo g (.poll bit) b s tr) (health : (s.boothLine b).health = .inService)
    (misses : (s.boothLine b).misses = 0) :
    BothMisses g tr s fun u => modBoothLine b (fun l => { l with misses := 1, health := .suspect }) (closedMissed g u) := by
  have third : ¬((s.boothLine b).health = .suspect ∧ 2 ≤ (s.boothLine b).misses) := by
    rw [health]
    rintro ⟨suspect, -⟩
    cases suspect
  refine (bothMisses_standing h third (.inl ⟨bit, rfl⟩)).congr fun u hu => ?_
  have line : (closedMissed g u).boothLine b = s.boothLine b := by rw [boothLine_closedMissed, hu.line]
  rw [requeued_same (congrArg BoothLine.signals line)]
  refine modBoothLine_congr ?_
  rw [line]
  unfold missedLine
  rw [health, misses]
  rfl

/-- A missed SIGNAL goes back to its queue (R136). -/
theorem bothMisses_signal {sig : Signal} (h : OpenTo g (.signal sig) b s tr)
    (third : ¬((s.boothLine b).health = .suspect ∧ 2 ≤ (s.boothLine b).misses)) (takes : TakesWork b s) :
    BothMisses g tr s fun u => modBoothLine b missedLine
      (requeued b (returnSignal sig (s.boothLine b).signals) (closedMissed g u)) := by
  refine bothMisses_requeued h third fun u line _ => ?_
  have works : (u.boothLine b).health.takesWork = true := by
    rw [line]
    exact (takesWork_iff _).mpr (not_or.mpr takes)
  rw [handMiss_signal h.request, h.booth, postTo, if_pos works]
  exact modBoothLine_congr (by rw [line])

/-- A SIGNAL missed by a booth that takes no work is gone (R135). -/
theorem bothMisses_signal_refused {sig : Signal} (h : OpenTo g (.signal sig) b s tr)
    (third : ¬((s.boothLine b).health = .suspect ∧ 2 ≤ (s.boothLine b).misses)) (refuses : ¬TakesWork b s) :
    BothMisses g tr s fun u =>
      modBoothLine b missedLine (requeued b (s.boothLine b).signals (closedMissed g u)) := by
  refine bothMisses_requeued h third fun u line _ => ?_
  have idle : ¬(u.boothLine b).health.takesWork = true := by
    rw [line]
    exact fun works => refuses (not_or.mp ((takesWork_iff _).mp works))
  rw [handMiss_signal h.request, h.booth, postTo, if_neg idle, requeued_same (congrArg BoothLine.signals line)]

/-! ## A CANCEL or VERIFY of nothing outstanding (R103) -/

theorem bothMisses_unmatched_verify {serial : BitVec 32} (h : OpenTo g (.verify serial) b s tr)
    (third : ¬((s.boothLine b).health = .suspect ∧ 2 ≤ (s.boothLine b).misses)) (none : (s.debit b).outstanding = .none) :
    BothMisses g tr s fun u => modBoothLine b missedLine (bump Ctr.unmatchedOutcomes (closedMissed g u)) :=
  bothMisses_handed h third
    (fun u hu => handMiss_unmatched_verify h.request (by rw [h.booth, debit_closedMissed, hu.debit, none]))
    fun _ => ⟨rfl, rfl⟩

theorem bothMisses_unmatched_cancel {n : Nat} {serial : BitVec 32} (h : OpenTo g (.cancel n serial) b s tr)
    (third : ¬((s.boothLine b).health = .suspect ∧ 2 ≤ (s.boothLine b).misses)) (none : (s.debit b).outstanding = .none) :
    BothMisses g tr s fun u => modBoothLine b missedLine
      (bump Ctr.unmatchedOutcomes (modBoothLine b (fun l => { l with debitWork := Option.none }) (closedMissed g u))) := by
  refine bothMisses_handed (after := fun u =>
    bump Ctr.unmatchedOutcomes (modBoothLine b (fun l => { l with debitWork := Option.none }) u)) h third
    (fun u hu => ?_) fun u => ?_
  · rw [handMiss_unmatched_cancel h.request (by rw [h.booth, debit_closedMissed, hu.debit, none]), h.booth]
  · rw [boothLine_bump, boothLine_modBoothLine_self]
    exact ⟨rfl, rfl⟩

/-! ## A probe missed, and a booth disabled or moved meanwhile (R125, R133) -/

theorem bothMisses_probe (opened : (s.seg g).transaction = some tr) (probe : tr.probe = true) (orphan : tr.orphan = false)
    (lost : (s.boothLine tr.booth).health = .lost) :
    BothMisses g tr s fun u => modBoothLine tr.booth
      (fun l => { l with probeTimer := some (u.now + u.mgmt.limits.probe * 4000) }) (closedMissed g u) := by
  refine bothMisses opened fun u hu => ?_
  have health : ((closedMissed g u).boothLine tr.booth).health = .lost := by
    rw [boothLine_closedMissed, hu.line, lost]
  have timer : (closedMissed g u).now = u.now ∧ (closedMissed g u).mgmt = u.mgmt := by cases g <;> exact ⟨rfl, rfl⟩
  unfold closeMiss
  rw [probe, orphan]
  change missProbe tr.booth (closedMissed g u) = _
  unfold missProbe
  rw [if_pos health, timer.1, timer.2]
  rfl

theorem bothMisses_orphan (opened : (s.seg g).transaction = some tr) (orphan : tr.orphan = true) :
    BothMisses g tr s (closedMissed g) := by
  refine bothMisses opened fun u _ => ?_
  unfold closeMiss
  rw [orphan]
  rfl

theorem goodReply_orphan {reply : BoothReply} (orphan : tr.orphan = true) :
    goodReply g tr reply s = modSeg g (fun x => { x with transaction := none, followOn := none }) s := by
  have follow : s.followOnAfter tr reply = none := by
    unfold State.followOnAfter
    rw [orphan]
    split
    · rw [Bool.not_true, Bool.and_false, Bool.false_and]
      rfl
    · rfl
  unfold goodReply
  rw [follow, orphan]
  rfl

end

end Sys2Proof.Machine

section
open Sys2Proof Sys2Proof.Machine

/-- Settles O36: both misses close the transaction alike (`bothMisses`); what is handed on goes by the request
(`handMiss_pending` and its companions), and the booth's health follows (`missHealth_eq`). -/
theorem missedPollMakesSuspect : Obligations.MissedPollMakesSuspect := by
  refine ⟨?_, ?_, ?_, ?_⟩
  · exact fun s g bit b tr opens health misses => bothMisses_first opens health misses
  · intro s g r b tr opens third closes missed
    refine ⟨bothMisses_standing opens third, fun sig hr => ?_, fun none => ⟨?_, ?_⟩⟩
    · subst hr
      exact ⟨fun takes => ⟨_, bothMisses_signal opens third takes, signalReturned_returnSignal _ _⟩,
        bothMisses_signal_refused opens third⟩
    · rintro ⟨serial, rfl⟩
      exact bothMisses_unmatched_verify opens third none
    · rintro ⟨n, serial, rfl⟩
      exact bothMisses_unmatched_cancel opens third none
  · exact fun s g tr opened probe orphan lost => bothMisses_probe opened probe orphan lost
  · intro s g tr opened orphan
    obtain ⟨expires, garbles⟩ := bothMisses_orphan opened orphan
    refine ⟨expires, garbles, fun drop tag reply hp ht hdrop htag accepts => ?_⟩
    rw [exec_replyRow, receiveReply_matching ⟨hp, ht⟩ opened htag hdrop, if_pos accepts, goodReply_orphan orphan]

end
end

section
/-!
# The third miss in a row (R20, R129, R132, R134, R181)
-/

namespace Sys2Proof.Machine

section
variable {s t u v w : State} {g : Segment} {r : Request} {b : Booth} {tr : Transaction}

/-! ## What the end of a call for health leaves pending, and where it does not reach -/

/-- Every notice cause pending in s is pending in t. -/
def KeepsWaiting (s t : State) : Prop :=
  ∀ i, s.mgmt.notices.waiting.getLsbD i = true → t.mgmt.notices.waiting.getLsbD i = true

theorem KeepsWaiting.trans (h : KeepsWaiting s t) (k : KeepsWaiting t u) : KeepsWaiting s u :=
  fun i hi => k i (h i hi)

theorem KeepsWaiting.of_notices (h : t.mgmt.notices = s.mgmt.notices) : KeepsWaiting s t :=
  fun _ hi => by rw [h]; exact hi

theorem keepsWaiting_notePending (c : NoticeCause) (s : State) : KeepsWaiting s (notePending c s) := by
  intro i hi
  unfold notePending
  rw [modNotices_mgmt]
  dsimp only
  split
  · exact hi
  · rw [BitVec.getLsbD_or, hi]
    rfl

theorem keepsWaiting_reportFault (kind : FaultKind) (b : Booth) (plan : Fin 8) (digits : List Digit)
    (card : Option (BitVec 16 × BitVec 32)) (s : State) : KeepsWaiting s (reportFault kind b plan digits card s) := by
  unfold reportFault
  split
  · exact keepsWaiting_notePending .faultCaptured _
  · exact .of_notices rfl

theorem keepsWaiting_dropOutstanding (b : Booth) (s : State) : KeepsWaiting s (dropOutstanding b true s) := by
  unfold dropOutstanding
  split
  next a _ =>
    obtain ⟨counters, made⟩ := makeUncertain_eq b a s
    rw [made]
    have asked : KeepsWaiting s { modDebit b (Debit.madeUncertain a) s with counters } := .of_notices rfl
    exact asked.trans (keepsWaiting_reportFault _ _ _ _ _ _)
  next => exact .of_notices rfl

theorem keepsWaiting_writeTicket (b : Booth) (s : State) : KeepsWaiting s (writeTicket b s) := by
  unfold writeTicket
  dsimp only
  split
  · exact keepsWaiting_notePending .ringHigh _
  · exact .of_notices rfl

theorem keepsWaiting_complete (b : Booth) (s : State) : KeepsWaiting s (complete b false s) := by
  obtain ⟨counters, h⟩ := complete_eq b false s
  rw [h]
  refine (keepsWaiting_writeTicket b s).trans (.of_notices ?_)
  rw [(drainTested_checkDrain _).rest]
  have freed := (channelFreed_releaseChannel b (!(s.ctx b).exchangeCleared)
    (modCtx b (fun c => { c with held := [] }) (writeTicket b s))).frame
  change (releaseChannel b _ (modCtx b _ (writeTicket b s))).mgmt.notices = _
  rw [freed]
  rfl

theorem keepsWaiting_endForHealth (b : Booth) (cause : EndCause) (s : State) :
    KeepsWaiting s (endForHealth b cause s) := by
  have cut : ∀ u : State, u.mgmt.notices = s.mgmt.notices →
      KeepsWaiting s (hookedOn b (complete b false (modDebit b Debit.settle (dropOutstanding b true u)))) := fun u h =>
    ((KeepsWaiting.of_notices h).trans (keepsWaiting_dropOutstanding b u)).trans
      (keepsWaiting_complete b (modDebit b Debit.settle (dropOutstanding b true u)))
  cases hs : (s.ctx b).state with
  | free =>
    rw [endForHealth_free cause hs]
    exact .of_notices rfl
  | dialling | cardWait | routed =>
    rw [endForHealth_unanswered cause (by rw [hs]; rfl)]
    refine .of_notices ?_
    rw [hookedOn, modCtx_mgmt, (endedBeforeAnswer b cause s).rest]
  | speech | swap =>
    unfold endForHealth
    rw [hs]
    exact cut (ending b cause s) rfl
  | ending =>
    unfold endForHealth
    rw [hs]
    exact cut s rfl

/-- The time base and the segments are out of reach of the end of a call. -/
structure OffTheLine (s t : State) : Prop where
  now : t.now = s.now
  line : t.line = { s.line with booths := t.line.booths }

theorem OffTheLine.seg (h : OffTheLine s t) (g : Segment) : t.seg g = s.seg g := by
  unfold State.seg
  rw [h.line]

theorem OffTheLine.trans (h : OffTheLine s t) (k : OffTheLine t u) : OffTheLine s u where
  now := k.now.trans h.now
  line := k.line.trans (by rw [h.line])

theorem offTheLine_endForHealth (b : Booth) (cause : EndCause) (s : State) : OffTheLine s (endForHealth b cause s) := by
  cases hs : (s.ctx b).state with
  | free =>
    rw [endForHealth_free cause hs]
    exact ⟨rfl, rfl⟩
  | dialling | cardWait | routed =>
    rw [endForHealth_unanswered cause (by rw [hs]; rfl)]
    have E := endedBeforeAnswer b cause s
    generalize endBeforeAnswer b cause s = t at E
    exact ⟨by rw [hookedOn, modCtx_now, E.rest], by rw [hookedOn, modCtx_line, E.rest]⟩
  | speech | swap | ending =>
    obtain ⟨v, cut, ends⟩ := endForHealth_answered (b := b) cause (by rw [hs]; simp)
    have P := completedInPlace_complete b v
    rw [ends]
    generalize complete b false v = t at P
    exact ⟨by rw [hookedOn, modCtx_now, P.rest, cut.rest], by rw [hookedOn, modCtx_line, P.rest, cut.rest]⟩

/-! ## A miss handed on (R108, R130, R136) -/

/-- A miss to booth b has been handed on: a signal may have gone back to its queue, and a CANCEL outstanding may have
become a VERIFY. -/
structure MissHanded (b : Booth) (s t : State) : Prop where
  line : t.boothLine b =
    { s.boothLine b with debitWork := (t.boothLine b).debitWork, signals := (t.boothLine b).signals }
  others : ∀ x, x ≠ b → t.boothLine x = s.boothLine x ∧ t.debit x = s.debit x
  debit : t.debit b = { s.debit b with outstanding := (t.debit b).outstanding }
  asks : (t.debit b).outstanding = .none ↔ (s.debit b).outstanding = .none
  rest : t = { s with debits := t.debits, line := { s.line with booths := t.line.booths }, counters := t.counters }

theorem MissHanded.refl (b : Booth) (s : State) : MissHanded b s s :=
  ⟨rfl, fun _ _ => ⟨rfl, rfl⟩, rfl, .rfl, rfl⟩

theorem MissHanded.trans (h : MissHanded b s t) (k : MissHanded b t u) : MissHanded b s u where
  line := k.line.trans (by rw [h.line])
  others x hx := by
    obtain ⟨hline, hdebit⟩ := h.others x hx
    obtain ⟨kline, kdebit⟩ := k.others x hx
    exact ⟨kline.trans hline, kdebit.trans hdebit⟩
  debit := k.debit.trans (by rw [h.debit])
  asks := k.asks.trans h.asks
  rest := k.rest.trans (by rw [h.rest])

/-- An update of the booth's debit work and signals alone. -/
theorem missHanded_modBoothLine {f : BoothLine → BoothLine}
    (hf : ∀ l, f l = { l with debitWork := (f l).debitWork, signals := (f l).signals }) (s : State) :
    MissHanded b s (modBoothLine b f s) where
  line := by
    rw [boothLine_modBoothLine_self]
    exact hf _
  others _ hx := ⟨boothLine_modBoothLine_ne hx f s, rfl⟩
  debit := rfl
  asks := .rfl
  rest := rfl

theorem missHanded_postTo {f : BoothLine → BoothLine}
    (hf : ∀ l, f l = { l with debitWork := (f l).debitWork, signals := (f l).signals }) (s : State) :
    MissHanded b s (postTo b f s) := by
  unfold postTo
  split
  · exact missHanded_modBoothLine hf s
  · exact .refl b s

theorem missHanded_bump (c : CounterId) (s : State) : MissHanded b s (bump c s) :=
  ⟨rfl, fun _ _ => ⟨rfl, rfl⟩, rfl, .rfl, rfl⟩

theorem missHanded_missedCancel {a : Ask} (h : (s.debit b).outstanding = .cancel a) :
    MissHanded b s (missedCancel b a s) := by
  have asked : MissHanded b s (modDebit b (fun d => { d with outstanding := .verify a }) s) := by
    refine ⟨rfl, fun x hx => ⟨rfl, debit_modDebit_ne hx _ s⟩, ?_, ?_, rfl⟩
    · rw [debit_modDebit_self]
    · rw [debit_modDebit_self, h]
      exact ⟨nofun, nofun⟩
  exact (asked.trans (missHanded_postTo (fun _ => rfl) _)).trans (missHanded_bump Ctr.verifiesPosted _)

theorem missHanded_debitOutcome (b : Booth) (s : State) : MissHanded b s (debitOutcome b none s) := by
  unfold debitOutcome
  cases ho : (s.debit b).outstanding with
  | none => exact missHanded_bump Ctr.unmatchedOutcomes s
  | cancel a => exact missHanded_missedCancel ho
  | verify a => exact .refl b s

theorem missHanded_handMiss (tr : Transaction) (s : State) : MissHanded tr.booth s (handMiss tr s) := by
  unfold handMiss
  cases tr.request with
  | cancel n serial => exact (missHanded_modBoothLine (fun _ => rfl) s).trans (missHanded_debitOutcome _ _)
  | verify serial => exact missHanded_debitOutcome _ s
  | signal sig => exact missHanded_postTo (fun _ => rfl) s
  | poll bit | status | eject | retain serial => exact .refl _ s

/-! ## Which request was outstanding does not matter to the end of the call (R110) -/

/-- The state with another request outstanding for booth b. -/
def withRequest (b : Booth) (o : Outstanding) (s : State) : State := modDebit b (fun d => { d with outstanding := o }) s

theorem debit_withRequest (b : Booth) (o : Outstanding) (s : State) :
    (withRequest b o s).debit b = { s.debit b with outstanding := o } := debit_modDebit_self b _ s

theorem EndedForHealth.ofRequest {cause : EndCause} {o : Outstanding} (h : EndedForHealth b cause (withRequest b o s) t)
    (asks : o = .none ↔ (s.debit b).outstanding = .none) : EndedForHealth b cause s t := by
  have debit := debit_withRequest b o s
  have debits : ∀ x, x ≠ b → (withRequest b o s).debit x = s.debit x := fun x hx => debit_modDebit_ne hx _ s
  obtain ⟨slot, free, unanswered, answered, charges, others, settings⟩ := h
  rw [debit] at answered charges
  refine ⟨slot, fun hs => ?_, fun hs => ?_, fun hs => ?_, charges, fun hs => ?_, settings⟩
  · obtain ⟨ctx, trunk, ring, service, rest⟩ := free hs
    refine ⟨ctx, trunk, ring, service, fun x hx => ?_⟩
    rw [← debits x hx]
    exact rest x hx
  · obtain ⟨ctx, ring, cards, uncertain, released⟩ := unanswered hs
    exact ⟨ctx, ring, cards, uncertain, released.congr rfl rfl rfl⟩
  · have ended := answered hs
    have ticket : ∀ recorded n, ticketOf b recorded n (withRequest b o s) = ticketOf b recorded n s := by
      intro recorded n
      unfold ticketOf
      rw [debit]
      rfl
    dsimp only at ended ⊢
    rw [ticket] at ended
    simp only [asks] at ended
    obtain ⟨ctx, ring, cards, outstanding, uncertain, count, stage, released⟩ := ended
    exact ⟨ctx, ring, cards, outstanding, uncertain, count, stage, released.congr rfl rfl rfl⟩
  · exact (others hs).congr (fun x hx => ⟨rfl, debits x hx, rfl, rfl⟩) rfl fun _ => rfl

/-- A miss handed on differs from its state in what `AlikeBeside` leaves open and in the request outstanding. -/
theorem MissHanded.alike (h : MissHanded b s t) : AlikeBeside b (withRequest b (t.debit b).outstanding s) t where
  booths x := by
    refine ⟨by rw [h.rest]; rfl, ?_, by rw [h.rest]; rfl⟩
    by_cases hx : x = b
    · subst hx
      rw [debit_withRequest]
      exact h.debit
    · obtain ⟨-, debit⟩ := h.others x hx
      exact debit.trans (debit_modDebit_ne hx _ s).symm
  others x hx := by
    obtain ⟨line, -⟩ := h.others x hx
    exact ⟨by rw [h.rest]; rfl, line⟩
  trunk := by rw [h.rest]; rfl
  ring := by rw [h.rest]; rfl
  service := by rw [h.rest]; rfl
  settings := by rw [h.rest]; rfl

/-! ## Entry to LOST (R132) -/

/-- The line of a booth at its third miss, its probe timer running out at the instant, before its work is cleared
(R132, R133). -/
def thirdMissLine (timer : Instant) (l : BoothLine) : BoothLine :=
  { l with health := .lost, misses := 3, probeTimer := some timer, probeDue := false }

/-- The line of a booth that its third miss has lost (R132, R135). -/
def lostLine (timer : Instant) (l : BoothLine) : BoothLine := thirdMissLine timer (clearedLine l)

/-- The report of a BOOTH LOST fault (R177). -/
def lostReport (b : Booth) (s : State) : FaultReport :=
  { kind := .boothLost, booth := b, plan := (s.entry b).plan, digits := [], card := (s.slot b).identity,
    clock := s.tariff.clock }

/-- The state in which the third miss has been counted and its fault reported. -/
def lostCounted (b : Booth) (s : State) : State :=
  s |> modBoothLine b (thirdMissLine (s.now + s.mgmt.limits.probe * 4000))
    |> reportFault .boothLost b (s.entry b).plan [] (s.slot b).identity

/-- The state in which BOOTH OUT is pending too and the booth's work cleared, its call not yet ended. -/
def lostReported (b : Booth) (s : State) : State := clearPending b (notePending .boothOut (lostCounted b s))

/-- The third miss of a SUSPECT booth loses it (R132). -/
theorem missHealth_third (suspect : (s.boothLine b).health = .suspect) (misses : (s.boothLine b).misses = 2) :
    missHealth b s = setSlot b .empty (endForHealth b .boothLost (lostReported b s)) := by
  unfold missHealth
  dsimp only
  rw [suspect, misses]
  change enterLost b (modBoothLine b (fun l => { l with misses := 3 }) s) = _
  unfold enterLost
  rw [modBoothLine_modBoothLine]
  rfl

/-- What the report of a lost booth leaves (R132, R177, R181). -/
structure LostReported (b : Booth) (s t : State) : Prop where
  line : t.boothLine b = lostLine (s.now + s.mgmt.limits.probe * 4000) (s.boothLine b)
  alike : AlikeBeside b s t
  off : OffTheLine s t
  held : t.mgmt.faultHeld = some (s.mgmt.faultHeld.getD (lostReport b s))
  later : s.mgmt.faultHeld ≠ none → t.mgmt.laterFaults = min 255 (s.mgmt.laterFaults + 1)
  boothOut : t.mgmt.notices.waiting.getLsbD 3 = true

theorem boothLine_lostCounted (b : Booth) (s : State) :
    (lostCounted b s).boothLine b = thirdMissLine (s.now + s.mgmt.limits.probe * 4000) (s.boothLine b) := by
  unfold lostCounted
  rw [reportFault_rest]
  exact boothLine_modBoothLine_self b (thirdMissLine _) s

theorem alikeBeside_lostReported (b : Booth) (s : State) : AlikeBeside b s (lostReported b s) :=
  (((alikeBeside_modBoothLine b _ s).trans (alikeBeside_reportFault ..)).trans
    (alikeBeside_notePending b .boothOut _)).trans (alikeBeside_modBoothLine b BoothLine.cleared _)

theorem offTheLine_modBoothLine (b : Booth) (f : BoothLine → BoothLine) (s : State) :
    OffTheLine s (modBoothLine b f s) := ⟨rfl, rfl⟩

theorem offTheLine_lostReported (b : Booth) (s : State) : OffTheLine s (lostReported b s) := by
  have reported : OffTheLine (modBoothLine b (thirdMissLine (s.now + s.mgmt.limits.probe * 4000)) s)
      (lostCounted b s) := by
    unfold lostCounted
    rw [reportFault_rest]
    exact ⟨rfl, rfl⟩
  have cleared : OffTheLine (lostCounted b s) (lostReported b s) := ⟨rfl, rfl⟩
  exact ((offTheLine_modBoothLine b _ s).trans reported).trans cleared

theorem lostReported_lostReported (b : Booth) (s : State) : LostReported b s (lostReported b s) := by
  have taken : FaultTaken (lostReport b s) s (lostCounted b s) := by
    obtain ⟨held, later, rest⟩ := faultTaken_reportFault .boothLost b (s.entry b).plan [] (s.slot b).identity
      (modBoothLine b (thirdMissLine (s.now + s.mgmt.limits.probe * 4000)) s)
    exact ⟨held, later, rest⟩
  refine ⟨?_, alikeBeside_lostReported b s, offTheLine_lostReported b s, taken.holds,
    fun busy => congrArg (·.laterFaults) (taken.later busy), notePending_waiting .boothOut _⟩
  unfold lostReported clearPending
  rw [boothLine_modBoothLine_self]
  change ((lostCounted b s).boothLine b).cleared = _
  rw [boothLine_lostCounted]
  rfl

/-- That line when a take-out mark is honoured at the end of the booth's call (R17, R134). -/
theorem lostLine_marked {timer : Instant} {l : BoothLine} (h : l.mark = true) :
    lineAtCallEnd (lostLine timer l) =
      { lostLine timer l with health := .taken, mark := false, probeTimer := none, signals := [.outOfOrder] } := by
  rw [lineAtCallEnd_marked (l := lostLine timer l) h]
  rfl

theorem lostLine_unmarked {timer : Instant} {l : BoothLine} (h : l.mark = false) :
    lineAtCallEnd (lostLine timer l) = lostLine timer l := lineAtCallEnd_unmarked h

/-- The booth's line when its call, if it had one, has ended. -/
theorem boothLine_endForHealth_lost {timer : Instant} {l : BoothLine} (line : v.boothLine b = lostLine timer l) :
    ((v.ctx b).state = .free → (endForHealth b .boothLost v).boothLine b = lostLine timer l)
      ∧ ((v.ctx b).state ≠ .free → (endForHealth b .boothLost v).boothLine b = lineAtCallEnd (lostLine timer l)) := by
  refine ⟨fun free => ?_, fun busy => ?_⟩
  · rw [endForHealth_free .boothLost free]
    exact line
  · rw [(callGone_endForHealth rfl busy).line (by rw [line]; rintro (h | h) <;> cases h), line]

/-- The request outstanding, the booth's work and its signals do not matter to the report of its loss. -/
theorem MissHanded.lostReported (M : MissHanded b s w) :
    LostReported b w v → v.boothLine b = lostLine (s.now + s.mgmt.limits.probe * 4000) (s.boothLine b)
      ∧ v.mgmt.faultHeld = some (s.mgmt.faultHeld.getD (lostReport b s))
      ∧ (s.mgmt.faultHeld ≠ none → v.mgmt.laterFaults = min 255 (s.mgmt.laterFaults + 1)) := by
  rintro ⟨line, -, -, held, later, -⟩
  have now : w.now = s.now := by rw [M.rest]
  have mgmt : w.mgmt = s.mgmt := by rw [M.rest]
  have report : lostReport b w = lostReport b s := by rw [M.rest]; rfl
  rw [now, mgmt, M.line] at line
  rw [mgmt] at held later
  rw [report] at held
  exact ⟨line, held, later⟩

/-- A SUSPECT booth that misses for the third time leaves service (R20, R132). The miss was handed on from s to w. -/
theorem leavesService_third (M : MissHanded b s w) (suspect : (s.boothLine b).health = .suspect)
    (misses : (s.boothLine b).misses = 2) :
    LeavesService b .boothLost (lostReport b s) (lostLine (s.now + s.mgmt.limits.probe * 4000) (s.boothLine b)) s
      (missHealth b w) := by
  rw [missHealth_third (by rw [M.line]; exact suspect) (by rw [M.line]; exact misses)]
  have reported := lostReported_lostReported b w
  generalize lostReported b w = v at reported ⊢
  obtain ⟨line, held, later⟩ := M.lostReported reported
  have alike := M.alike.trans reported.alike
  obtain ⟨ctx, debit, -⟩ := alike.booths b
  have busy_iff : (v.ctx b).state = (s.ctx b).state := congrArg Ctx.state ctx
  obtain ⟨keeps, counts⟩ := faults_endForHealth (b := b) (s := v) (cause := .boothLost) rfl
  obtain ⟨idle, gone⟩ := boothLine_endForHealth_lost line
  refine ⟨fun unmarked => ?_, fun marked busy => ?_, ?_, ?_, fun asks busy => ?_, ?_⟩
  · rw [boothLine_setSlot]
    by_cases free : (v.ctx b).state = .free
    · exact idle free
    · rw [gone free]
      exact lostLine_unmarked (unmarked.resolve_right (by rw [← busy_iff]; exact free))
  · rw [boothLine_setSlot, gone (by rw [busy_iff]; exact busy)]
    exact lostLine_marked marked
  · exact ((endedForHealth_emptied b (cause := .boothLost) rfl nofun v).alike alike.symm (alikeBeside_refl b _)
      (slot_setSlot_self b .empty _)).ofRequest M.asks
  · change (endForHealth b .boothLost v).mgmt.faultHeld = _
    rw [keeps (by rw [held]; nofun), held]
  · change (endForHealth b .boothLost v).mgmt.laterFaults = _
    rw [counts (by rw [debit, debit_withRequest]; exact M.asks.mpr asks), later busy]
  · exact keepsWaiting_endForHealth b .boothLost v 3 reported.boothOut

theorem offTheLine_third (suspect : (w.boothLine b).health = .suspect) (misses : (w.boothLine b).misses = 2) :
    OffTheLine w (missHealth b w) := by
  rw [missHealth_third suspect misses]
  have emptied : ∀ u, OffTheLine u (setSlot b .empty u) := fun u => ⟨rfl, rfl⟩
  exact ((offTheLine_lostReported b w).trans (offTheLine_endForHealth b .boothLost _)).trans (emptied _)

/-! ## The miss closes the transaction (R129) -/

theorem alikeBeside_closedMissed (b : Booth) (g : Segment) (s : State) : AlikeBeside b s (closedMissed g s) := by
  cases g <;> exact ⟨fun _ => ⟨rfl, rfl, rfl⟩, fun _ _ => ⟨rfl, rfl⟩, rfl, rfl, rfl, rfl⟩

theorem SameButTime.alike (h : SameButTime s u) (b : Booth) : AlikeBeside b s u := by
  rw [h.rest]
  exact ⟨fun _ => ⟨rfl, rfl, rfl⟩, fun _ _ => ⟨rfl, rfl⟩, rfl, rfl, rfl, rfl⟩

/-- A booth leaves service from states alike, with the same line of the booth and the same faults held, alike. -/
theorem LeavesService.alike {cause : EndCause} {fault : FaultReport} {line : BoothLine}
    (h : LeavesService b cause fault line s t) (alike : AlikeBeside b s u) (same : u.boothLine b = s.boothLine b)
    (mgmt : u.mgmt = s.mgmt) : LeavesService b cause fault line u t := by
  obtain ⟨unmarked, marked, call, held, later, boothOut⟩ := h
  obtain ⟨ctx, debit, -⟩ := alike.booths b
  exact ⟨by rw [same, ctx]; exact unmarked, by rw [same, ctx]; exact marked,
    call.alike alike (alikeBeside_refl b t) call.slot, by rw [mgmt]; exact held,
    by rw [debit, mgmt]; exact later, boothOut⟩

/-- The third miss in a row of a SUSPECT booth, whatever its request, its transaction closed on u. -/
theorem closeMiss_third (h : OpenTo g r b s tr) (suspect : (s.boothLine b).health = .suspect)
    (misses : (s.boothLine b).misses = 2) (hu : SameButTime s u) :
    LeavesService b .boothLost (lostReport b s) (lostLine (u.now + s.mgmt.limits.probe * 4000) (s.boothLine b)) s
        (closeMiss g tr u)
      ∧ OffTheLine (closedMissed g u) (closeMiss g tr u) := by
  have line : (closedMissed g u).boothLine b = s.boothLine b := by rw [boothLine_closedMissed, hu.line]
  have mgmt : (closedMissed g u).mgmt = s.mgmt := by
    rw [hu.rest]
    cases g <;> rfl
  have now : (closedMissed g u).now = u.now := by cases g <;> rfl
  have report : lostReport b (closedMissed g u) = lostReport b s := by
    rw [hu.rest]
    cases g <;> rfl
  have handed : MissHanded b (closedMissed g u) (handMiss tr (closedMissed g u)) := by
    rw [← h.booth]
    exact missHanded_handMiss tr _
  have leaves := leavesService_third handed (by rw [line]; exact suspect) (by rw [line]; exact misses)
  have off := offTheLine_third (b := b) (w := handMiss tr (closedMissed g u))
    (by rw [handed.line, line]; exact suspect) (by rw [handed.line, line]; exact misses)
  have kept : OffTheLine (closedMissed g u) (handMiss tr (closedMissed g u)) := by
    rw [handed.rest]
    exact ⟨rfl, rfl⟩
  rw [report, now, mgmt, line] at leaves
  rw [closeMiss_eq h]
  exact ⟨leaves.alike ((hu.alike b).trans (alikeBeside_closedMissed b g u)).symm line.symm mgmt.symm,
    kept.trans off⟩

/-- What the closed transaction leaves of the segments. -/
theorem OffTheLine.closed (h : OffTheLine (closedMissed g u) t) (hu : SameButTime s u) :
    t.now = u.now ∧ t.seg g = { s.seg g with transaction := none, followOn := none }
      ∧ ∀ g', g' ≠ g → t.seg g' = s.seg g' := by
  have segs : ∀ g', u.seg g' = s.seg g' := fun g' => by
    rw [hu.rest]
    rfl
  refine ⟨h.now.trans ?_, ?_, fun g' other => ?_⟩
  · cases g <;> rfl
  · rw [h.seg, closedMissed, seg_bump, seg_modSeg_self, segs]
  · rw [h.seg, closedMissed, seg_bump, seg_modSeg_ne other.symm, segs]

end

end Sys2Proof.Machine

section
open Sys2Proof Sys2Proof.Machine

/-- Settles O38: what the miss hands on leaves the booth's health and miss count (`MissHanded`), so the third miss loses
the booth (`missHealth_third`), and the end of its call goes as for any booth that leaves service
(`endedForHealth_emptied`). -/
theorem thirdMissLosesTheBooth : Obligations.ThirdMissLosesTheBooth := by
  intro s g r b tr opens suspect misses loses
  obtain ⟨expires, garbles⟩ := bothMisses opens.opened fun u _ => (rfl : closeMiss g tr u = _)
  have third : ∀ u, SameButTime s u → loses u.now (closeMiss g tr u) := fun u hu => by
    obtain ⟨leaves, off⟩ := closeMiss_third opens suspect misses hu
    exact ⟨leaves, off.closed hu⟩
  exact ⟨⟨_, expires, third { s with now := max s.now tr.expiry } ⟨rfl⟩⟩,
    _, garbles, third (bump (Ctr.garbled g) s) ⟨rfl⟩⟩

end
end

section
/-!
# Frames received and timers that expire on their own (R133, R140 to R145, R182, R186)
-/

namespace Sys2Proof.Machine

section
variable {s : State}

/-- A valid frame makes the link UP and restarts the silence timer at 2 s (R141). -/
theorem validFrame_eq (s : State) :
    validFrame s =
      bump Ctr.validFrames { s with trunk := { s.trunk with linkUp := true, silence := some (s.now + 8000) } } := rfl

theorem probeExpiry_of_running {b : Booth} {i : Instant} (h : (s.boothLine b).probeTimer = some i) :
    probeExpiry b s =
      modBoothLine b (fun l => { l with probeTimer := none, probeDue := true }) { s with now := max s.now i } := by
  unfold probeExpiry
  rw [h]
  rfl

theorem windowHoldExpiry_of_holding {g : Segment} {i : Instant} (h : (s.seg g).hold = some i) :
    windowHoldExpiry g s = modSeg g (fun x => { x with hold := none }) { s with now := max s.now i } := by
  unfold windowHoldExpiry
  rw [h]
  rfl

theorem noticeHoldExpiry_of_running {i : Instant} (h : s.mgmt.notices.hold = some i) :
    noticeHoldExpiry s =
      { s with
        now := max s.now i, mgmt := { s.mgmt with notices := { s.mgmt.notices with hold := none } } } := by
  unfold noticeHoldExpiry
  rw [h]
  rfl

theorem commandFrame_of_room {c : Cmd} (room : s.mgmt.cmdQueue.length < 8) :
    commandFrame c s =
      bump Ctr.commandsReceived
        { validFrame s with mgmt := { s.mgmt with cmdQueue := s.mgmt.cmdQueue ++ [c] } } := if_pos room

theorem commandFrame_of_full {c : Cmd} (full : 8 ≤ s.mgmt.cmdQueue.length) :
    commandFrame c s = bump Ctr.commandsDiscarded (validFrame s) := if_neg (Nat.not_lt.mpr full)

theorem execCommand_of_short {o t code : Byte} {args : List Byte} (h : args.length ≤ 20) :
    execCommand o t code args s = .next (commandFrame ⟨o, t, code, args⟩ s) := if_pos h

theorem execCommand_of_long {o t code : Byte} {args : List Byte} (h : 20 < args.length) :
    execCommand o t code args s = .next (discardFrame .wrongLength s) := if_neg (Nat.not_le.mpr h)

theorem channelOf_of_large {ch : Byte} (h : 63 < ch.toNat) : channelOf ch = none := finOf_of_le h

end

end Sys2Proof.Machine

section
open Sys2Proof Sys2Proof.Machine

/-- Settles O27, timer by timer. -/
theorem syncAndTimerExpiries : Obligations.SyncAndTimerExpiries :=
  ⟨fun s => congrArg Host.Outcome.next (validFrame_eq s), fun _ => rfl,
    fun _ _ running => congrArg Host.Outcome.next (noticeHoldExpiry_of_running running),
    fun _ _ _ holding => congrArg Host.Outcome.next (windowHoldExpiry_of_holding holding),
    fun _ _ _ running => congrArg Host.Outcome.next (probeExpiry_of_running running)⟩

/-- Settles O28: COMMAND by the room in the command queue, and the frames that fail a check. -/
theorem framesQueuedOrDiscarded : Obligations.FramesQueuedOrDiscarded := by
  refine ⟨fun o t code args s short => ⟨fun room => ?_, fun full => ?_⟩, fun _ _ => rfl,
    fun o t code args s long => execCommand_of_long long, fun ch s large => ⟨?_, ?_⟩⟩
  · rw [exec, execCommand_of_short short, commandFrame_of_room room, validFrame_eq]
  · rw [exec, execCommand_of_short short, commandFrame_of_full full, validFrame_eq]
  · rw [exec, execAnswer, channelOf_of_large large]
    rfl
  · rw [exec, execClear, channelOf_of_large large]
    rfl

end
end

section
/-!
# The transmitter (R147, R150, R151, R182)
-/

namespace Sys2Proof.Machine

section
variable {s : State}

/-- An idle transmitter with no SYNC due and the link UP. -/
structure Transmits (s : State) : Prop where
  quiet : s.trunk.syncDue = false
  up : s.trunk.linkUp = true

theorem chooseFrame_sync (due : s.trunk.syncDue = true) : chooseFrame s = sendSync s := if_pos due

theorem chooseFrame_down (quiet : s.trunk.syncDue = false) (down : s.trunk.linkUp = false) : chooseFrame s = s := by
  simp [chooseFrame, quiet, down]

/-- The lowest owed channel is one that is owed with none below it (R150). -/
theorem lowestOwed_eq_some {t : Trunk} {ch : Channel} (owed : t.hangupOwed.get ch = true)
    (lowest : ∀ x < ch, t.hangupOwed.get x = false) : t.lowestOwed = some ch := by
  refine List.find?_eq_some_iff_getElem.mpr ⟨owed, ch.val, by simp, by simp, fun j hj => ?_⟩
  simpa using lowest ⟨j, hj.trans ch.isLt⟩ hj

theorem lowestOwed_eq_none {t : Trunk} (h : ∀ ch : Channel, t.hangupOwed.get ch = false) : t.lowestOwed = none :=
  List.find?_eq_none.mpr fun ch _ => by simp [h ch]

theorem chooseFrame_hangup (ready : Transmits s) {ch : Channel} (owed : s.trunk.hangupOwed.get ch = true)
    (lowest : ∀ x < ch, s.trunk.hangupOwed.get x = false) : chooseFrame s = sendHangup ch s := by
  obtain ⟨quiet, up⟩ := ready
  simp [chooseFrame, quiet, up, lowestOwed_eq_some owed lowest]

theorem chooseFrame_sig (ready : Transmits s) (owesNone : ∀ ch : Channel, s.trunk.hangupOwed.get ch = false)
    {f : SigFrame} {q : List SigFrame} (queue : s.trunk.sigQueue = f :: q) : chooseFrame s = sendSig f s := by
  obtain ⟨quiet, up⟩ := ready
  simp [chooseFrame, quiet, up, lowestOwed_eq_none owesNone, queue]

theorem chooseFrame_reply (ready : Transmits s) (owesNone : ∀ ch : Channel, s.trunk.hangupOwed.get ch = false)
    (noSig : s.trunk.sigQueue = []) {r : Reply} {q : List Reply} (queue : s.trunk.replyQueue = r :: q) :
    chooseFrame s = sendReply r s := by
  obtain ⟨quiet, up⟩ := ready
  simp [chooseFrame, quiet, up, lowestOwed_eq_none owesNone, noSig, queue]

theorem chooseFrame_notice (ready : Transmits s) (owesNone : ∀ ch : Channel, s.trunk.hangupOwed.get ch = false)
    (noSig : s.trunk.sigQueue = []) (noReply : s.trunk.replyQueue = []) :
    chooseFrame s = if s.mgmt.notices.ready then sendNotice s else s := by
  obtain ⟨quiet, up⟩ := ready
  simp [chooseFrame, quiet, up, lowestOwed_eq_none owesNone, noSig, noReply]

/-! ## Offers of the freed slot (R147) -/

theorem offerSlots_of_none_waiting (h : s.trunk.waiting = []) : offerSlots s = s := by
  unfold offerSlots
  cases s.offersBound with
  | zero => rfl
  | succ n => simp [offerSlotsFuel, h]

theorem offerSlotsFuel_of_full (full : s.sigRoom = false) (n : Nat) : offerSlotsFuel n s = s := by
  cases n with
  | zero => rfl
  | succ n => simp [offerSlotsFuel, full]

/-- A freed slot goes to the oldest waiting booth, and no further when that leaves the queue full. -/
theorem offerSlots_of_one_slot (room : s.sigRoom = true) (waits : s.trunk.waiting ≠ [])
    (full : (offerSlot s).sigRoom = false) : offerSlots s = offerSlot s := by
  have offers : 0 < s.offersBound := by
    have := List.length_pos_iff.mpr waits
    unfold State.offersBound
    omega
  obtain ⟨n, bound⟩ := Nat.exists_eq_add_of_lt offers
  rw [offerSlots, bound, Nat.zero_add, offerSlotsFuel, if_pos (by simp [room, waits]), offerSlotsFuel_of_full full]

/-- The oldest waiting booth's next held digit joins the queue, and the booth goes to the end of the waiting list while
it holds more. -/
theorem offerSlot_of_held {b : Booth} {r : List Booth} {d : Digit} {ds : List Digit} (up : s.trunk.linkUp = true)
    (waits : s.trunk.waiting = b :: r) (held : (s.ctx b).held = d :: ds) :
    offerSlot s =
      modTrunk
        (fun t => { t with
          sigQueue := t.sigQueue ++ [.digit (s.entry b).channel d], waiting := if ds = [] then r else r ++ [b] })
        (modCtx b (fun c => { c with held := ds }) s) := by
  simp [offerSlot, waits, held, queueSig, up, modTrunk]

/-- What the queue's oldest frame leaves behind before the offers. -/
def sigLeft (f : SigFrame) (q : List SigFrame) (s : State) : State :=
  bump (if f.isSeize then Ctr.sentSeize else Ctr.sentDigit)
    { s with trunk := { s.trunk with sigQueue := q, tx := some (.sig f) } }

theorem sendSig_eq {f : SigFrame} {q : List SigFrame} (queue : s.trunk.sigQueue = f :: q) :
    sendSig f s = offerSlots (sigLeft f q s) := by
  simp only [sendSig, sigLeft, transmit, modTrunk, queue, List.tail_cons]

theorem sendSig_tx (f : SigFrame) {q : List SigFrame} (queue : s.trunk.sigQueue = f :: q) :
    (sendSig f s).trunk.tx = some (.sig f) := by
  rw [sendSig_eq queue, (slotsOffered_offerSlots _).trunk]
  rfl

/-- Sent from a full queue, a frame leaves one slot, which the oldest waiting booth takes. -/
theorem sendSig_of_full {f : SigFrame} {q : List SigFrame} {b : Booth} {r : List Booth} {d : Digit} {ds : List Digit}
    (up : s.trunk.linkUp = true) (queue : s.trunk.sigQueue = f :: q) (full : s.trunk.sigQueue.length = 64)
    (waits : s.trunk.waiting = b :: r) (held : (s.ctx b).held = d :: ds) :
    sendSig f s = offerSlot (sigLeft f q s) := by
  have left : q.length = 63 := by
    rw [queue, List.length_cons] at full
    omega
  have taken := offerSlot_of_held (s := sigLeft f q s) up waits held
  have room : (sigLeft f q s).sigRoom = true := by
    rw [sigRoom_up (s := sigLeft f q s) up]
    exact decide_eq_true (show q.length < 64 by omega)
  have refilled : (offerSlot (sigLeft f q s)).sigRoom = false := by
    have upStill : (offerSlot (sigLeft f q s)).trunk.linkUp = true := taken ▸ up
    have length : (offerSlot (sigLeft f q s)).trunk.sigQueue.length = 64 := by
      rw [taken]
      exact (List.length_append ..).trans (congrArg (· + 1) left)
    rw [sigRoom_up upStill, length]
    rfl
  have someone : (sigLeft f q s).trunk.waiting ≠ [] := fun nobody => absurd (waits.symm.trans nobody) nofun
  rw [sendSig_eq queue, offerSlots_of_one_slot room someone refilled]

/-! ## The NOTICE (R182) -/

theorem notices_ready_iff (n : Notices) : n.ready = true ↔ n.due = true ∧ n.hold = none := by
  simp [Notices.ready]

/-- With every pending cause masked the flag alone is cleared. -/
theorem sendNotice_masked (masked : s.mgmt.notices.waiting &&& ~~~s.mgmt.notices.mask = 0#5) :
    sendNotice s =
      { s with mgmt := { s.mgmt with notices := { s.mgmt.notices with due := false } } } := if_pos masked

theorem sendNotice_unmasked (unmasked : s.mgmt.notices.waiting &&& ~~~s.mgmt.notices.mask ≠ 0#5) :
    sendNotice s =
      bump Ctr.sentNotice
        { s with
          trunk :=
            { s.trunk with
              tx := some (.notice (s.mgmt.notices.waiting &&& ~~~s.mgmt.notices.mask) s.tariff.clock) }
          mgmt :=
            { s.mgmt with
              notices :=
                { s.mgmt.notices with
                  due := false
                  hold := if s.mgmt.notices.throttle = 0 then none
                    else some (s.now + s.mgmt.notices.throttle * 4000) } } } := if_neg unmasked

end

end Sys2Proof.Machine

section
open Sys2Proof Sys2Proof.Machine

/-- Settles O33: the order is `chooseFrame`'s, one lemma per frame it can choose; the freed slot of a signalling frame is
offered once, for the offer fills the queue again (`sendSig_of_full`). -/
theorem transmitterPrecedence : Obligations.TransmitterPrecedence := by
  refine ⟨fun s idle => ?_, fun s f busy => ⟨?_, ?_⟩⟩
  · have start : exec .frameTransmitStart s = .next (chooseFrame s) := by
      rw [exec, execFrameTransmitStart, transmitStart, idle]
      rfl
    simp only [start]
    refine ⟨fun due => ?_, fun quiet down => ?_, fun ⟨quiet, up⟩ ch owed lowest => ?_,
      fun ⟨quiet, up⟩ owesNone f q queue => ?_, fun ⟨quiet, up⟩ owesNone noSig r q queue => ?_,
      fun ⟨quiet, up⟩ owesNone noSig noReply => ?_⟩
    · rw [chooseFrame_sync due]
      rfl
    · rw [chooseFrame_down quiet down]
    · rw [chooseFrame_hangup ⟨quiet, up⟩ owed lowest]
      rfl
    · rw [chooseFrame_sig ⟨quiet, up⟩ owesNone queue]
      refine ⟨_, rfl, sendSig_tx f queue, fun nobody => ?_, fun b r d ds waits held full => ?_⟩
      · rw [sendSig_eq queue, offerSlots_of_none_waiting (s := sigLeft f q s) nobody]
        rfl
      · rw [sendSig_of_full up queue full waits held, offerSlot_of_held (s := sigLeft f q s) up waits held]
        refine ⟨rfl, ?_, rfl⟩
        rw [ctx_modTrunk, ctx_modCtx_self]
    · rw [chooseFrame_reply ⟨quiet, up⟩ owesNone noSig queue]
      simp only [sendReply, transmit, modTrunk, queue, List.tail_cons]
    · rw [chooseFrame_notice ⟨quiet, up⟩ owesNone noSig noReply]
      refine ⟨fun unready => ?_, fun due free masked => ?_, fun due free unmasked => ?_⟩
      · rw [if_neg]
        rw [notices_ready_iff]
        rintro ⟨due, free⟩
        exact unready.elim (fun notDue => absurd (due.symm.trans notDue) nofun) fun held => held free
      · rw [if_pos ((notices_ready_iff _).mpr ⟨due, free⟩), sendNotice_masked masked]
      · rw [if_pos ((notices_ready_iff _).mpr ⟨due, free⟩), sendNotice_unmasked unmasked]
  · rw [exec, execFrameTransmitStart, transmitStart, busy]
    rfl
  · rw [exec, exec, execFrameTransmitStart, execFrameTransmitComplete, transmitComplete, transmitStart, busy]
    rfl

end
end

section
/-!
# Every row answers, and what it is made of (R26 to R29, R56 to R61, R93 to R96, R125, R128, R162, R167, R170, R172, R178)

`Closed` has the updates that events are built from. With what the writes of the management centre, the release of the
fault record, RESTART and power-on do besides, it has those of every row.
-/

namespace Sys2Proof.Machine

/-- A property kept by every update that any row of the table is built from. -/
structure ClosedUnderWrites (P : State → Prop) : Prop extends Closed P where
  power : ∀ {s}, P s → P { State.reset with pending := s.pending }
  management : ∀ {f s}, P s → P (modMgmt f s)
  segment : ∀ {g f s}, P s → P (modSeg g f s)
  highWater : ∀ {f s}, P s → P (modRing f s)
  map : ∀ {b e s}, P s → P (setEntry b e s)
  tree : ∀ {node digit e s}, P s → P (setTreeEntry node digit e s)
  plan : ∀ {p x s}, P s → P (setPlan p x s)
  cls : ∀ {c r s}, P s → P (setClass c r s)
  profile : ∀ {p m s}, P s → P (setProfile p m s)
  band : ∀ {day l s}, P s → P (setBand day l s)
  holiday : ∀ {k d s}, P s → P (setHoliday k d s)
  series : ∀ {k r s}, P s → P (setSeries k r s)
  stop : ∀ {k c free s}, P s → P (setStop { s.card.stop.setChain k c with free := free } s)

namespace ClosedUnderWrites

section
variable {P : State → Prop} {s t : State}

/-! ## The owners of the commands that write -/

theorem treeWriteOwner (C : ClosedUnderWrites P) (args : List Byte) (hs : P s) : P (treeWriteOwner args s).state :=
  inRange_closed C.toClosed (fun _ _ h => bump_closed C.toClosed (C.tree h)) hs

theorem planWriteOwner (C : ClosedUnderWrites P) (args : List Byte) (hs : P s) : P (planWriteOwner args s).state :=
  inRange_closed C.toClosed (fun _ _ h => bump_closed C.toClosed (C.plan h)) hs

theorem classWriteOwner (C : ClosedUnderWrites P) (args : List Byte) (hs : P s) : P (classWriteOwner args s).state :=
  inRange_closed C.toClosed (fun _ _ h => bump_closed C.toClosed (C.cls h)) hs

theorem profileWriteOwner (C : ClosedUnderWrites P) (args : List Byte) (hs : P s) :
    P (profileWriteOwner args s).state :=
  inRange_closed C.toClosed (fun _ _ h => bump_closed C.toClosed (C.profile h)) hs

theorem bandWriteOwner (C : ClosedUnderWrites P) (args : List Byte) (hs : P s) : P (bandWriteOwner args s).state :=
  inRange_closed C.toClosed (fun _ _ h => bump_closed C.toClosed (C.band h)) hs

theorem holidayWriteOwner (C : ClosedUnderWrites P) (args : List Byte) (hs : P s) :
    P (holidayWriteOwner args s).state :=
  inRange_closed C.toClosed (fun _ _ h => bump_closed C.toClosed (C.holiday h)) hs

theorem ringSetupOwner (C : ClosedUnderWrites P) (args : List Byte) (hs : P s) : P (ringSetupOwner args s).state :=
  inRange_closed C.toClosed (fun _ _ h => bump_closed C.toClosed (C.highWater h)) hs

theorem limitsOwner (C : ClosedUnderWrites P) (args : List Byte) (hs : P s) : P (limitsOwner args s).state :=
  inRange_closed C.toClosed (fun _ _ h => bump_closed C.toClosed (C.management h)) hs

theorem accessWriteOwner (C : ClosedUnderWrites P) (args : List Byte) (hs : P s) : P (accessWriteOwner args s).state :=
  inRange_closed C.toClosed (fun _ _ h => bump_closed C.toClosed (C.management h)) hs

theorem segmentSetupOwner (C : ClosedUnderWrites P) (args : List Byte) (hs : P s) :
    P (segmentSetupOwner args s).state :=
  inRange_closed C.toClosed (fun _ _ h => carriedOut_closed C.toClosed (C.segment h)) hs

theorem faultClearOwner (C : ClosedUnderWrites P) (hs : P s) : P (faultClearOwner s).state :=
  bump_closed C.toClosed (C.management hs)

theorem seriesWriteOwner (C : ClosedUnderWrites P) (args : List Byte) (hs : P s) :
    P (seriesWriteOwner args s).state := by
  refine inRange_closed C.toClosed (fun _ _ h => ?_) hs
  dsimp only
  split
  · exact h
  · exact bump_closed C.toClosed (C.series h)

theorem stopAddOwner (C : ClosedUnderWrites P) (args : List Byte) (hs : P s) : P (stopAddOwner args s).state := by
  refine inRange_closed C.toClosed (fun _ _ h => ?_) hs
  dsimp only
  split_ifs
  · exact bump_closed C.toClosed (C.stop h)
  · exact bump_closed C.toClosed h
  · exact bump_closed C.toClosed h
  · exact bump_closed C.toClosed (C.stop h)

theorem stopRemoveOwner (C : ClosedUnderWrites P) (args : List Byte) (hs : P s) :
    P (stopRemoveOwner args s).state := by
  refine inRange_closed C.toClosed (fun _ _ h => ?_) hs
  dsimp only
  split
  · exact bump_closed C.toClosed (C.stop h)
  · exact h

theorem disableBooth (C : ClosedUnderWrites P) (b : Booth) (g : Segment) (hs : P s) : P (disableBooth b g s) :=
  C.slot (C.line (C.segment hs))

theorem enableBooth (C : ClosedUnderWrites P) (b : Booth) (hs : P s) : P (enableBooth b s) := C.line hs

theorem mapEffect (C : ClosedUnderWrites P) (b : Booth) (old new : MapEntry) (hs : P s) : P (mapEffect b old new s) := by
  unfold Machine.mapEffect
  split
  · exact hs
  · exact C.disableBooth b _ hs
  · exact C.enableBooth b hs
  · split
    · exact hs
    · exact C.enableBooth b (C.disableBooth b _ hs)

theorem boothMapOwner (C : ClosedUnderWrites P) (args : List Byte) (hs : P s) : P (boothMapOwner args s).state := by
  refine inRange_closed C.toClosed (fun _ _ h => ?_) hs
  dsimp only
  split
  · exact h
  · exact bump_closed C.toClosed (C.mapEffect _ _ _ (C.map h))

/-! ## The rows -/

/-- The row of a command whose owner keeps the property. -/
theorem row (C : ClosedUnderWrites P) {g : Group} {c : Cmd} {good : Bool} {owner : State → Carried}
    (ho : ∀ u, P u → P (owner u).state) (hs : P s)
    (he : (.next (takeCommand g c good owner s) : Host.Outcome State Fault Refusal) = .next t) : P t := by
  injection he with he
  exact he ▸ takeCommand_closed C.toClosed ho hs

theorem exec_writes (C : ClosedUnderWrites P) {c : Instr} (hw : c.writesSettings = true) (hs : P s)
    (he : exec c s = .next t) : P t := by
  cases c <;> simp only [Instr.writesSettings, Bool.false_eq_true] at hw
  case powerOn =>
    injection he with he
    exact he ▸ C.power hs
  case treeWrite => exact C.row (fun _ => C.treeWriteOwner _) hs he
  case planWrite => exact C.row (fun _ => C.planWriteOwner _) hs he
  case classWrite => exact C.row (fun _ => C.classWriteOwner _) hs he
  case profileWrite => exact C.row (fun _ => C.profileWriteOwner _) hs he
  case bandWrite => exact C.row (fun _ => C.bandWriteOwner _) hs he
  case holidayWrite => exact C.row (fun _ => C.holidayWriteOwner _) hs he
  case seriesWrite => exact C.row (fun _ => C.seriesWriteOwner _) hs he
  case stopAdd => exact C.row (fun _ => C.stopAddOwner _) hs he
  case stopRemove => exact C.row (fun _ => C.stopRemoveOwner _) hs he
  case boothMapWrite => exact C.row (fun _ => C.boothMapOwner _) hs he
  case segmentSetup => exact C.row (fun _ => C.segmentSetupOwner _) hs he
  case ringSetup => exact C.row (fun _ => C.ringSetupOwner _) hs he
  case limitsWrite => exact C.row (fun _ => C.limitsOwner _) hs he
  case accessWrite => exact C.row (fun _ => C.accessWriteOwner _) hs he

theorem exec_releases (C : ClosedUnderWrites P) {c : Instr} (hw : c.writesSettings = false)
    (hf : c.releasesFault = true) (hs : P s) (he : exec c s = .next t) : P t := by
  cases c <;> simp only [Instr.releasesFault, Bool.false_eq_true] at hf
  case powerOn => simp [Instr.writesSettings] at hw
  case faultClear => exact C.row (fun _ => C.faultClearOwner) hs he
  case restart => exact C.row (fun _ => restartOwner_closed C.toClosed fun _ => C.management) hs he

theorem exec (C : ClosedUnderWrites P) {c : Instr} (hs : P s) (he : exec c s = .next t) : P t := by
  cases hw : c.writesSettings with
  | true => exact C.exec_writes hw hs he
  | false =>
    cases hf : c.releasesFault with
    | true => exact C.exec_releases hw hf hs he
    | false => exact exec_closed C.toClosed hw hf hs he

/-- A property that does not go by the waiting rows is kept by every step. -/
theorem stepKeeps (C : ClosedUnderWrites P) (hp : ∀ s rest, P s → P { s with pending := rest }) : StepKeeps P := by
  intro s t hs ht
  unfold step at ht
  split at ht
  · injection ht with ht
    have idles : idle s = reach (s.now + 40) s := by
      unfold idle reach
      rw [max_eq_right (Nat.le_add_right ..)]
      rfl
    exact ht ▸ idles ▸ C.reached hs
  · exact C.exec (hp s _ hs) ht

end

end ClosedUnderWrites

/-! ## The model's own queue -/

theorem pending_closed (p : List Instr) : ClosedUnderWrites fun s => s.pending = p where
  ctx h := h
  debit h := h
  slot h := h
  line h := h
  trunk h := h
  notices h := h
  cache h := h
  reached h := h
  counter h := h
  seg _ h := (modSeg_pending _ _ _).trans h
  ring _ h := h
  mgmt _ h := h
  fill _ h := h
  clock h := h
  zero h := h
  power h := h
  management h := h
  segment h := (modSeg_pending _ _ _).trans h
  highWater h := h
  map h := h
  tree h := h
  plan h := h
  cls h := h
  profile h := h
  band h := h
  holiday h := h
  series h := h
  stop h := h

/-- No arm of the dispatch stops the part or refuses. -/
theorem exec_next (c : Instr) (s : State) : ∃ t, exec c s = .next t := by
  cases c
  case answer ch =>
    change ∃ t, execAnswer ch s = .next t
    unfold execAnswer
    split <;> exact ⟨_, rfl⟩
  case clear ch =>
    change ∃ t, execClear ch s = .next t
    unfold execClear
    split <;> exact ⟨_, rfl⟩
  case command o t code args =>
    change ∃ t', execCommand o t code args s = .next t'
    unfold execCommand
    split <;> exact ⟨_, rfl⟩
  all_goals exact ⟨_, rfl⟩

/-! ## Counters (R180) -/

theorem countersBounded_bumpBy {c : CounterId} {n : Nat} {s : State} (h : CountersBounded s) :
    CountersBounded (bumpBy c n s) := by
  intro g x hx
  rw [bumpBy_counters, get_set] at hx
  split at hx
  · obtain ⟨i, hi, rfl⟩ := List.mem_iff_getElem.mp hx
    rw [List.getElem_modify]
    split
    · exact min_le_left _ _
    · exact h c.1 _ (List.getElem_mem _)
  · exact h g x hx

theorem countersBounded_clearGroup {g : Fin 12} {s : State} (h : CountersBounded s) :
    CountersBounded (clearGroup g s) := by
  intro g' x hx
  change x ∈ (s.counters.set g.val _ g.isLt).get g' at hx
  rw [get_set] at hx
  split at hx
  · obtain ⟨_, _, rfl⟩ := List.mem_map.mp hx
    exact Nat.zero_le _
  · exact h g' x hx

/-- Only counts and COUNTER READ's clear reach the counters. -/
theorem countersBounded_closed : ClosedUnderWrites CountersBounded where
  ctx h := h
  debit h := h
  slot h := h
  line h := h
  trunk h := h
  notices h := h
  cache h := h
  reached h := h
  counter := countersBounded_bumpBy
  seg _ h := by
    unfold CountersBounded
    rwa [modSeg_counters]
  ring _ h := h
  mgmt _ h := h
  fill _ h := h
  clock h := h
  zero := countersBounded_clearGroup
  power _ := countersBounded_reset
  management h := h
  segment h := by
    unfold CountersBounded
    rwa [modSeg_counters]
  highWater h := h
  map h := h
  tree h := h
  plan h := h
  cls h := h
  profile h := h
  band h := h
  holiday h := h
  series h := h
  stop h := h

/-! ## Sparse tables -/

theorem tablesCanonical_modSeg {g : Segment} {f : SegLine → SegLine} {s : State} (h : TablesCanonical s) :
    TablesCanonical (modSeg g f s) := by
  cases g <;> exact h

/-- Only TREE WRITE, CLASS WRITE, STOP ADD and STOP REMOVE reach a sparse table, and each puts one value. -/
theorem tablesCanonical_closed : ClosedUnderWrites TablesCanonical where
  ctx h := h
  debit h := h
  slot h := h
  line h := h
  trunk h := h
  notices h := h
  cache h := h
  reached h := h
  counter h := h
  seg _ := tablesCanonical_modSeg
  ring _ h := h
  mgmt _ h := h
  fill _ h := h
  clock h := h
  zero h := h
  power _ := ⟨rfl, rfl, rfl⟩
  management h := h
  segment := tablesCanonical_modSeg
  highWater h := h
  map h := h
  tree := fun ⟨tree, classes, stop⟩ => ⟨smWf_smPut _ _ _ _ tree, classes, stop⟩
  plan h := h
  cls := fun ⟨tree, classes, stop⟩ => ⟨tree, smWf_smPut _ _ _ _ classes, stop⟩
  profile h := h
  band h := h
  holiday h := h
  series h := h
  stop := fun ⟨tree, classes, stop⟩ => ⟨tree, classes, smWf_smPut _ _ _ _ stop⟩

end Sys2Proof.Machine

section
open Sys2Proof Sys2Proof.Machine

/-- Settles O2: every arm of the dispatch is a next state (`exec_next`), and no update that a row is built from reaches
the model's own queue (`pending_closed`). -/
theorem everyCommandAnswersNext : Obligations.EveryCommandAnswersNext := by
  intro c s
  obtain ⟨t, ht⟩ := exec_next c s
  exact ⟨t, ht, (pending_closed s.pending).exec rfl ht⟩

end
end

section
/-!
# The queues within their capacities (R136, R145, R146, R151)

A row that answers a command first makes sure of room for its REPLY and queues it last, so what the owner does in between
is to leave the reply queue no longer than it was. The lemmas bound that queue by any number therefore.
-/

namespace Sys2Proof.Machine

theorem length_joinSignal {q : List Signal} (sig : Signal) (h : q.length ≤ 4) : (joinSignal sig q).length ≤ 4 := by
  unfold joinSignal
  split
  · rwa [List.length_map]
  · rw [List.length_drop, List.length_append, List.length_singleton]
    omega

theorem length_returnSignal {q : List Signal} (sig : Signal) (h : q.length ≤ 4) :
    (returnSignal sig q).length ≤ 4 := by
  unfold returnSignal
  split_ifs with _ full
  · exact h
  · exact h
  · exact Nat.not_le.mp full

/-- Every queue of the part keeps its capacity, and the reply queue holds n frames at most. -/
structure QueuesWithin (n : Nat) (s : State) : Prop where
  signalling : s.trunk.sigQueue.length ≤ 64
  replies : s.trunk.replyQueue.length ≤ n
  commands : s.mgmt.cmdQueue.length ≤ 8
  signals : ∀ b, (s.boothLine b).signals.length ≤ 4

theorem queuesBounded_iff {s : State} : QueuesBounded s ↔ QueuesWithin 16 s :=
  ⟨fun ⟨signalling, replies, commands, signals⟩ => ⟨signalling, replies, commands, signals⟩,
    fun ⟨signalling, replies, commands, signals⟩ => ⟨signalling, replies, commands, signals⟩⟩

namespace QueuesWithin

section
variable {n : Nat} {s : State} {b : Booth}

/-! ## The elementary updates -/

theorem mono {m : Nat} (h : QueuesWithin n s) (hm : n ≤ m) : QueuesWithin m s :=
  ⟨h.signalling, h.replies.trans hm, h.commands, h.signals⟩

theorem modCtx {f : Ctx → Ctx} (h : QueuesWithin n s) : QueuesWithin n (modCtx b f s) :=
  ⟨h.signalling, h.replies, h.commands, h.signals⟩

theorem modDebit {f : Debit → Debit} (h : QueuesWithin n s) : QueuesWithin n (modDebit b f s) :=
  ⟨h.signalling, h.replies, h.commands, h.signals⟩

theorem setSlot {x : CardSlot} (h : QueuesWithin n s) : QueuesWithin n (setSlot b x s) :=
  ⟨h.signalling, h.replies, h.commands, h.signals⟩

theorem setCache {c : List CacheEntry} (h : QueuesWithin n s) : QueuesWithin n (setCache c s) :=
  ⟨h.signalling, h.replies, h.commands, h.signals⟩

theorem reach {i : Instant} (h : QueuesWithin n s) : QueuesWithin n (reach i s) :=
  ⟨h.signalling, h.replies, h.commands, h.signals⟩

theorem bumpBy {c : CounterId} {k : Nat} (h : QueuesWithin n s) : QueuesWithin n (bumpBy c k s) :=
  ⟨h.signalling, h.replies, h.commands, h.signals⟩

theorem bump {c : CounterId} (h : QueuesWithin n s) : QueuesWithin n (bump c s) := h.bumpBy

theorem modRing {f : Ring → Ring} (h : QueuesWithin n s) : QueuesWithin n (modRing f s) :=
  ⟨h.signalling, h.replies, h.commands, h.signals⟩

theorem modNotices {f : Notices → Notices} (h : QueuesWithin n s) : QueuesWithin n (modNotices f s) :=
  ⟨h.signalling, h.replies, h.commands, h.signals⟩

theorem modSeg {g : Segment} {f : SegLine → SegLine} (h : QueuesWithin n s) : QueuesWithin n (modSeg g f s) := by
  obtain ⟨signalling, replies, commands, signals⟩ := h
  cases g <;> exact ⟨signalling, replies, commands, signals⟩

theorem clock {c : Clock} {i : Instant} (h : QueuesWithin n s) :
    QueuesWithin n { s with tariff := { s.tariff with clock := c, secondInstant := i } } :=
  ⟨h.signalling, h.replies, h.commands, h.signals⟩

theorem clearGroup {g : Fin 12} (h : QueuesWithin n s) : QueuesWithin n (clearGroup g s) :=
  ⟨h.signalling, h.replies, h.commands, h.signals⟩

theorem modMgmt {f : Mgmt → Mgmt} (h : QueuesWithin n s)
    (hf : ∀ m, (f m).cmdQueue.length ≤ m.cmdQueue.length := by exact fun _ => le_rfl) :
    QueuesWithin n (modMgmt f s) := ⟨h.signalling, h.replies, (hf s.mgmt).trans h.commands, h.signals⟩

theorem modTrunk {f : Trunk → Trunk} (h : QueuesWithin n s)
    (hq : ∀ t, (f t).sigQueue.length ≤ t.sigQueue.length := by exact fun _ => le_rfl)
    (hr : ∀ t, (f t).replyQueue.length ≤ t.replyQueue.length := by exact fun _ => le_rfl) :
    QueuesWithin n (modTrunk f s) :=
  ⟨(hq s.trunk).trans h.signalling, (hr s.trunk).trans h.replies, h.commands, h.signals⟩

theorem modBoothLine {f : BoothLine → BoothLine} (h : QueuesWithin n s)
    (hf : ∀ l, l.signals.length ≤ 4 → (f l).signals.length ≤ 4 := by exact fun _ hl => hl) :
    QueuesWithin n (modBoothLine b f s) where
  signalling := h.signalling
  replies := h.replies
  commands := h.commands
  signals x := by
    rw [boothLine_modBoothLine]
    split
    · exact hf _ (h.signals b)
    · exact h.signals x

theorem foldl {β : Type} {f : State → β → State} (hf : ∀ t x, QueuesWithin n t → QueuesWithin n (f t x))
    (h : QueuesWithin n s) (l : List β) : QueuesWithin n (l.foldl f s) := foldl_closed hf l h

/-! ## What is posted, reported and queued (R135, R136, R146 to R149, R177, R181) -/

theorem postTo {f : BoothLine → BoothLine} (h : QueuesWithin n s)
    (hf : ∀ l, l.signals.length ≤ 4 → (f l).signals.length ≤ 4 := by exact fun _ hl => hl) :
    QueuesWithin n (postTo b f s) := by
  unfold Machine.postTo
  split
  · exact h.modBoothLine hf
  · exact h

theorem postSignal {sig : Signal} (h : QueuesWithin n s) : QueuesWithin n (postSignal b sig s) :=
  h.postTo fun _ hl => length_joinSignal sig hl

theorem postDebit {w : DebitWork} (h : QueuesWithin n s) : QueuesWithin n (postDebit b w s) := h.postTo

theorem postCardAction {a : CardAction} (h : QueuesWithin n s) : QueuesWithin n (postCardAction b a s) :=
  h.postTo fun _ hl => by split <;> exact hl

theorem withdrawCardAction (h : QueuesWithin n s) : QueuesWithin n (withdrawCardAction b s) := by
  unfold Machine.withdrawCardAction
  exact h.modBoothLine fun _ hl => by split <;> exact hl

theorem clearPending (h : QueuesWithin n s) : QueuesWithin n (clearPending b s) :=
  h.modBoothLine fun _ _ => Nat.zero_le _

theorem notePending {c : NoticeCause} (h : QueuesWithin n s) : QueuesWithin n (notePending c s) := h.modNotices

theorem reportFault {kind : FaultKind} {plan : Fin 8} {digits : List Digit} {card : Option (BitVec 16 × BitVec 32)}
    (h : QueuesWithin n s) : QueuesWithin n (reportFault kind b plan digits card s) := by
  unfold Machine.reportFault
  split
  · exact h.bump.modMgmt.notePending
  · exact h.bump.modMgmt

theorem signalBooths {p : Booth → Bool} {sig : Signal} (h : QueuesWithin n s) :
    QueuesWithin n (signalBooths p sig s) := by
  refine h.foldl (fun t x ht => ?_) _
  split
  · exact ht.postSignal
  · exact ht

theorem releaseCard {reason : CardReason} (h : QueuesWithin n s) : QueuesWithin n (releaseCard b reason s) := by
  unfold Machine.releaseCard
  split
  · dsimp only
    split
    · exact h.setSlot.postCardAction.bump.postSignal
    · exact h.setSlot.postCardAction.bump
  · exact h

/-- A frame is offered to the signalling queue only while it has room (R146). -/
theorem queueSig {f : SigFrame} (h : QueuesWithin n s) (room : s.sigRoom = true) : QueuesWithin n (queueSig f s) := by
  cases up : s.trunk.linkUp with
  | true =>
    have short : s.trunk.sigQueue.length < 64 := of_decide_eq_true ((sigRoom_up up).symm.trans room)
    rw [queueSig_up f up]
    refine ⟨?_, h.replies, h.commands, h.signals⟩
    rw [List.length_append]
    exact short
  | false =>
    rw [queueSig_down f up]
    exact h.bump

theorem oweHangup {ch : Channel} (h : QueuesWithin n s) : QueuesWithin n (oweHangup ch s) := by
  unfold Machine.oweHangup
  split
  · exact h.modTrunk
  · exact h.bump

theorem joinWaiting (h : QueuesWithin n s) : QueuesWithin n (joinWaiting b s) :=
  h.modTrunk (fun _ => by split <;> exact le_rfl) fun _ => by split <;> exact le_rfl

theorem leaveWaiting (h : QueuesWithin n s) : QueuesWithin n (leaveWaiting b s) :=
  h.modTrunk

theorem offerSlot (h : QueuesWithin n s) (room : s.sigRoom = true) : QueuesWithin n (offerSlot s) := by
  unfold Machine.offerSlot
  split
  · exact h
  · split
    · exact h.modTrunk
    · exact (h.modCtx.queueSig room).modTrunk

theorem offerSlotsFuel {k : Nat} (h : QueuesWithin n s) : QueuesWithin n (offerSlotsFuel k s) := by
  induction k generalizing s with
  | zero => exact h
  | succ k ih =>
    unfold Machine.offerSlotsFuel
    split
    next offers => exact ih (h.offerSlot (Bool.and_elim_left offers))
    next => exact h

theorem offerSlots (h : QueuesWithin n s) : QueuesWithin n (offerSlots s) := h.offerSlotsFuel

theorem forward {d : Digit} (h : QueuesWithin n s) : QueuesWithin n (forward b d s) := by
  unfold Machine.forward
  dsimp only
  split_ifs with offered
  · exact h.queueSig (Bool.and_elim_right offered)
  · exact h.modCtx.joinWaiting
  · exact h.bump

theorem releaseHeldFuel {k : Nat} (h : QueuesWithin n s) : QueuesWithin n (releaseHeldFuel k b s) := by
  induction k generalizing s with
  | zero => exact h
  | succ k ih =>
    unfold Machine.releaseHeldFuel
    split
    · exact h
    · split
      next room => exact ih (h.modCtx.queueSig room)
      next => exact h.joinWaiting

theorem releaseHeld (h : QueuesWithin n s) : QueuesWithin n (releaseHeld b s) := h.releaseHeldFuel

theorem releaseChannel {owe : Bool} (h : QueuesWithin n s) : QueuesWithin n (releaseChannel b owe s) := by
  unfold Machine.releaseChannel
  have withdrawn := (h.modTrunk
    (f := fun t => { t with sigQueue := t.sigQueue.filter fun f => !decide (f.channel = (s.entry b).channel) })
    fun _ => List.length_filter_le ..).leaveWaiting (b := b)
  dsimp only
  split
  · exact withdrawn.bumpBy.oweHangup.offerSlots
  · exact withdrawn.bumpBy.offerSlots

/-! ## Booth health, drains, tickets and bands -/

theorem enterTaken (h : QueuesWithin n s) : QueuesWithin n (enterTaken b s) :=
  h.modBoothLine.postSignal

theorem honourMark (h : QueuesWithin n s) : QueuesWithin n (honourMark b s) := by
  unfold Machine.honourMark
  split
  · exact h.enterTaken
  · exact h

theorem checkDrain (h : QueuesWithin n s) : QueuesWithin n (checkDrain s) := by
  unfold Machine.checkDrain
  split
  · exact h.modMgmt.signalBooths
  · exact h

theorem writeTicket (h : QueuesWithin n s) : QueuesWithin n (writeTicket b s) := by
  unfold Machine.writeTicket
  dsimp only
  split
  · exact h.modRing.bump.notePending
  · exact h.modRing.bump

theorem giveBackReservation (h : QueuesWithin n s) : QueuesWithin n (giveBackReservation s) := h.modRing

theorem evaluateBand (h : QueuesWithin n s) : QueuesWithin n (evaluateBand b s) := by
  unfold Machine.evaluateBand
  split
  · exact h.modDebit.bump
  · exact h

theorem evaluateAll (h : QueuesWithin n s) : QueuesWithin n (evaluateAll s) := by
  refine h.foldl (fun t x ht => ?_) _
  split
  · exact ht.evaluateBand
  · exact ht

/-! ## The ends of calls (R11, R16 to R20, R22) -/

theorem freeContext (h : QueuesWithin n s) : QueuesWithin n (freeContext b s) := h.modDebit.modCtx

theorem endBeforeAnswer {cause : EndCause} (h : QueuesWithin n s) : QueuesWithin n (endBeforeAnswer b cause s) := by
  unfold Machine.endBeforeAnswer
  dsimp only
  split
  · exact h.modCtx.postSignal.releaseChannel.giveBackReservation.freeContext.bump.honourMark.checkDrain
  · exact h.modCtx.releaseChannel.giveBackReservation.freeContext.bump.honourMark.checkDrain

/-- Completion after the card has been released, or has not (R17). -/
theorem complete {eject : Bool} (h : QueuesWithin n s) : QueuesWithin n (complete b eject s) := by
  have released : QueuesWithin n (if eject then Machine.releaseCard b .returned (Machine.writeTicket b s)
      else Machine.writeTicket b s) := by
    split
    · exact h.writeTicket.releaseCard
    · exact h.writeTicket
  unfold Machine.complete
  dsimp only
  split
  · exact released.modCtx.releaseChannel.freeContext.bump.honourMark.checkDrain
  · exact released.modCtx.releaseChannel.freeContext.honourMark.checkDrain

theorem postCancel {i k : Nat} {e : CardEntry} {final : Bool} (h : QueuesWithin n s) :
    QueuesWithin n (postCancel b i e k final s) := h.modDebit.postDebit.bump

theorem settled (h : QueuesWithin n s) : QueuesWithin n (settled b s) := h.modDebit.complete

theorem finalTest (h : QueuesWithin n s) : QueuesWithin n (finalTest b s) := by
  unfold Machine.finalTest
  dsimp only
  split
  · split
    · exact h.modDebit.postCancel.bump
    · exact h.settled
  · exact h.settled

theorem beginSettle (h : QueuesWithin n s) : QueuesWithin n (beginSettle b s) := by
  unfold Machine.beginSettle
  split
  · exact h.finalTest
  · exact h.modDebit

theorem enterEnding {cause : EndCause} (h : QueuesWithin n s) : QueuesWithin n (enterEnding b cause s) := by
  unfold Machine.enterEnding
  split
  · exact h.modCtx.modDebit.beginSettle
  · exact h

theorem settleOn {final : Bool} (h : QueuesWithin n s) : QueuesWithin n (settleOn b final s) := by
  unfold Machine.settleOn
  split
  · exact h.settled
  · exact h.finalTest

theorem makeUncertain {a : Ask} {report : Bool} (h : QueuesWithin n s) :
    QueuesWithin n (makeUncertain b a report s) := by
  unfold Machine.makeUncertain
  dsimp only
  split_ifs
  · exact h.modDebit.bump.bump.reportFault
  · exact h.modDebit.bump.reportFault
  · exact h.modDebit.bump.bump
  · exact h.modDebit.bump

theorem dropOutstanding {report : Bool} (h : QueuesWithin n s) : QueuesWithin n (dropOutstanding b report s) := by
  unfold Machine.dropOutstanding
  split
  · exact h.makeUncertain
  · exact h

theorem cutShort (h : QueuesWithin n s) : QueuesWithin n (cutShort b s) := h.dropOutstanding.modDebit.complete

theorem endForHealth {cause : EndCause} (h : QueuesWithin n s) : QueuesWithin n (endForHealth b cause s) := by
  unfold Machine.endForHealth
  dsimp only
  split_ifs
  · exact h.endBeforeAnswer.modCtx
  · exact h.modCtx.modDebit.cutShort.modCtx
  · exact h.cutShort.modCtx
  · exact h.modCtx

theorem endForReset {cause : EndCause} (h : QueuesWithin n s) : QueuesWithin n (endForReset cause b s) := by
  unfold Machine.endForReset
  dsimp only
  split_ifs
  · exact h.modCtx.giveBackReservation.bump.modDebit.modCtx
  · exact h.modCtx.dropOutstanding.writeTicket.bump.modDebit.modCtx
  · exact h.modCtx.dropOutstanding.writeTicket.bump.modDebit.modCtx
  · exact h.modDebit.modCtx

end

end QueuesWithin

end Sys2Proof.Machine
end

section
/-!
# The queues through the events of a call (R2 to R20, R71 to R91, R101 to R117)
-/

namespace Sys2Proof.Machine.QueuesWithin

section
variable {n : Nat} {s : State} {b : Booth}

/-! ## The Debit Unit (R71 to R76, R104 to R117) -/

theorem enterSwap {cause : EndCause} (h : QueuesWithin n s) : QueuesWithin n (enterSwap b cause s) := by
  unfold Machine.enterSwap
  split
  · exact h.modCtx.bump
  · exact h

theorem exhaust (h : QueuesWithin n s) : QueuesWithin n (exhaust b s) := h.postSignal.releaseCard.enterSwap.bump

theorem unitsDue (h : QueuesWithin n s) : QueuesWithin n (unitsDue b s) := by
  unfold Machine.unitsDue
  dsimp only
  split
  · split
    · split_ifs
      · exact h.postCancel
      · exact h.exhaust
      · exact h
    · exact h
  · exact h

theorem lowCreditTest {i : Nat} (h : QueuesWithin n s) : QueuesWithin n (lowCreditTest b i s) := by
  unfold Machine.lowCreditTest
  split
  · split
    · exact h.postSignal.modDebit
    · exact h
  · exact h

theorem countSignals {i : Nat} (h : QueuesWithin n s) : QueuesWithin n (countSignals b i s) := by
  unfold Machine.countSignals
  split
  · split
    · exact h.postSignal.lowCreditTest
    · exact h
  · exact h

theorem setSlotCount {i count : Nat} (h : QueuesWithin n s) : QueuesWithin n (setSlotCount b i count s) := by
  unfold Machine.setSlotCount
  split
  · split
    · exact h.setSlot
    · exact h
  · exact h

theorem dropRecord {i k : Nat} (h : QueuesWithin n s) : QueuesWithin n (dropRecord b i k s) := by
  unfold Machine.dropRecord
  split
  · dsimp only
    split_ifs
    · exact h
    · exact h.modDebit
    · exact h.modDebit.bump
  · exact h

theorem confirm {i k count : Nat} (h : QueuesWithin n s) : QueuesWithin n (confirm b i k count s) :=
  h.modDebit.setSlotCount.bump.bumpBy.dropRecord

theorem goOn {final : Bool} (h : QueuesWithin n s) : QueuesWithin n (goOn b final s) := by
  unfold Machine.goOn
  split
  · exact h.unitsDue
  · exact h.settleOn
  · exact h

theorem clearOutstanding (h : QueuesWithin n s) : QueuesWithin n (clearOutstanding b s) := h.modDebit

theorem countFault {i : Nat} (h : QueuesWithin n s) : QueuesWithin n (countFault b i s) := by
  unfold Machine.countFault
  dsimp only
  split_ifs
  · exact h.modDebit.bump.reportFault.enterEnding
  · exact h.modDebit.bump.reportFault.settleOn
  · exact h.modDebit.bump.reportFault

theorem countReply {a : Ask} {count : Nat} (h : QueuesWithin n s) : QueuesWithin n (countReply b a count s) := by
  unfold Machine.countReply
  split
  · dsimp only
    split
    · exact h.clearOutstanding.confirm.goOn
    · exact h.clearOutstanding.confirm.countSignals.goOn
  · exact h.countFault

theorem writeErrorReply {a : Ask} {count : Nat} (h : QueuesWithin n s) :
    QueuesWithin n (writeErrorReply b a count s) := by
  unfold Machine.writeErrorReply
  split
  next k _ =>
    have confirmed : QueuesWithin n (Machine.confirm b a.entry k count (Machine.clearOutstanding b s)) :=
      h.clearOutstanding.confirm
    have released : QueuesWithin n
        (if (Machine.confirm b a.entry k count (Machine.clearOutstanding b s)).slotHolds b a.entry then
          Machine.releaseCard b .writeError (Machine.confirm b a.entry k count (Machine.clearOutstanding b s))
        else Machine.confirm b a.entry k count (Machine.clearOutstanding b s)) := by
      split
      · exact confirmed.releaseCard
      · exact confirmed
    dsimp only
    split
    · exact released.bump.enterSwap
    · exact released.bump.settleOn
    · exact released.bump
  next => exact h.countFault

theorem markCardLeft (h : QueuesWithin n s) : QueuesWithin n (markCardLeft b s) := h.modDebit

theorem cardGone {final : Bool} (h : QueuesWithin n s) : QueuesWithin n (cardGone b final s) := by
  unfold Machine.cardGone
  split
  · exact h.enterSwap
  · exact h.markCardLeft.settleOn
  · exact h

theorem noCardReply {a : Ask} (h : QueuesWithin n s) : QueuesWithin n (noCardReply b a s) :=
  h.clearOutstanding.bump.cardGone

theorem missedCancel {a : Ask} (h : QueuesWithin n s) : QueuesWithin n (missedCancel b a s) :=
  h.modDebit.postDebit.bump

theorem uncertainReply {a : Ask} (h : QueuesWithin n s) : QueuesWithin n (uncertainReply b a s) :=
  h.makeUncertain.cardGone

theorem debitOutcome {reply : Option BoothReply} (h : QueuesWithin n s) :
    QueuesWithin n (debitOutcome b reply s) := by
  unfold Machine.debitOutcome
  split
  · exact h.bump
  · split
    · exact h.countReply
    · exact h.writeErrorReply
    · exact h.noCardReply
    · exact h.noCardReply
    · exact h.missedCancel
  · split
    · split
      · dsimp only
        split
        · exact h.bump.countReply
        · exact h.countReply
      · exact h.uncertainReply
    · exact h
    · exact h.uncertainReply
    · exact h

theorem compareCount {i count : Nat} (h : QueuesWithin n s) : QueuesWithin n (compareCount b i count s) := by
  unfold Machine.compareCount
  split
  · split_ifs
    · exact h.modDebit.bump.countSignals
    · exact h.countFault
    · exact h
  · exact h

theorem lateResolution {u : Uncertain} {count : Nat} (h : QueuesWithin n s) :
    QueuesWithin n (lateResolution b u count s) := by
  unfold Machine.lateResolution
  dsimp only
  split
  · split
    · split
      · exact h.modDebit.bump.confirm
      · exact h.modDebit.bump.confirm.countSignals
    · exact h.modDebit.countFault
  · exact h.modDebit.bump.compareCount

theorem takeCount {i count : Nat} (h : QueuesWithin n s) : QueuesWithin n (takeCount b i count s) := by
  unfold Machine.takeCount
  dsimp only
  split
  · exact h
  · split
    · split
      · exact h.lateResolution
      · exact h.compareCount
    · exact h.compareCount

theorem countAtStatus {identity : BitVec 16 × BitVec 32} {count : Nat} (h : QueuesWithin n s) :
    QueuesWithin n (countAtStatus b identity count s) := by
  unfold Machine.countAtStatus
  split
  · exact h
  · split
    · split_ifs
      · exact h.takeCount
      · exact h.modDebit
      · exact h
    · exact h

theorem joinList (h : QueuesWithin n s) : QueuesWithin n (joinList b s) := by
  unfold Machine.joinList
  split
  · exact h.modDebit.lowCreditTest
  · exact h

theorem returnToSpeech (h : QueuesWithin n s) : QueuesWithin n (returnToSpeech b s) := h.modCtx.bump.unitsDue

theorem swapOffer (h : QueuesWithin n s) : QueuesWithin n (swapOffer b s) := by
  unfold Machine.swapOffer
  split
  · split
    · dsimp only
      split
      · exact h.takeCount.returnToSpeech
      · exact h.takeCount
    · split
      · exact h.releaseCard.bump
      · exact h.joinList.returnToSpeech
  · exact h

theorem startDebit (h : QueuesWithin n s) : QueuesWithin n (startDebit b s) := h.modDebit.evaluateBand.bump.unitsDue

theorem chargeTotal (h : QueuesWithin n s) : QueuesWithin n (chargeTotal b s) := by
  unfold Machine.chargeTotal
  dsimp only
  split
  · exact h.modDebit.bump
  · exact h.modDebit

theorem chargeBalance (h : QueuesWithin n s) : QueuesWithin n (chargeBalance b s) := by
  unfold Machine.chargeBalance
  dsimp only
  split
  · exact h.modDebit.bump.reportFault
  · exact h.modDebit

theorem timeLimitCheck (h : QueuesWithin n s) : QueuesWithin n (timeLimitCheck b s) := by
  unfold Machine.timeLimitCheck
  dsimp only
  split
  · exact h.enterEnding
  · exact h

theorem takeTick (h : QueuesWithin n s) : QueuesWithin n (takeTick b s) :=
  h.modDebit.bump.chargeTotal.chargeBalance.unitsDue.timeLimitCheck

/-! ## The Call Engine (R2 to R14, R31 to R37) -/

theorem walkFault {kind : FaultKind} {str : List Digit} (h : QueuesWithin n s) :
    QueuesWithin n (walkFault b kind str s) := by
  unfold Machine.walkFault
  dsimp only
  split
  · exact h.reportFault.bump
  · exact h.reportFault.bump

theorem walkHit {str : List Digit} {e : CacheEntry} (h : QueuesWithin n s) : QueuesWithin n (walkHit b str e s).2 := by
  unfold Machine.walkHit
  dsimp only
  split
  · exact h.bump.setCache.bump
  · dsimp only
    exact h.bump.setCache.walkFault

theorem walkMiss {str : List Digit} {d : Digit} {tag : Fin 64} (h : QueuesWithin n s) :
    QueuesWithin n (walkMiss b str d tag s).2 := by
  unfold Machine.walkMiss
  dsimp only
  split
  · exact h.bump.bump
  · exact h.bump.bump
  · split
    · exact h.bump
    · dsimp only
      exact h.bump.walkFault
  · split
    · exact h.bump.bump.bump.setCache
    · dsimp only
      exact h.bump.walkFault

theorem walkStep {d : Digit} (h : QueuesWithin n s) : QueuesWithin n (walkStep b d s).2 := by
  unfold Machine.walkStep
  dsimp only
  split
  · exact h.bump.walkHit
  · exact h.bump.walkMiss

theorem enterRouted (h : QueuesWithin n s) : QueuesWithin n (enterRouted b s) := h.joinList.modCtx

theorem creditCheckWaiting (h : QueuesWithin n s) : QueuesWithin n (creditCheckWaiting b s) := by
  unfold Machine.creditCheckWaiting
  split
  · exact h.enterRouted.releaseHeld
  · exact h.endBeforeAnswer

/-- Admission queues its SEIZE, and LINK BUSY refuses it where the queue has no room (R3). -/
theorem admitCall (h : QueuesWithin n s) (room : s.sigRoom = true) : QueuesWithin n (admitCall b s) :=
  (h.modCtx.modDebit.modRing.queueSig room).bump

theorem refuseAdmission {cause : RefusalCause} (h : QueuesWithin n s) : QueuesWithin n (refuseAdmission b cause s) := by
  unfold Machine.refuseAdmission
  dsimp only
  split
  · exact h.postSignal.bump.notePending
  · exact h.postSignal.bump

theorem sigRoom_of_admitted (h : s.admissionRefusal b = none) : s.sigRoom = true := by
  unfold State.admissionRefusal at h
  split_ifs at h with _ _ _ _ _ busy
  exact Bool.not_eq_false _ ▸ busy

theorem hookOffEvent (h : QueuesWithin n s) : QueuesWithin n (hookOffEvent b s) := by
  unfold Machine.hookOffEvent
  dsimp only
  split
  · split
    next => exact h.modCtx.refuseAdmission
    next admitted => exact h.modCtx.admitCall (sigRoom_of_admitted admitted)
  · exact h.modCtx

theorem hookOnEvent (h : QueuesWithin n s) : QueuesWithin n (hookOnEvent b s) := by
  unfold Machine.hookOnEvent
  dsimp only
  split
  · exact h.modCtx.endBeforeAnswer
  · exact h.modCtx.enterEnding

theorem storeLeaf {snap : Snapshot} {common : Bool} (h : QueuesWithin n s) :
    QueuesWithin n (storeLeaf b snap common s) := h.modCtx

theorem storeDigit {d : Digit} (h : QueuesWithin n s) : QueuesWithin n (storeDigit b d s) := h.modCtx

theorem enterCardWait {d : Digit} (h : QueuesWithin n s) : QueuesWithin n (enterCardWait b d s) :=
  h.storeDigit.modCtx.leaveWaiting.postSignal

theorem takeWalk {d : Digit} {o : WalkOutcome} (h : QueuesWithin n s) : QueuesWithin n (takeWalk b d o s) := by
  cases o with
  | branch next => exact h.modCtx.storeDigit.forward
  | leaf snap common =>
    unfold Machine.takeWalk
    dsimp only
    split_ifs
    · exact h.storeLeaf.modCtx.storeDigit.forward
    · exact h.storeLeaf.enterRouted.storeDigit.forward
    · exact h.storeLeaf.endBeforeAnswer
    · exact h.storeLeaf.enterCardWait
  | empty => exact h.endBeforeAnswer
  | bar => exact h.endBeforeAnswer
  | fault => exact h.endBeforeAnswer

theorem digitDialling {d : Digit} (h : QueuesWithin n s) : QueuesWithin n (digitDialling b d s) := by
  unfold Machine.digitDialling
  dsimp only
  split
  · exact h.endBeforeAnswer
  · exact h.walkStep.takeWalk

theorem digitCardWait {d : Digit} (h : QueuesWithin n s) : QueuesWithin n (digitCardWait b d s) := by
  unfold Machine.digitCardWait
  split
  · exact h.storeDigit.modCtx
  · exact h.bump

theorem digitAfterLeaf {d : Digit} (h : QueuesWithin n s) : QueuesWithin n (digitAfterLeaf b d s) := by
  unfold Machine.digitAfterLeaf
  dsimp only
  split
  · exact h.modCtx.forward
  · exact h.storeDigit.forward

theorem digitEvent {d : Digit} (h : QueuesWithin n s) : QueuesWithin n (digitEvent b d s) := by
  unfold Machine.digitEvent
  split
  · exact h.digitDialling
  · exact h.digitCardWait
  · exact h.digitAfterLeaf
  · exact h.digitAfterLeaf
  · exact h.digitAfterLeaf
  · exact h.bump
  · exact h.bump

theorem answerEvent (h : QueuesWithin n s) : QueuesWithin n (answerEvent b s) := by
  unfold Machine.answerEvent
  split
  · exact h.modCtx.bump.startDebit
  · exact h.bump.endBeforeAnswer
  · exact h.bump.endBeforeAnswer
  · exact h.oweHangup
  · exact h

theorem clearEvent (h : QueuesWithin n s) : QueuesWithin n (clearEvent b s) := by
  unfold Machine.clearEvent
  split_ifs
  · exact h.endBeforeAnswer
  · exact h.modCtx.enterEnding
  · exact h

theorem forceClearEvent (h : QueuesWithin n s) : QueuesWithin n (forceClearEvent b s) := by
  unfold Machine.forceClearEvent
  split
  · exact h.endBeforeAnswer
  · exact h.enterEnding

/-! ## The Card Unit (R82 to R91) -/

theorem slotBecameValid (h : QueuesWithin n s) : QueuesWithin n (slotBecameValid b s) := by
  unfold Machine.slotBecameValid
  split
  · exact h
  · split
    · exact h.creditCheckWaiting
    · exact h.swapOffer
    · split
      · split
        · exact h.takeCount
        · exact h
      · exact h
    · exact h

theorem slotLeftValid {wasCurrent : Bool} (h : QueuesWithin n s) : QueuesWithin n (slotLeftValid b wasCurrent s) := by
  unfold Machine.slotLeftValid
  split
  · exact h
  · split
    · exact h.endBeforeAnswer
    · split
      · exact h.enterSwap
      · exact h
    · split
      · exact h.markCardLeft
      · exact h
    · exact h

theorem emptySlotReported (h : QueuesWithin n s) : QueuesWithin n (emptySlotReported b s) := by
  unfold Machine.emptySlotReported
  split
  · exact h
  · exact h.setSlot.slotLeftValid
  · exact h.setSlot.withdrawCardAction

theorem countProbe {r : CardRecord} (h : QueuesWithin n s) : QueuesWithin n (countProbe r s) := by
  unfold Machine.countProbe
  split
  · exact h
  · split
    · exact h.bump
    · exact h.bump

theorem acceptCard {r : CardRecord} {unitValue warn : Nat} (h : QueuesWithin n s) :
    QueuesWithin n (acceptCard b r unitValue warn s) := h.setSlot.postSignal.slotBecameValid.bump

theorem refuseCard {r : CardRecord} {reason : CardReason} {action : StopAction} (h : QueuesWithin n s) :
    QueuesWithin n (refuseCard b r reason action s) := by
  unfold Machine.refuseCard
  dsimp only
  split
  · exact h.setSlot.postSignal.postCardAction.bump.notePending
  · exact h.setSlot.postSignal.postCardAction.bump

theorem refuseOutOfOrder {r : CardRecord} (h : QueuesWithin n s) : QueuesWithin n (refuseOutOfOrder b r s) :=
  h.setSlot.postSignal.postCardAction.bump

theorem judgeCard {r : CardRecord} (h : QueuesWithin n s) : QueuesWithin n (judgeCard b r s) := by
  unfold Machine.judgeCard
  split
  · exact h.refuseOutOfOrder
  · split
    · exact h.countProbe.acceptCard
    · exact h.countProbe.refuseCard

theorem replaceCard {r : CardRecord} (h : QueuesWithin n s) : QueuesWithin n (replaceCard b r s) :=
  h.bump.emptySlotReported.judgeCard

theorem cardInEvent {marker : Bool} {r : CardRecord} (h : QueuesWithin n s) :
    QueuesWithin n (cardInEvent b marker r s) := by
  unfold Machine.cardInEvent
  dsimp only
  split
  · exact h.bump.judgeCard
  · split_ifs
    · exact h.bump
    · exact h.bump.setSlot.countAtStatus
    · exact h.bump.replaceCard
  · exact h.bump.replaceCard

theorem cardOutEvent (h : QueuesWithin n s) : QueuesWithin n (cardOutEvent b s) := by
  unfold Machine.cardOutEvent
  split
  · exact h
  · exact h.bump.emptySlotReported

theorem enterReader (h : QueuesWithin n s) : QueuesWithin n (enterReader b s) :=
  h.modBoothLine.endForHealth.clearPending.postSignal.notePending.setSlot

theorem readerFaultEvent (h : QueuesWithin n s) : QueuesWithin n (readerFaultEvent b s) := by
  unfold Machine.readerFaultEvent
  dsimp only
  split
  · exact h.reportFault
  · exact h.reportFault.enterReader

theorem enterLost (h : QueuesWithin n s) : QueuesWithin n (enterLost b s) :=
  h.modBoothLine.reportFault.notePending.clearPending.endForHealth.setSlot

theorem emptyRefused (h : QueuesWithin n s) : QueuesWithin n (emptyRefused b s) := by
  unfold Machine.emptyRefused
  split
  · exact h.setSlot
  · exact h

theorem ejectOutcome {reply : BoothReply} (h : QueuesWithin n s) : QueuesWithin n (ejectOutcome b reply s) := by
  unfold Machine.ejectOutcome
  split
  · exact h.bump
  · exact h.emptyRefused
  · exact h

theorem retainOutcome {reply : BoothReply} (h : QueuesWithin n s) : QueuesWithin n (retainOutcome b reply s) := by
  unfold Machine.retainOutcome
  split
  · split
    · exact h.setSlot.bump
    · exact h
  · exact h.bump
  · exact h

theorem boothEvent {marker : Bool} {e : BoothEvent} (h : QueuesWithin n s) :
    QueuesWithin n (boothEvent b marker e s) := by
  unfold Machine.boothEvent
  split
  · split
    · exact h.modCtx
    · exact h.hookOffEvent
  · split
    · exact h.modCtx
    · exact h.hookOnEvent
  · exact h.digitEvent
  · exact h.cardInEvent
  · exact h.cardOutEvent
  · exact h.readerFaultEvent

theorem boothEvents {marker : Bool} {evs : List BoothEvent} (h : QueuesWithin n s) :
    QueuesWithin n (boothEvents b marker evs s) := h.foldl (fun _ _ ht => ht.boothEvent) _

end

end Sys2Proof.Machine.QueuesWithin
end

section
/-!
# The queues through the rows (R125 to R154, R160 to R187)
-/

namespace Sys2Proof.Machine.QueuesWithin

section
variable {n : Nat} {s t : State} {b : Booth} {g : Segment}

/-! ## The Line Controllers (R125 to R138) -/

theorem sendGrant {k : WorkClass} (h : QueuesWithin n s) : QueuesWithin n (sendGrant g k b s) := by
  have granted : ∀ l : BoothLine, l.signals.length ≤ 4 → (l.granted k).signals.length ≤ 4 := by
    intro l hl
    cases k with
    | debit => exact hl
    | command =>
      unfold BoothLine.granted
      dsimp only
      split
      · exact hl
      · exact ((List.tail_sublist _).length_le).trans hl
    | poll => exact hl
  exact (h.modSeg.modBoothLine granted).bump

theorem arbiterTurn (h : QueuesWithin n s) : QueuesWithin n (arbiterTurn g s) := by
  unfold Machine.arbiterTurn
  split
  · split
    · exact h.sendGrant
    · exact h
  · exact h

theorem handMiss {tr : Transaction} (h : QueuesWithin n s) : QueuesWithin n (handMiss tr s) := by
  unfold Machine.handMiss
  split
  · exact h.modBoothLine.debitOutcome
  · exact h.debitOutcome
  · exact h.postTo fun _ hl => length_returnSignal _ hl
  · exact h

/-- The third miss of a READER or TAKEN booth clears its work (R132). -/
theorem missHealth (h : QueuesWithin n s) : QueuesWithin n (missHealth b s) := by
  have third : ∀ (k : Nat) (l : BoothLine), l.signals.length ≤ 4 →
      (if k = 3 then { l.cleared with misses := 0 } else { l with misses := k }).signals.length ≤ 4 := by
    intro k l hl
    split
    · exact Nat.zero_le _
    · exact hl
  unfold Machine.missHealth
  dsimp only
  split
  · exact h.modBoothLine
  · split
    · exact h.modBoothLine.enterLost
    · exact h.modBoothLine
  · exact h.modBoothLine (third _)
  · exact h.modBoothLine (third _)
  · exact h

theorem missProbe (h : QueuesWithin n s) : QueuesWithin n (missProbe b s) := by
  unfold Machine.missProbe
  split
  · exact h.modBoothLine
  · exact h.missHealth

theorem closeMiss {tr : Transaction} (h : QueuesWithin n s) : QueuesWithin n (closeMiss g tr s) := by
  unfold Machine.closeMiss
  dsimp only
  split_ifs
  · exact h.modSeg.bump
  · exact h.modSeg.bump.missProbe
  · exact h.modSeg.bump.handMiss.missHealth

theorem garbledFrame (h : QueuesWithin n s) : QueuesWithin n (garbledFrame g s) := by
  unfold Machine.garbledFrame
  dsimp only
  split
  · exact h.bump.closeMiss
  · exact h.bump

theorem takeBatch {batch : Bool} {evs : List BoothEvent} (h : QueuesWithin n s) :
    QueuesWithin n (takeBatch b batch evs s) := by
  unfold Machine.takeBatch
  split
  · exact h.modBoothLine.boothEvents
  · exact h

theorem statusIntake {batch : Bool} {evs : List BoothEvent} (h : QueuesWithin n s) :
    QueuesWithin n (statusIntake b batch evs s) := by
  have heard := (h.modBoothLine (b := b)
    (f := fun l => if l.firstStatus then { l with expectBit := !batch, firstStatus := false } else l)
    fun _ hl => by split <;> exact hl).boothEvents (b := b) (marker := true) (evs := evs)
  unfold Machine.statusIntake
  dsimp only
  split
  · exact heard
  · exact heard.cardOutEvent

theorem probeReturn (h : QueuesWithin n s) : QueuesWithin n (probeReturn b s) := by
  unfold Machine.probeReturn
  split
  · exact h.modBoothLine.postSignal
  · exact h

theorem clearServed {tr : Transaction} (h : QueuesWithin n s) : QueuesWithin n (clearServed tr s) := by
  unfold Machine.clearServed
  cases tr.request with
  | poll bit => exact h
  | signal sig => exact h
  | _ => exact h.modBoothLine

theorem handGood {tr : Transaction} {reply : BoothReply} (h : QueuesWithin n s) :
    QueuesWithin n (handGood tr reply s) := by
  have served := h.clearServed (tr := tr)
  unfold Machine.handGood
  dsimp only
  generalize Machine.clearServed tr s = u at served ⊢
  cases reply
  case events more batch status evs =>
    cases tr.request with
    | poll bit =>
      dsimp only
      split
      · exact served.probeReturn
      · exact served.takeBatch
    | _ => exact served.statusIntake
  case' fail reason count => cases reason
  case fail.readerFault => exact served.readerFaultEvent
  all_goals
    cases tr.request with
    | cancel k serial => exact served.debitOutcome
    | verify serial => exact served.debitOutcome
    | eject => exact served.ejectOutcome
    | retain serial => exact served.retainOutcome
    | _ => exact served

theorem goodReply {tr : Transaction} {reply : BoothReply} (h : QueuesWithin n s) :
    QueuesWithin n (goodReply g tr reply s) := by
  unfold Machine.goodReply
  dsimp only
  split
  · exact h.modSeg
  · exact h.modSeg.modBoothLine.handGood

theorem receiveReply {drop tag : Byte} {reply : BoothReply} (h : QueuesWithin n s) :
    QueuesWithin n (receiveReply g drop tag reply s) := by
  unfold Machine.receiveReply
  split
  · split
    · exact h.bump
    · split_ifs
      · exact h.goodReply
      · exact h.garbledFrame
      · exact h.bump
  · exact h.garbledFrame

theorem windowExpiry (h : QueuesWithin n s) : QueuesWithin n (windowExpiry g s) := by
  unfold Machine.windowExpiry
  split
  · exact h.reach.closeMiss
  · exact h

theorem windowHoldExpiry (h : QueuesWithin n s) : QueuesWithin n (windowHoldExpiry g s) := by
  unfold Machine.windowHoldExpiry
  split
  · exact h.reach.modSeg
  · exact h

theorem probeExpiry (h : QueuesWithin n s) : QueuesWithin n (probeExpiry b s) := by
  unfold Machine.probeExpiry
  split
  · exact h.reach.modBoothLine
  · exact h

/-! ## Timers and clock (R8, R63, R72) -/

theorem digitWaitExpires (h : QueuesWithin n s) : QueuesWithin n (digitWaitExpires b s) := by
  unfold Machine.digitWaitExpires
  split
  · dsimp only
    split
    · exact h.reach.modCtx.endBeforeAnswer
    · exact h.reach.modCtx
  · exact h

theorem cardWaitExpires (h : QueuesWithin n s) : QueuesWithin n (cardWaitExpires b s) := by
  unfold Machine.cardWaitExpires
  split
  · dsimp only
    split
    · exact h.reach.modCtx.endBeforeAnswer
    · exact h.reach.modCtx
  · exact h

theorem swapWindowExpires (h : QueuesWithin n s) : QueuesWithin n (swapWindowExpires b s) := by
  unfold Machine.swapWindowExpires
  split
  · dsimp only
    split
    · exact h.reach.modCtx.enterEnding
    · exact h.reach.modCtx
  · exact h

theorem tickEvent (h : QueuesWithin n s) : QueuesWithin n (tickEvent b s) := by
  unfold Machine.tickEvent
  split
  · split
    · exact h.reach.takeTick
    · exact h
  · exact h

theorem clockAdvance (h : QueuesWithin n s) : QueuesWithin n (clockAdvance s) := by
  unfold Machine.clockAdvance
  dsimp only
  split_ifs
  · exact h.reach.clock.evaluateAll
  · exact h.reach.clock
  · exact h

theorem minuteTurn (h : QueuesWithin n s) : QueuesWithin n (minuteTurn s) := by
  unfold Machine.minuteTurn
  split
  · exact h.clockAdvance
  · exact h

/-! ## The Trunk Port (R141 to R152) -/

theorem validFrame (h : QueuesWithin n s) : QueuesWithin n (validFrame s) := h.modTrunk.bump

theorem discardFrame {reason : TrunkDiscard} (h : QueuesWithin n s) : QueuesWithin n (discardFrame reason s) := h.bump

theorem answerFrame {ch : Channel} (h : QueuesWithin n s) : QueuesWithin n (answerFrame ch s) := by
  unfold Machine.answerFrame
  dsimp only
  split
  · exact h.validFrame.bump.answerEvent
  · exact h.validFrame.bump.oweHangup

theorem clearFrame {ch : Channel} (h : QueuesWithin n s) : QueuesWithin n (clearFrame ch s) := by
  unfold Machine.clearFrame
  dsimp only
  split
  · exact h.validFrame.bump.clearEvent
  · exact h.validFrame.bump

theorem commandFrame {c : Cmd} (h : QueuesWithin n s) : QueuesWithin n (commandFrame c s) := by
  by_cases room : s.mgmt.cmdQueue.length < 8
  · rw [commandFrame_of_room room]
    obtain ⟨signalling, replies, -, signals⟩ := h.validFrame
    refine QueuesWithin.bump ⟨signalling, replies, ?_, signals⟩
    rw [List.length_append]
    exact room
  · rw [commandFrame_of_full (Nat.not_lt.mp room)]
    exact h.validFrame.bump

theorem dropLink (h : QueuesWithin n s) : QueuesWithin n (dropLink s) :=
  (h.bumpBy.bumpBy.bumpBy.bump.modTrunk (fun _ => Nat.zero_le _) fun _ => Nat.zero_le _).offerSlots

theorem endUnanswered (h : QueuesWithin n s) : QueuesWithin n (endUnanswered s) := by
  refine h.foldl (fun t x ht => ?_) _
  split
  · exact ht.endBeforeAnswer
  · exact ht

theorem silenceExpiry (h : QueuesWithin n s) : QueuesWithin n (silenceExpiry s) := by
  unfold Machine.silenceExpiry
  split
  · exact h.reach.dropLink.endUnanswered
  · exact h

theorem syncExpiry (h : QueuesWithin n s) : QueuesWithin n (syncExpiry s) := h.reach.modTrunk

theorem transmit {f : OutFrame} (h : QueuesWithin n s) : QueuesWithin n (transmit f s) := h.modTrunk

theorem sendSig {f : SigFrame} (h : QueuesWithin n s) : QueuesWithin n (sendSig f s) :=
  (h.modTrunk fun _ => (List.tail_sublist _).length_le).transmit.bump.offerSlots

theorem sendReply {r : Reply} (h : QueuesWithin n s) : QueuesWithin n (sendReply r s) :=
  (h.modTrunk (hr := fun _ => (List.tail_sublist _).length_le)).transmit.bump

theorem sendNotice (h : QueuesWithin n s) : QueuesWithin n (sendNotice s) := by
  unfold Machine.sendNotice
  dsimp only
  split
  · exact h.modNotices
  · exact h.modNotices.transmit.bump

theorem chooseFrame (h : QueuesWithin n s) : QueuesWithin n (chooseFrame s) := by
  unfold Machine.chooseFrame
  split
  · exact h.modTrunk.transmit.bump
  · split
    · split
      · exact h.modTrunk.transmit.bump
      · split
        · exact h.sendSig
        · split
          · exact h.sendReply
          · split
            · exact h.sendNotice
            · exact h
    · exact h

theorem transmitStart (h : QueuesWithin n s) : QueuesWithin n (transmitStart s) := by
  unfold Machine.transmitStart
  split
  · exact h.chooseFrame
  · exact h

theorem transmitComplete (h : QueuesWithin n s) : QueuesWithin n (transmitComplete s) := by
  unfold Machine.transmitComplete
  split
  · exact h.modTrunk.chooseFrame
  · exact h

theorem noticeHoldExpiry (h : QueuesWithin n s) : QueuesWithin n (noticeHoldExpiry s) := by
  unfold Machine.noticeHoldExpiry
  split
  · exact h.reach.modNotices
  · exact h

/-! ## Resets (R154, R170, R171) -/

theorem forBooths {p : Booth → Bool} {f : Booth → State → State}
    (hf : ∀ x t, QueuesWithin n t → QueuesWithin n (f x t)) (h : QueuesWithin n s) :
    QueuesWithin n (forBooths p f s) := forBooths_closed hf h

theorem oweAll {chs : List Channel} (h : QueuesWithin n s) : QueuesWithin n (oweAll chs s) :=
  h.foldl (fun _ _ ht => ht.oweHangup) _

theorem resetBooths {p : Booth → Bool} (h : QueuesWithin n s) : QueuesWithin n (resetBooths p s) :=
  h.forBooths fun _ _ ht => ht.setSlot.modBoothLine fun _ _ => Nat.zero_le _

theorem restartPart (h : QueuesWithin n s) : QueuesWithin n (restartPart s) := by
  have managed : QueuesWithin n (restartManagement s) := h.modMgmt
  have ended : QueuesWithin n (Machine.forBooths (fun _ => true) (Machine.endForReset .restart) (restartManagement s)) :=
    managed.forBooths fun _ _ ht => ht.endForReset
  exact (ended.setCache.resetBooths.modSeg.modSeg.modTrunk (fun _ => Nat.zero_le _) fun _ => Nat.zero_le _).oweAll.signalBooths

theorem withdrawSegment (h : QueuesWithin n s) : QueuesWithin n (withdrawSegment g s) :=
  (h.modTrunk fun _ => List.length_filter_le ..).offerSlots

theorem segmentResetPart (h : QueuesWithin n s) : QueuesWithin n (segmentResetPart g s) :=
  ((h.forBooths fun _ _ ht => ht.endForReset).checkDrain.resetBooths.modSeg.withdrawSegment.oweAll).forBooths
    fun _ _ ht => ht.postSignal

/-! ## A command, its owner and its REPLY (R151, R165, R166) -/

/-- A REPLY takes one place of the reply queue. -/
theorem offerReply {r : Reply} (h : QueuesWithin n s) : QueuesWithin (n + 1) (offerReply r s) := by
  unfold Machine.offerReply
  split
  · refine ⟨h.signalling, ?_, h.commands, h.signals⟩
    exact (List.length_append ..).trans_le (Nat.add_le_add_right h.replies 1)
  · exact (h.mono (Nat.le_succ n)).bump

theorem answerCommand {c : Cmd} {r : Carried} (h : QueuesWithin n r.state) :
    QueuesWithin (n + 1) (answerCommand c r) := by
  unfold Machine.answerCommand
  dsimp only
  split
  · exact h.bump.offerReply
  · exact h.bump.offerReply

/-- The owner of a command leaves every queue as long as it was allowed to be. -/
def KeptBy (owner : State → Carried) : Prop := ∀ n s, QueuesWithin n s → QueuesWithin n (owner s).state

theorem KeptBy.inRange {α : Type} {x : Option α} {f : α → State → Carried} (hf : ∀ a, KeptBy (f a)) :
    KeptBy (inRange x f) := by
  intro n s h
  unfold Machine.inRange
  split
  · exact hf _ n s h
  · exact h

theorem KeptBy.onEnabled {args : List Byte} {f : Booth → State → Carried} (hf : ∀ x, KeptBy (f x)) :
    KeptBy (onEnabled args f) := by
  refine KeptBy.inRange fun x n s h => ?_
  split
  · exact hf x n s h
  · exact h

theorem KeptBy.checked {gr : Group} {o : Byte} {good : Bool} {owner : State → Carried} (ho : KeptBy owner) :
    KeptBy (checked gr o good owner) := by
  intro n s h
  unfold Machine.checked
  split_ifs
  · exact h.bump
  · exact h.bump
  · exact ho n s h

/-- A take makes sure of room for the REPLY before the owner acts. -/
theorem takeFront {c : Cmd} {carry : State → Carried} (hc : KeptBy carry) (h : QueuesWithin 16 s) :
    QueuesWithin 16 (takeFront c carry s) := by
  have popped : QueuesWithin 16 (Machine.modMgmt (fun m => { m with cmdQueue := m.cmdQueue.tail }) s) :=
    h.modMgmt fun _ => (List.tail_sublist _).length_le
  unfold Machine.takeFront
  dsimp only
  split
  · split
    next => exact popped.bump
    next room =>
      refine QueuesWithin.answerCommand (n := 15) (hc 15 _ ?_)
      exact ⟨popped.signalling, Nat.le_of_lt_succ (Nat.not_le.mp room), popped.commands, popped.signals⟩
  · exact h

theorem takeCommand {gr : Group} {c : Cmd} {good : Bool} {owner : State → Carried} (ho : KeptBy owner)
    (h : QueuesWithin 16 s) : QueuesWithin 16 (takeCommand gr c good owner s) := h.takeFront ho.checked

theorem controlRow {w : Option BoothAction} {c : Cmd} {owner : State → Carried} (ho : KeptBy owner)
    (h : QueuesWithin 16 s) : QueuesWithin 16 (controlRow w c owner s) := by
  unfold Machine.controlRow
  split
  · exact h.takeCommand ho
  · exact h

end

end Sys2Proof.Machine.QueuesWithin
end

section
/-!
# Every step keeps the capacities (R136, R145, R146, R151)
-/

namespace Sys2Proof.Machine.QueuesWithin

section
variable {n : Nat} {s t : State}

/-- The queues stand in the Trunk Port, the command queue and the booths' lines. -/
theorem of_parts (h : QueuesWithin n s) (trunk : t.trunk = s.trunk) (queue : t.mgmt.cmdQueue = s.mgmt.cmdQueue)
    (booths : t.line.booths = s.line.booths) : QueuesWithin n t where
  signalling := trunk ▸ h.signalling
  replies := trunk ▸ h.replies
  commands := queue ▸ h.commands
  signals b := by
    unfold State.boothLine
    exact booths ▸ h.signals b

theorem reset : QueuesWithin 16 State.reset := queuesBounded_iff.mp queuesBounded_reset

/-! ## The owners -/

theorem carriedOut {d : ReplyData} (h : QueuesWithin n s) : QueuesWithin n (carriedOut d s).state := h

/-- A write that reaches no queue. -/
theorem KeptBy.write {α : Type} {x : Option α} {f : α → State → Carried}
    (hf : ∀ a u, (f a u).state.trunk = u.trunk ∧ (f a u).state.mgmt.cmdQueue = u.mgmt.cmdQueue
      ∧ (f a u).state.line.booths = u.line.booths) : KeptBy (Machine.inRange x f) := by
  refine KeptBy.inRange fun a n s h => ?_
  obtain ⟨trunk, queue, booths⟩ := hf a s
  exact h.of_parts trunk queue booths

/-- An owner that reads and changes nothing. -/
theorem KeptBy.read {α : Type} {x : Option α} (f : α → State → ReplyData) :
    KeptBy (Machine.inRange x fun a s => Machine.carriedOut (f a s) s) := .inRange fun _ _ _ h => h

theorem disableBooth {b : Booth} {g : Segment} (h : QueuesWithin n s) : QueuesWithin n (disableBooth b g s) :=
  (h.modSeg.modBoothLine fun _ _ => Nat.zero_le _).setSlot

theorem enableBooth {b : Booth} (h : QueuesWithin n s) : QueuesWithin n (enableBooth b s) := h.modBoothLine

theorem mapEffect {b : Booth} {old new : MapEntry} (h : QueuesWithin n s) : QueuesWithin n (mapEffect b old new s) := by
  unfold Machine.mapEffect
  split
  · exact h
  · exact h.disableBooth
  · exact h.enableBooth
  · split
    · exact h
    · exact h.disableBooth.enableBooth

theorem keptBy_boothMapOwner (args : List Byte) : KeptBy (boothMapOwner args) := by
  refine KeptBy.inRange fun x n s h => ?_
  dsimp only
  split
  · exact h
  next =>
    have written : QueuesWithin n (setEntry x.1 x.2 s) := h.of_parts rfl rfl rfl
    exact written.mapEffect.bump

theorem keptBy_segmentSetupOwner (args : List Byte) : KeptBy (segmentSetupOwner args) :=
  .write fun _ _ => ⟨modSeg_trunk _ _ _, congrArg Mgmt.cmdQueue (modSeg_mgmt _ _ _), modSeg_line_booths _ _ _⟩

theorem keptBy_seriesWriteOwner (args : List Byte) : KeptBy (seriesWriteOwner args) :=
  .write fun _ _ => by
    dsimp only
    split <;> exact ⟨rfl, rfl, rfl⟩

theorem keptBy_stopAddOwner (args : List Byte) : KeptBy (stopAddOwner args) :=
  .write fun _ _ => by
    dsimp only
    split_ifs <;> exact ⟨rfl, rfl, rfl⟩

theorem keptBy_stopRemoveOwner (args : List Byte) : KeptBy (stopRemoveOwner args) :=
  .write fun _ _ => by
    dsimp only
    split <;> exact ⟨rfl, rfl, rfl⟩

theorem keptBy_counterReadOwner (args : List Byte) : KeptBy (counterReadOwner args) :=
  .write fun _ _ => by
    dsimp only [Machine.carriedOut]
    split <;> exact ⟨rfl, rfl, rfl⟩

theorem keptBy_ticketReleaseOwner (args : List Byte) : KeptBy (ticketReleaseOwner args) := by
  refine KeptBy.inRange fun k n s h => ?_
  dsimp only [Machine.carriedOut]
  split
  · exact h.modRing.bump.bumpBy.bump
  · exact h.modRing.bump.bumpBy

theorem keptBy_takeOutBooth (b : Booth) : KeptBy (takeOutBooth b) := by
  intro n s h
  unfold takeOutBooth
  dsimp only
  split_ifs
  · exact h
  · exact h.enterTaken
  · exact h.modBoothLine.carriedOut

theorem keptBy_bringBack (b : Booth) : KeptBy (bringBack b) := by
  intro n s h
  unfold bringBack
  dsimp only
  split_ifs
  · exact h.modBoothLine.carriedOut
  · exact h.modBoothLine.postSignal.carriedOut
  · exact h

theorem keptBy_forceClearBooth (b : Booth) : KeptBy (forceClearBooth b) := by
  intro n s h
  unfold forceClearBooth
  split
  · exact h
  · exact h.forceClearEvent

theorem keptBy_segmentResetOwner (args : List Byte) : KeptBy (segmentResetOwner args) := by
  refine KeptBy.inRange fun g n s h => ?_
  split
  · exact h
  · exact h.segmentResetPart

theorem keptBy_restartOwner : KeptBy restartOwner := by
  intro n s h
  unfold restartOwner
  split
  · exact h
  · exact h.restartPart

theorem keptBy_serviceStartOwner : KeptBy serviceStartOwner := by
  intro n s h
  unfold serviceStartOwner setService
  split
  · exact h
  · exact h.modMgmt.carriedOut
  · split
    · exact h.modMgmt.signalBooths.carriedOut
    · exact h

theorem keptBy_serviceStopOwner : KeptBy serviceStopOwner := by
  intro n s h
  unfold serviceStopOwner setService
  split
  · exact h.modMgmt.checkDrain.carriedOut
  · exact h

theorem setClock {c : Clock} (h : QueuesWithin n s) : QueuesWithin n (setClock c s) := h.clock

theorem keptBy_clockSetOwner (args : List Byte) : KeptBy (clockSetOwner args) :=
  .inRange fun _ _ _ h => h.setClock.bump.evaluateAll.carriedOut

/-! ## The rows -/

theorem next {u : State} (hu : QueuesWithin 16 u) (he : (.next u : Host.Outcome State Fault Refusal) = .next t) :
    QueuesWithin 16 t := by
  injection he with he
  exact he ▸ hu

theorem next_takeCommand (h : QueuesWithin 16 s) {g : Group} {c : Cmd} {good : Bool} {owner : State → Carried}
    (ho : KeptBy owner) (he : (.next (Machine.takeCommand g c good owner s) : Host.Outcome State Fault Refusal) = .next t) :
    QueuesWithin 16 t := (h.takeCommand ho).next he

theorem next_controlRow (h : QueuesWithin 16 s) {w : Option BoothAction} {c : Cmd} {owner : State → Carried}
    (ho : KeptBy owner) (he : (.next (Machine.controlRow w c owner s) : Host.Outcome State Fault Refusal) = .next t) :
    QueuesWithin 16 t := (h.controlRow ho).next he

theorem execAnswer {ch : Byte} (h : QueuesWithin 16 s) (he : execAnswer ch s = .next t) : QueuesWithin 16 t := by
  unfold Machine.execAnswer at he
  split at he
  · exact h.answerFrame.next he
  · exact h.discardFrame.next he

theorem execClear {ch : Byte} (h : QueuesWithin 16 s) (he : execClear ch s = .next t) : QueuesWithin 16 t := by
  unfold Machine.execClear at he
  split at he
  · exact h.clearFrame.next he
  · exact h.discardFrame.next he

theorem execCommand {o g code : Byte} {args : List Byte} (h : QueuesWithin 16 s)
    (he : execCommand o g code args s = .next t) : QueuesWithin 16 t := by
  unfold Machine.execCommand at he
  split at he
  · exact h.commandFrame.next he
  · exact h.discardFrame.next he

theorem execUnknownCommandCode {o g code : Byte} {args : List Byte} (h : QueuesWithin 16 s)
    (he : execUnknownCommandCode o g code args s = .next t) : QueuesWithin 16 t := by
  refine QueuesWithin.next ?_ he
  split
  · exact h
  · exact h.takeFront fun _ _ hu => hu.bump

theorem exec (h : QueuesWithin 16 s) : ∀ c, exec c s = .next t → QueuesWithin 16 t
  | .powerOn => QueuesWithin.next (reset.of_parts rfl rfl rfl)
  | .sync => h.validFrame.next
  | .answer _ => h.execAnswer
  | .clear _ => h.execClear
  | .command _ _ _ _ => h.execCommand
  | .trunkFrameDiscarded _ => h.discardFrame.next
  | .silenceTimerExpiry => h.silenceExpiry.next
  | .syncTimerExpiry => h.syncExpiry.next
  | .frameTransmitStart => h.transmitStart.next
  | .frameTransmitComplete => h.transmitComplete.next
  | .holdTimerExpiry => h.noticeHoldExpiry.next
  | .arbiterGrant _ => h.arbiterTurn.next
  | .events _ _ _ _ _ _ _ => h.receiveReply.next
  | .done _ _ _ _ => h.receiveReply.next
  | .count _ _ _ _ _ _ => h.receiveReply.next
  | .ack _ _ _ => h.receiveReply.next
  | .fail _ _ _ _ _ => h.receiveReply.next
  | .staleBoothFrame _ _ _ _ => h.receiveReply.next
  | .boothFrameGarbled _ => h.garbledFrame.next
  | .replyWindowExpiry _ => h.windowExpiry.next
  | .abandonedWindowHoldExpiry _ => h.windowHoldExpiry.next
  | .probeTimerExpiry _ => h.probeExpiry.next
  | .digitWaitExpiry _ => h.digitWaitExpires.next
  | .cardWaitExpiry _ => h.cardWaitExpires.next
  | .swapWindowExpiry _ => h.swapWindowExpires.next
  | .tick _ => h.tickEvent.next
  | .timeLimit _ => h.timeLimitCheck.next
  | .clockSecondAdvance => h.clockAdvance.next
  | .minuteBoundary => h.minuteTurn.next
  | .treeWrite _ _ _ => h.next_takeCommand (.write fun _ _ => ⟨rfl, rfl, rfl⟩)
  | .planWrite _ _ _ => h.next_takeCommand (.write fun _ _ => ⟨rfl, rfl, rfl⟩)
  | .classWrite _ _ _ => h.next_takeCommand (.write fun _ _ => ⟨rfl, rfl, rfl⟩)
  | .profileWrite _ _ _ => h.next_takeCommand (.write fun _ _ => ⟨rfl, rfl, rfl⟩)
  | .bandWrite _ _ _ => h.next_takeCommand (.write fun _ _ => ⟨rfl, rfl, rfl⟩)
  | .holidayWrite _ _ _ => h.next_takeCommand (.write fun _ _ => ⟨rfl, rfl, rfl⟩)
  | .cacheFence _ _ _ => h.next_takeCommand (.write fun _ _ => ⟨rfl, rfl, rfl⟩)
  | .seriesWrite _ _ args => h.next_takeCommand (keptBy_seriesWriteOwner args)
  | .stopAdd _ _ args => h.next_takeCommand (keptBy_stopAddOwner args)
  | .stopRemove _ _ args => h.next_takeCommand (keptBy_stopRemoveOwner args)
  | .boothMapWrite _ _ args => h.next_takeCommand (keptBy_boothMapOwner args)
  | .takeOut _ _ _ => h.next_controlRow (.onEnabled keptBy_takeOutBooth)
  | .returnBooth _ _ _ => h.next_controlRow (.onEnabled keptBy_bringBack)
  | .forceClear _ _ _ => h.next_controlRow (.onEnabled keptBy_forceClearBooth)
  | .boothControl _ _ _ => h.next_controlRow fun _ _ hu => hu
  | .segmentSetup _ _ args => h.next_takeCommand (keptBy_segmentSetupOwner args)
  | .segmentReset _ _ args => h.next_takeCommand (keptBy_segmentResetOwner args)
  | .ticketFetch _ _ _ => h.next_takeCommand (.write fun _ _ => ⟨rfl, rfl, rfl⟩)
  | .ticketRelease _ _ args => h.next_takeCommand (keptBy_ticketReleaseOwner args)
  | .ringSetup _ _ _ => h.next_takeCommand (.write fun _ _ => ⟨rfl, rfl, rfl⟩)
  | .serviceStart _ _ _ => h.next_takeCommand keptBy_serviceStartOwner
  | .serviceStop _ _ _ => h.next_takeCommand keptBy_serviceStopOwner
  | .restart _ _ _ => h.next_takeCommand keptBy_restartOwner
  | .clockSet _ _ args => h.next_takeCommand (keptBy_clockSetOwner args)
  | .limitsWrite _ _ _ => h.next_takeCommand (.write fun _ _ => ⟨rfl, rfl, rfl⟩)
  | .faultClear _ _ _ => h.next_takeCommand fun _ _ hu => hu.of_parts rfl rfl rfl
  | .noticeSetup _ _ _ => h.next_takeCommand (.write fun _ _ => ⟨rfl, rfl, rfl⟩)
  | .noticeClear _ _ _ => h.next_takeCommand (.write fun _ _ => ⟨rfl, rfl, rfl⟩)
  | .accessWrite _ _ _ => h.next_takeCommand (.write fun _ _ => ⟨rfl, rfl, rfl⟩)
  | .treeRead _ _ _ => h.next_takeCommand (.read _)
  | .planRead _ _ _ => h.next_takeCommand (.read _)
  | .classRead _ _ _ => h.next_takeCommand (.read _)
  | .seriesRead _ _ _ => h.next_takeCommand (.read _)
  | .stopProbe _ _ _ => h.next_takeCommand (.read _)
  | .boothRead _ _ _ => h.next_takeCommand (.read _)
  | .stopStatus _ _ _ => h.next_takeCommand fun _ _ hu => hu
  | .statusRead _ _ _ => h.next_takeCommand fun _ _ hu => hu
  | .faultRead _ _ _ => h.next_takeCommand fun _ _ hu => hu
  | .counterRead _ _ args => h.next_takeCommand (keptBy_counterReadOwner args)
  | .unknownCommandCode _ _ _ _ => h.execUnknownCommandCode

end

theorem stepKeeps : StepKeeps (QueuesWithin 16) := by
  intro s t hs ht
  unfold step at ht
  split at ht
  · exact (hs.of_parts (t := idle s) rfl rfl rfl).next ht
  next c rest _ =>
    have taken : QueuesWithin 16 { s with pending := rest } := hs.of_parts rfl rfl rfl
    exact taken.exec c ht

end Sys2Proof.Machine.QueuesWithin

section
open Sys2Proof Sys2Proof.Machine

/-- Settles O57: a frame joins the signalling queue only where `sigRoom` says so, a REPLY only where the take made room, a
COMMAND only below 8, a signal only in place of what stood first (`QueuesWithin.stepKeeps`); counters are counted up by
`satAdd` alone, and sparse tables written by `smPut` (`ClosedUnderWrites.stepKeeps`). -/
theorem capacitiesAreKept : Obligations.CapacitiesAreKept := by
  refine ⟨fun s t hs ht => ?_, countersBounded_closed.stepKeeps fun _ _ h => h,
    tablesCanonical_closed.stepKeeps fun _ _ h => h⟩
  exact queuesBounded_iff.mpr (QueuesWithin.stepKeeps s t (queuesBounded_iff.mp hs) ht)

end
end

section
/-!
# The silence timer's expiry (R21, R141, R152)
-/

namespace Sys2Proof.Machine

section
variable {s t : State} {b : Booth}

/-! ## Offers while the link is DOWN (R147, R152) -/

/-- A lost offer takes the booth off the waiting list, or puts it at its end. -/
theorem trunk_offerSlot_down (down : s.trunk.linkUp = false) :
    ∃ w, (offerSlot s).trunk = { s.trunk with waiting := w } := by
  unfold offerSlot
  split
  · exact ⟨_, rfl⟩
  · split
    · exact ⟨_, rfl⟩
    · rw [queueSig_down (s := modCtx _ _ s) _ down]
      exact ⟨_, rfl⟩

theorem ctx_offerSlot_held {r : List Booth} {d : Digit} {ds : List Digit} (waits : s.trunk.waiting = b :: r)
    (held : (s.ctx b).held = d :: ds) (x : Booth) :
    (offerSlot s).ctx x = (modCtx b (fun c => { c with held := ds }) s).ctx x := by
  have offered : offerSlot s =
      modTrunk (fun t => { t with waiting := if ds.isEmpty then r else r ++ [b] }) (digitSent b d ds s) := by
    simp only [offerSlot, waits, held, digitSent]
  rw [offered, ctx_modTrunk, ctx_digitSent]

/-- Each offer brings the offers nearer to their end. -/
theorem offersBound_offerSlot (waits : s.trunk.waiting ≠ []) : (offerSlot s).offersBound < s.offersBound := by
  obtain ⟨b, r, waits⟩ := List.exists_cons_of_ne_nil waits
  cases held : (s.ctx b).held with
  | nil => simp [offerSlot, waits, held, State.offersBound]
  | cons d ds =>
    have calls := ctx_offerSlot_held waits held
    have fewer : ∀ x ∈ r, ((offerSlot s).ctx x).held.length ≤ (s.ctx x).held.length := by
      intro x _
      rw [calls x, ctx_modCtx]
      split
      next same => simp [← same, held]
      next => exact le_rfl
    have rest := List.sum_le_sum fewer
    have own : ((offerSlot s).ctx b).held.length = ds.length := by rw [calls b, ctx_modCtx_self]
    have waiting : (offerSlot s).trunk.waiting = if ds.isEmpty then r else r ++ [b] := by
      simp [offerSlot, waits, held]
    unfold State.offersBound
    rw [waiting, waits]
    split <;> simp [own, held] <;> omega

theorem trunk_of_none_waiting (nobody : s.trunk.waiting = []) : s.trunk = { s.trunk with waiting := [] } := by
  rw [← nobody]

/-- While the link is DOWN offers go on until nobody waits. -/
theorem trunk_offerSlotsFuel_down {k : Nat} (down : s.trunk.linkUp = false) (enough : s.offersBound ≤ k) :
    (offerSlotsFuel k s).trunk = { s.trunk with waiting := [] } := by
  induction k generalizing s with
  | zero =>
    refine trunk_of_none_waiting (s := s) (List.eq_nil_of_length_eq_zero ?_)
    unfold State.offersBound at enough
    omega
  | succ k ih =>
    unfold offerSlotsFuel
    rw [sigRoom_down down, Bool.true_and]
    by_cases waits : s.trunk.waiting = []
    · rw [if_neg (by simp [waits])]
      exact trunk_of_none_waiting waits
    · obtain ⟨w, offered⟩ := trunk_offerSlot_down down
      have nearer := offersBound_offerSlot waits
      have still : (offerSlot s).trunk.linkUp = false := by
        rw [offered]
        exact down
      rw [if_pos (by simpa using waits), ih still (by omega), offered]

theorem trunk_offerSlots_down (down : s.trunk.linkUp = false) :
    (offerSlots s).trunk = { s.trunk with waiting := [] } := trunk_offerSlotsFuel_down down le_rfl

/-! ## The Trunk Port while the link is DOWN -/

/-- The Trunk Port after a link loss: the link DOWN, no frame queued and no booth waiting. -/
structure TrunkSilent (s : State) : Prop where
  down : s.trunk.linkUp = false
  noFrame : s.trunk.sigQueue = []
  nobody : s.trunk.waiting = []

theorem TrunkSilent.of_trunk (h : TrunkSilent s) (same : t.trunk = s.trunk) : TrunkSilent t where
  down := (congrArg Trunk.linkUp same).trans h.down
  noFrame := (congrArg Trunk.sigQueue same).trans h.noFrame
  nobody := (congrArg Trunk.waiting same).trans h.nobody

/-- The release of a channel finds nothing to withdraw and nobody to offer a slot to. -/
theorem TrunkSilent.releaseChannel (h : TrunkSilent s) (owe : Bool) :
    ∃ counters, releaseChannel b owe s = { s with counters := counters } := by
  have withdrawn : channelWithdrawn b s = { s with counters := (channelWithdrawn b s).counters } := by
    obtain ⟨-, noFrame, nobody⟩ := h
    have trunk : (channelWithdrawn b s).trunk = s.trunk := by
      have left : (channelWithdrawn b s).trunk = { s.trunk with
          sigQueue := s.trunk.sigQueue.filter fun f => !decide (f.channel = (s.entry b).channel)
          waiting := s.trunk.waiting.filter fun x => !decide (x = b) } := rfl
      rw [left, noFrame, nobody, List.filter_nil, List.filter_nil, ← noFrame, ← nobody]
    rw [← trunk]
    rfl
  have nobody : (channelWithdrawn b s).trunk.waiting = [] := by
    rw [withdrawn]
    exact h.nobody
  unfold Machine.releaseChannel
  dsimp only
  split
  · change ∃ counters, offerSlots (oweHangup (s.entry b).channel (channelWithdrawn b s)) = _
    rw [oweHangup_down (s := channelWithdrawn b s) _ h.down,
      offerSlots_of_none_waiting (s := bump Ctr.hangupsDiscarded (channelWithdrawn b s)) nobody, withdrawn]
    exact ⟨_, rfl⟩
  · change ∃ counters, offerSlots (channelWithdrawn b s) = _
    rw [offerSlots_of_none_waiting nobody, withdrawn]
    exact ⟨_, rfl⟩

/-- An end before answer reaches neither the Trunk Port nor another booth's context; its HANGUP is discarded (R152). -/
theorem TrunkSilent.endBeforeAnswer (h : TrunkSilent s) (cause : EndCause) :
    (endBeforeAnswer b cause s).trunk = s.trunk
      ∧ ∀ x, x ≠ b → (Machine.endBeforeAnswer b cause s).ctx x = s.ctx x := by
  have told : TrunkSilent (modBoothLine b (toldLine (endSignal cause)) (modCtx b (Ctx.endedWith cause) s)) :=
    ⟨h.down, h.noFrame, h.nobody⟩
  obtain ⟨counters, released⟩ := told.releaseChannel (b := b) (!decide (cause = .exchangeCleared))
  rw [endBeforeAnswer_eq, released]
  refine ⟨trunk_checkDrain _, fun x hx => ?_⟩
  rw [(drainTested_checkDrain _).rest]
  change (freeContext b _).ctx x = _
  rw [ctx_freeContext, if_neg hx.symm]
  exact ctx_modCtx_ne hx _ _

/-- The state before the offers that the entry to DOWN makes. -/
def linkCleared (s : State) : State :=
  s |> bumpBy Ctr.signallingDiscarded s.trunk.sigQueue.length
    |> bumpBy Ctr.hangupsDiscarded (s.trunk.hangupOwed.toList.count true)
    |> bumpBy Ctr.repliesDiscarded s.trunk.replyQueue.length
    |> bump Ctr.linkDowns
    |> modTrunk (fun t =>
        { t with linkUp := false, silence := none, sigQueue := [], hangupOwed := Vector.replicate 64 false,
                 replyQueue := [] })

theorem dropLink_eq (s : State) : dropLink s = offerSlots (linkCleared s) := rfl

/-- What the Trunk Port discards at the entry to DOWN (R152). -/
theorem trunk_dropLink (s : State) :
    (dropLink s).trunk =
      { s.trunk with
        linkUp := false, silence := none, sigQueue := [], waiting := [], hangupOwed := Vector.replicate 64 false
        replyQueue := [] } := by
  rw [dropLink_eq, trunk_offerSlots_down rfl]
  rfl

theorem trunkSilent_dropLink (s : State) : TrunkSilent (dropLink s) := by
  constructor <;> rw [trunk_dropLink]

/-! ## The calls that the loss ends (R21) -/

/-- The contexts of the booths in l that hold an unanswered call are the part's last that are not FREE, and it drains. -/
def LastUnanswered (l : List Booth) (s : State) : Prop :=
  s.mgmt.service = .draining ∧ (∃ b ∈ l, (s.ctx b).state.preAnswer = true)
    ∧ ∀ b, (s.ctx b).state = .free ∨ (b ∈ l ∧ (s.ctx b).state.preAnswer = true)

/-- A booth's line when the unanswered calls of the booths in l have ended with cause LINK. -/
def lineAfterLoss (l : List Booth) (s : State) (b : Booth) : BoothLine :=
  if b ∈ l ∧ (s.ctx b).state.preAnswer = true then lineAtCallEnd (toldLine (endSignal .link) (s.boothLine b))
  else s.boothLine b

/-- Every unanswered call of the booths in l has been ended before answer with cause LINK. -/
structure UnansweredEnded (l : List Booth) (s t : State) : Prop where
  ended : ∀ b ∈ l, (s.ctx b).state.preAnswer = true →
    t.ctx b = { Ctx.reset with hookOff := (s.ctx b).hookOff, endCause := some .link }
      ∧ t.debit b = { s.debit b with cards := [], uncertain := none }
  kept : ∀ b, ¬(b ∈ l ∧ (s.ctx b).state.preAnswer = true) →
    t.ctx b = s.ctx b ∧ t.debit b = s.debit b
  drained : LastUnanswered l s →
    t.mgmt.service = .outOfService ∧ ∀ b, t.boothLine b = lineAtDrainEnd (s.entry b).enabled (lineAfterLoss l s b)
  goesOn : ¬LastUnanswered l s → t.mgmt.service = s.mgmt.service ∧ ∀ b, t.boothLine b = lineAfterLoss l s b
  ring : t.ring =
    { s.ring with reserved := s.ring.reserved - l.countP fun b => (s.ctx b).state.preAnswer }
  rest : t = { s with
    ctxs := t.ctxs, debits := t.debits, line := { s.line with booths := t.line.booths }, ring := t.ring,
    mgmt := { s.mgmt with service := t.mgmt.service }, counters := t.counters }

theorem UnansweredEnded.nil (s : State) : UnansweredEnded [] s s where
  ended _ hb := absurd hb List.not_mem_nil
  kept _ _ := ⟨rfl, rfl⟩
  drained := fun ⟨_, ⟨_, hb, _⟩, _⟩ => absurd hb List.not_mem_nil
  goesOn _ := ⟨rfl, fun _ => (if_neg fun ⟨hb, _⟩ => absurd hb List.not_mem_nil).symm⟩
  ring := rfl
  rest := rfl

/-- A booth with no unanswered call adds nothing. -/
theorem UnansweredEnded.cons_answered {l : List Booth} (answered : (s.ctx b).state.preAnswer = false)
    (h : UnansweredEnded l s t) : UnansweredEnded (b :: l) s t := by
  have same : ∀ x, (x ∈ b :: l ∧ (s.ctx x).state.preAnswer = true) ↔ (x ∈ l ∧ (s.ctx x).state.preAnswer = true) := by
    intro x
    refine and_congr_left fun pre => List.mem_cons.trans (or_iff_right ?_)
    rintro rfl
    rw [answered] at pre
    cases pre
  have last : LastUnanswered (b :: l) s ↔ LastUnanswered l s := by
    simp only [LastUnanswered, same]
  have line : lineAfterLoss (b :: l) s = lineAfterLoss l s := by
    funext x
    simp only [lineAfterLoss, same]
  refine ⟨fun x hx pre => h.ended x ((same x).mp ⟨hx, pre⟩).1 pre, fun x hx => h.kept x (mt (same x).mpr hx), ?_, ?_, ?_,
    h.rest⟩
  · rw [last, line]
    exact h.drained
  · rw [last, line]
    exact h.goesOn
  · rw [List.countP_cons_of_neg (by simp [answered])]
    exact h.ring

/-- The first unanswered call of b :: l has been ended, and no other call is touched. -/
structure FirstEnded (b : Booth) (l : List Booth) (s v : State) : Prop where
  ends : EndedBeforeAnswer b .link s v
  trunk : v.trunk = s.trunk
  calls : ∀ x, x ≠ b → v.ctx x = s.ctx x
  unanswered : (s.ctx b).state.preAnswer = true
  apart : b ∉ l

namespace FirstEnded

variable {l : List Booth} {v : State}

theorem own (h : FirstEnded b l s v) : b ∈ b :: l ∧ (s.ctx b).state.preAnswer = true :=
  ⟨List.mem_cons_self .., h.unanswered⟩

theorem free (h : FirstEnded b l s v) : (v.ctx b).state = .free := by
  rw [h.ends.ctx]
  rfl

theorem entry (h : FirstEnded b l s v) (x : Booth) : v.entry x = s.entry x := by
  rw [h.ends.rest]
  rfl

/-- The calls still to be ended are the others. -/
theorem still_iff (h : FirstEnded b l s v) (x : Booth) :
    (x ∈ l ∧ (v.ctx x).state.preAnswer = true) ↔ x ≠ b ∧ x ∈ b :: l ∧ (s.ctx x).state.preAnswer = true := by
  by_cases hx : x = b
  · subst hx
    simp [h.apart]
  · rw [h.calls x hx]
    simp [hx]

theorem lastUnanswered_of_lastBusy (h : FirstEnded b l s v) (last : LastBusy b s) : LastUnanswered (b :: l) s := by
  obtain ⟨drains, others⟩ := last
  refine ⟨drains, ⟨b, h.own⟩, fun x => ?_⟩
  by_cases hx : x = b
  · exact .inr (hx ▸ h.own)
  · exact .inl (others x hx)

/-- After the part's last call none is left to end. -/
theorem none_of_lastBusy (h : FirstEnded b l s v) (last : LastBusy b s) (x : Booth) :
    ¬(x ∈ l ∧ (v.ctx x).state.preAnswer = true) := by
  rw [h.still_iff]
  rintro ⟨hx, -, pre⟩
  rw [last.2 x hx] at pre
  cases pre

theorem lastUnanswered_iff (h : FirstEnded b l s v) (more : ¬LastBusy b s) :
    LastUnanswered l v ↔ LastUnanswered (b :: l) s := by
  have service : v.mgmt.service = s.mgmt.service := (h.ends.others.more more).1
  unfold LastUnanswered
  rw [service]
  refine and_congr_right fun drains => ⟨fun ⟨_, all⟩ => ⟨⟨b, h.own⟩, fun x => ?_⟩,
    fun ⟨_, all⟩ => ⟨?_, fun x => ?_⟩⟩
  · by_cases hx : x = b
    · exact .inr (hx ▸ h.own)
    · exact (all x).imp (fun free => h.calls x hx ▸ free) fun still => ((h.still_iff x).mp still).2
  · obtain ⟨x, hx, busy⟩ : ∃ x, x ≠ b ∧ (s.ctx x).state ≠ .free := by
      by_contra noneBusy
      push Not at noneBusy
      exact more ⟨drains, noneBusy⟩
    exact ⟨x, (h.still_iff x).mpr ⟨hx, (all x).resolve_left busy⟩⟩
  · by_cases hx : x = b
    · exact .inl (hx ▸ h.free)
    · exact (all x).imp (fun free => (h.calls x hx).symm ▸ free) fun pre => (h.still_iff x).mpr ⟨hx, pre⟩

theorem lineAfterLoss_eq (h : FirstEnded b l s v) (more : ¬LastBusy b s) :
    lineAfterLoss l v = lineAfterLoss (b :: l) s := by
  funext x
  unfold lineAfterLoss
  by_cases hx : x = b
  · subst hx
    rw [if_neg fun still => h.apart still.1, if_pos h.own]
    exact h.ends.line more
  · simp only [h.still_iff, hx, ne_eq, not_false_eq_true, true_and, (h.ends.others.more more).2 x hx]

/-- The end of the part's last call ends the drain. -/
theorem lineAfterLoss_last (h : FirstEnded b l s v) (last : LastBusy b s) (x : Booth) :
    lineAfterLoss l v x = lineAtDrainEnd (s.entry x).enabled (lineAfterLoss (b :: l) s x) := by
  unfold lineAfterLoss
  rw [if_neg (h.none_of_lastBusy last x)]
  by_cases hx : x = b
  · subst hx
    rw [if_pos h.own]
    exact h.ends.lastLine last
  · have answered : ¬(x ∈ b :: l ∧ (s.ctx x).state.preAnswer = true) := fun pre =>
      h.none_of_lastBusy last x ((h.still_iff x).mpr ⟨hx, pre⟩)
    rw [if_neg answered]
    exact (h.ends.others.last last).2 x hx

end FirstEnded

/-- The end of one unanswered call, and those of the others after it. -/
theorem UnansweredEnded.cons_unanswered {l : List Booth} {v : State} (first : FirstEnded b l s v)
    (h : UnansweredEnded l v t) : UnansweredEnded (b :: l) s t where
  ended x hx pre := by
    by_cases hxb : x = b
    · subst hxb
      obtain ⟨ctx, debit⟩ := h.kept x fun still => first.apart still.1
      exact ⟨ctx.trans first.ends.ctx, debit.trans first.ends.debit⟩
    · obtain ⟨hl, still⟩ := (first.still_iff x).mpr ⟨hxb, hx, pre⟩
      obtain ⟨ctx, debit⟩ := h.ended x hl still
      rw [first.calls x hxb] at ctx
      rw [(first.ends.others.calls x hxb).2.1] at debit
      exact ⟨ctx, debit⟩
  kept x hx := by
    have hxb : x ≠ b := fun same => hx (same ▸ first.own)
    obtain ⟨ctx, debit⟩ := h.kept x fun still => hx ((first.still_iff x).mp still).2
    exact ⟨ctx.trans (first.calls x hxb), debit.trans (first.ends.others.calls x hxb).2.1⟩
  drained last := by
    by_cases busy : LastBusy b s
    · obtain ⟨service, lines⟩ := h.goesOn fun ⟨_, ⟨x, still⟩, _⟩ => first.none_of_lastBusy busy x still
      refine ⟨service.trans (first.ends.others.last busy).1, fun x => ?_⟩
      rw [lines, first.lineAfterLoss_last busy]
    · obtain ⟨service, lines⟩ := h.drained ((first.lastUnanswered_iff busy).mpr last)
      refine ⟨service, fun x => ?_⟩
      rw [lines, first.entry, first.lineAfterLoss_eq busy]
  goesOn more := by
    have busy : ¬LastBusy b s := fun last => more (first.lastUnanswered_of_lastBusy last)
    obtain ⟨service, lines⟩ := h.goesOn (mt (first.lastUnanswered_iff busy).mp more)
    refine ⟨service.trans (first.ends.others.more busy).1, fun x => ?_⟩
    rw [lines, first.lineAfterLoss_eq busy]
  ring := by
    have count : (l.countP fun x => (v.ctx x).state.preAnswer) = l.countP fun x => (s.ctx x).state.preAnswer :=
      List.countP_congr fun x hx => by rw [first.calls x fun same => first.apart (same ▸ hx)]
    rw [h.ring, first.ends.ring, count, List.countP_cons_of_pos (by exact first.unanswered), Nat.sub_sub, Nat.add_comm 1]
  rest := by
    have rest := h.rest
    rw [first.ends.rest, first.trunk] at rest
    exact rest

/-- The calls of the booths in l, ended one after the other. -/
theorem unansweredEnded_foldl {l : List Booth} (hl : l.Nodup) (silent : TrunkSilent s) :
    UnansweredEnded l s
      (l.foldl (fun t b => if (t.ctx b).state.preAnswer then endBeforeAnswer b .link t else t) s) := by
  induction l generalizing s with
  | nil => exact .nil s
  | cons b l ih =>
    obtain ⟨hb, hl⟩ := List.nodup_cons.mp hl
    rw [List.foldl_cons]
    cases pre : (s.ctx b).state.preAnswer with
    | false =>
      rw [if_neg Bool.false_ne_true]
      exact (ih hl silent).cons_answered pre
    | true =>
      rw [if_pos rfl]
      obtain ⟨trunk, calls⟩ := silent.endBeforeAnswer (b := b) .link
      exact (ih hl (silent.of_trunk trunk)).cons_unanswered ⟨endedBeforeAnswer b .link s, trunk, calls, pre, hb⟩

theorem unansweredEnded_endUnanswered (silent : TrunkSilent s) : UnansweredEnded allBooths s (endUnanswered s) :=
  unansweredEnded_foldl (List.nodup_finRange 48) silent

/-! ## The expiry -/

/-- Beyond the Trunk Port the entry to DOWN takes held digits of booths that waited, and counts (R147, R152). -/
structure LinkDropped (s u : State) : Prop where
  calls : ∀ x, u.ctx x = { s.ctx x with held := (u.ctx x).held }
  rest : u = { s with ctxs := u.ctxs, trunk := u.trunk, counters := u.counters }

/-- t is s but for its Trunk Port and its counters. -/
def TrunkAndCountersOnly (s t : State) : Prop :=
  ∃ trunk counters, t = { s with trunk := trunk, counters := counters }

theorem TrunkAndCountersOnly.bumpBy {w : State} (c : CounterId) (n : Nat) :
    TrunkAndCountersOnly s w → TrunkAndCountersOnly s (bumpBy c n w) := by
  rintro ⟨trunk, counters, rfl⟩
  exact ⟨trunk, _, rfl⟩

theorem TrunkAndCountersOnly.modTrunk {w : State} (f : Trunk → Trunk) :
    TrunkAndCountersOnly s w → TrunkAndCountersOnly s (modTrunk f w) := by
  rintro ⟨trunk, counters, rfl⟩
  exact ⟨f trunk, counters, rfl⟩

theorem trunkAndCountersOnly_linkCleared (s : State) : TrunkAndCountersOnly s (linkCleared s) :=
  have start : TrunkAndCountersOnly s s := ⟨s.trunk, s.counters, rfl⟩
  ((((start.bumpBy _ _).bumpBy _ _).bumpBy _ _).bumpBy _ _).modTrunk _

theorem SlotsOffered.linkDropped {w u : State} (h : SlotsOffered w u) :
    TrunkAndCountersOnly s w → LinkDropped s u := by
  rintro ⟨trunk, counters, rfl⟩
  exact { calls := h.calls, rest := h.rest }

theorem linkDropped_dropLink (s : State) : LinkDropped s (dropLink s) :=
  dropLink_eq s ▸ (slotsOffered_offerSlots (linkCleared s)).linkDropped (trunkAndCountersOnly_linkCleared s)

namespace LinkDropped

variable {u : State}

theorem state (h : LinkDropped s u) (x : Booth) : (u.ctx x).state = (s.ctx x).state := by
  rw [h.calls]

theorem debit (h : LinkDropped s u) (x : Booth) : u.debit x = s.debit x := by
  rw [h.rest]
  rfl

theorem boothLine (h : LinkDropped s u) (x : Booth) : u.boothLine x = s.boothLine x := by
  rw [h.rest]
  rfl

theorem entry (h : LinkDropped s u) (x : Booth) : u.entry x = s.entry x := by
  rw [h.rest]
  rfl

theorem service (h : LinkDropped s u) : u.mgmt.service = s.mgmt.service := by
  rw [h.rest]

theorem ring (h : LinkDropped s u) : u.ring = s.ring := by
  rw [h.rest]

theorem lastUnanswered_iff (h : LinkDropped s u) :
    LastUnanswered allBooths u ↔
      s.mgmt.service = .draining ∧ (∃ b, (s.ctx b).state.preAnswer = true)
        ∧ ∀ b, (s.ctx b).state = .free ∨ (s.ctx b).state.preAnswer = true := by
  simp [LastUnanswered, h.service, h.state, allBooths]

theorem lineAfterLoss_eq (h : LinkDropped s u) (x : Booth) :
    lineAfterLoss allBooths u x =
      if (s.ctx x).state.preAnswer = true then lineAtCallEnd (toldLine (endSignal .link) (s.boothLine x))
      else s.boothLine x := by
  simp [lineAfterLoss, h.state, h.boothLine, allBooths]

end LinkDropped

theorem silenceExpiry_of_running {i : Instant} (h : s.trunk.silence = some i) :
    silenceExpiry s = endUnanswered (dropLink { s with now := max s.now i }) := by
  unfold silenceExpiry
  rw [h]
  rfl

end

end Sys2Proof.Machine

section
open Sys2Proof Sys2Proof.Machine

/-- Settles O29: the Trunk Port discards first (`trunk_dropLink`), so that the ends of the calls find it silent
(`TrunkSilent`); they are taken booth by booth, and the last one ends a drain (`unansweredEnded_foldl`). -/
theorem linkLossDiscardsAndEnds : Obligations.LinkLossDiscardsAndEnds := by
  intro s i running drains line
  have expires : exec .silenceTimerExpiry s = .next (endUnanswered (dropLink { s with now := max s.now i })) :=
    congrArg Host.Outcome.next (silenceExpiry_of_running running)
  have D := linkDropped_dropLink { s with now := max s.now i }
  have trunk := trunk_dropLink { s with now := max s.now i }
  have U := unansweredEnded_endUnanswered (trunkSilent_dropLink { s with now := max s.now i })
  have settings := settingsChangeOnlyByTheirCommands _ _ _ rfl expires
  generalize endUnanswered (dropLink { s with now := max s.now i }) = t at expires U settings
  generalize dropLink { s with now := max s.now i } = u at D trunk U
  have down : t.trunk = u.trunk := by rw [U.rest]
  have same : ∀ b, (u.ctx b).state.preAnswer = (s.ctx b).state.preAnswer := fun b =>
    congrArg CtxState.preAnswer (D.state b)
  have lines : ∀ b, lineAfterLoss allBooths u b = line b := D.lineAfterLoss_eq
  refine ⟨t, expires, ?_, ?_, ?_, ?_, ?_, fun ch => ?_, ?_, ?_, ?_, fun b pre => ?_, fun b answered => ?_,
    fun ends => ?_, fun goesOn => ?_, ?_, ?_, settings⟩
  iterate 5 rw [down, trunk]
  · rw [down, trunk]
    exact get_replicate false ch
  iterate 3 rw [down, trunk]
  · obtain ⟨ctx, debit⟩ := U.ended b (List.mem_finRange b) ((same b).trans pre)
    refine ⟨?_, ?_⟩
    · rw [ctx, D.calls]
      rfl
    · rw [debit, D.debit]
      rfl
  · obtain ⟨ctx, debit⟩ := U.kept b fun ⟨_, pre⟩ => absurd (answered.symm.trans ((same b).symm.trans pre)) nofun
    refine ⟨?_, ?_⟩
    · rw [ctx]
      exact D.calls b
    · rw [debit, D.debit]
      rfl
  · obtain ⟨service, after⟩ := U.drained (D.lastUnanswered_iff.mpr ends)
    refine ⟨service, fun b => ?_⟩
    rw [after, lines, D.entry]
    rfl
  · obtain ⟨service, after⟩ := U.goesOn (mt D.lastUnanswered_iff.mp goesOn)
    refine ⟨service.trans D.service, fun b => ?_⟩
    rw [after, lines]
  · rw [U.ring, D.ring]
    simp only [D.state]
    rfl
  · have rest := U.rest
    rw [D.rest, ← down] at rest
    exact rest

end
end
